-- ==== Sys2Proof/Word.lean ====
section
/-!
DEFINITION. The word types of the FZ4816: the processor's 16-bit data word, the 32-bit code word of plane Q, the 16-bit
unit of the maintenance and twin links, and the ring of 8-bit counts (epoch and cycle number).
Counts, block numbers and word indexes are natural numbers; only what the manual treats as bits is a bit vector.
-/
namespace Sys2Proof

/-- A data word of plane P (R1). -/
abbrev Word := BitVec 16

/-- A raw value of plane Q (R1). -/
abbrev Code := BitVec 32

/-- One 16-bit unit of the maintenance link (R185) or of the twin link (R183). -/
abbrev Unit16 := BitVec 16

/-- The epoch or the cycle number, counted modulo 256 (R117). -/
abbrev Count8 := BitVec 8

/-- The high byte of a unit or word (the processor's upper lane, section 3.2). -/
def hiByte (w : BitVec 16) : BitVec 8 := w.extractLsb' 8 8

/-- The low byte of a unit or word (the processor's lower lane, section 3.2). -/
def loByte (w : BitVec 16) : BitVec 8 := w.extractLsb' 0 8

/-- A unit of two bytes, high byte first. -/
def ofBytes (hi lo : BitVec 8) : BitVec 16 := hi ++ lo

/-- A number as one unit. -/
def unit (n : Nat) : Unit16 := BitVec.ofNat 16 n

/-- A 32-bit value as two units, high unit first (R185). -/
def units32 (v : BitVec 32) : List Unit16 := [v.extractLsb' 16 16, v.extractLsb' 0 16]

end Sys2Proof
end

