-- ==== Sys2Proof/Syntax.lean ====
section
/-!
DEFINITION. The commands of the FZ4816: one constructor of `Instr` for each row of spec/opcode_table.json, with the
operands the spec gives it. A command is one whole, indivisible step (section 3.6 and 95_what_each_step_holds.md).
-/
namespace Sys2Proof

/-- A byte lane: the upper lane carries the byte at the even address (section 3.2). -/
inductive Lane where
  | upper
  | lower
deriving DecidableEq, Repr

/-- What one bus cycle moves, as the read/write line, function lines, lane strobes and data lines say it (R41). -/
inductive Transfer where
  | wordRead
  | fetch
  | byteRead (lane : Lane)
  | wordWrite (data : Word)
  | byteWrite (lane : Lane) (data : BitVec 8)
deriving DecidableEq, Repr

/-- A bus cycle as the processor presents it (R41): its 24-bit byte address, what it moves, and the lock line. -/
structure BusCycle where
  addr     : BitVec 24
  transfer : Transfer
  lock     : Bool
deriving DecidableEq, Repr

/-- One unit as the twin-link receiver samples it (R183): its first-unit flag, its data and its stop bit. -/
structure RxUnit where
  first : Bool
  data  : Unit16
  stop  : Bool
deriving DecidableEq, Repr

/-- The three operand units of one LOAD_REMAP entry (R185): logical block, spare index, state (0 LIVE, 1 DEAD). -/
structure RemapOperand where
  block : Unit16
  spare : Unit16
  state : Unit16
deriving DecidableEq, Repr

/-- The commands, in the order of spec/opcode_table.json. -/
inductive Instr where
  -- power and reset (R181)
  | powerOn
  | systemResetAssert
  | internalResetEnd
  -- the processor bus (Chapter 3)
  | accessPresented (cycle : BusCycle)
  | takeAccess
  | presentedAccessWithdrawn
  | accessWithdrawn
  | lockedWriteHalfPresented (cycle : BusCycle)
  /-- the lock line negated; `some c` where the processor presents the access `c` instead of a write half (R53) -/
  | lockNegated (presented : Option BusCycle)
  -- the processor side's groups at the memory port (R59)
  | procReadGroup
  | procPlainWriteGroup
  | procAgreedWriteGroup
  | procByteWriteGroup
  | lockedReadHalfGroup
  | lockedWriteHalfGroup
  -- the engine's groups at the memory port (R59)
  | copyWordRead
  | copyWordWrite
  | restoreWordRead
  | restoreWordWrite
  | retireWordRead
  | retireWordWrite
  | clearWrite
  | scrubWordCheck
  | diagnosticRead
  -- scheduling (Chapter 8)
  | retireTake
  | scrubTimerExpiry
  -- cycle and agreement (Chapter 7)
  | fixLocalKind
  | verdictWordWrite
  | agreementTimerExpiry
  | cycleDeadlineExpiry
  -- the twin link (sections 7.5 and 11.2)
  /-- units arriving on the receive line; each frame they complete is judged (R184) -/
  | twinFrameReceived (units : List RxUnit)
  | twinLineIdleTimeout
  | linkTimerExpiry
  | idleFrameTimerExpiry
  | transmitFrameEnd
  -- the maintenance link (Chapter 10); operands are units as R185 lays them out
  | chipSelectAssert
  | chipSelectNegate
  | unknownCommand (code : Unit16)
  | getStatus
  | selectRegion (entry : Unit16)
  | regionField (value : Unit16)
  | readRegion (entry : Unit16)
  | setParam (selector : Unit16) (value : BitVec 32)
  | readParam (selector : Unit16)
  | loadRemap (count : Unit16) (entries : List RemapOperand)
  | readRemap
  | start
  | reinit
  | hold
  | release
  | popFault
  | peekFault
  | readCounters
  | clearCounters
  | setAlarmMask (members : Unit16)
  | ackAlarm (members : Unit16)
  | enableVital
  | requestRollback
  | retireBlock (block : Unit16)
  | readWordRequest (word : BitVec 32)
  | readWordCollection
  | readEngine
deriving DecidableEq, Repr

end Sys2Proof
end

