-- ==== Sys2Proof/Decode.lean ====
section
/-!
DEFINITION. Reading a command from a word, and from the units of a maintenance frame. No row of spec/opcode_table.json has any
bits ("fields": [], no "fixed"), so no word of the table spells a command (log 10). R185 gives the maintenance commands their
codes and operand units: `commandOfUnits` reads them and `commandUnits` writes them.
-/
namespace Sys2Proof

/-- The command a word spells by the table's bits: none, since the table gives no row bits. -/
def decodeTableWord (_nbits _w : Nat) : Option Instr := none

/-! ### Maintenance frames (R170, R185) -/

/-- The first n entries of a LOAD_REMAP, three units each, where they have all arrived. -/
def remapOperands : Nat → List Unit16 → Option (List RemapOperand)
  | 0, _ => some []
  | n + 1, b :: i :: x :: rest => (remapOperands n rest).map (⟨b, i, x⟩ :: ·)
  | _ + 1, _ => none

/-- A command of one operand unit. -/
def withUnit (f : Unit16 → Instr) (us : List Unit16) : Option Instr := us.head?.map f

/-- A command of one operand value of 32 bits, high unit first. -/
def withValue (f : BitVec 32 → Instr) : List Unit16 → Option Instr
  | hi :: lo :: _ => some (f (hi ++ lo))
  | _ => none

/-- LOAD_REMAP: an entry count above 8 completes it at once; else three units for each entry follow. -/
def remapOfUnits : List Unit16 → Option Instr
  | n :: rest => if 8 < n.toNat then some (.loadRemap n []) else (remapOperands n.toNat rest).map (.loadRemap n)
  | [] => none

/-- The command that a code and the units after it stand for, once its last operand unit has arrived; units after that are
ignored (R170). -/
def commandOfCode (code : Unit16) (us : List Unit16) : Option Instr :=
  match code.toNat with
  | 0x01 => some .getStatus
  | 0x02 => withUnit .selectRegion us
  | 0x03 => withUnit .regionField us
  | 0x04 => withUnit .readRegion us
  | 0x05 =>
    match us with
    | sel :: rest => withValue (.setParam sel) rest
    | [] => none
  | 0x06 => withUnit .readParam us
  | 0x07 => remapOfUnits us
  | 0x08 => some .readRemap
  | 0x09 => some .start
  | 0x0A => some .reinit
  | 0x0B => some .hold
  | 0x0C => some .release
  | 0x0D => some .popFault
  | 0x0E => some .peekFault
  | 0x0F => some .readCounters
  | 0x10 => some .clearCounters
  | 0x11 => withUnit .setAlarmMask us
  | 0x12 => withUnit .ackAlarm us
  | 0x13 => some .enableVital
  | 0x14 => some .requestRollback
  | 0x15 => withUnit .retireBlock us
  | 0x16 => withValue .readWordRequest us
  | 0x17 => some .readWordCollection
  | 0x18 => some .readEngine
  | _ => some (.unknownCommand code)

/-- The command the units received in a frame stand for; none while it is incomplete. -/
def commandOfUnits : List Unit16 → Option Instr
  | [] => none
  | code :: us => commandOfCode code us

/-- The units of a maintenance command, its code first; none for an event that is no maintenance command. -/
def commandUnits : Instr → Option (List Unit16)
  | .unknownCommand code => some [code]
  | .getStatus => some [0x01]
  | .selectRegion entry => some [0x02, entry]
  | .regionField value => some [0x03, value]
  | .readRegion entry => some [0x04, entry]
  | .setParam selector value => some (0x05 :: selector :: units32 value)
  | .readParam selector => some [0x06, selector]
  | .loadRemap count entries => some (0x07 :: count :: entries.flatMap fun e => [e.block, e.spare, e.state])
  | .readRemap => some [0x08]
  | .start => some [0x09]
  | .reinit => some [0x0A]
  | .hold => some [0x0B]
  | .release => some [0x0C]
  | .popFault => some [0x0D]
  | .peekFault => some [0x0E]
  | .readCounters => some [0x0F]
  | .clearCounters => some [0x10]
  | .setAlarmMask members => some [0x11, members]
  | .ackAlarm members => some [0x12, members]
  | .enableVital => some [0x13]
  | .requestRollback => some [0x14]
  | .retireBlock block => some [0x15, block]
  | .readWordRequest word => some (0x16 :: units32 word)
  | .readWordCollection => some [0x17]
  | .readEngine => some [0x18]
  | _ => none

end Sys2Proof
end

