-- ==== Sys2Proof/Config.lean ====
section
/-!
DEFINITION. The constants of the part, the one value the model fixes for the memory devices, and the two free values: how far a
group had come when a reset cuts it short, and whether it had begun when a REINIT arrives. The spec leaves no result of a command
undefined.
-/
namespace Sys2Proof.Config

/-- The prime A of the signature arithmetic (section 1.2). -/
def prime : Nat := 65521

/-- The factor of the epoch term (R2). -/
def epochFactor : Nat := 251

/-- The largest code word; a plane Q value above it is never valid (R4, R5). -/
def maxCode : Nat := 4293984255

/-- Words in a block (terms). -/
def blockWords : Nat := 128

/-- Words in a chunk (R69). -/
def chunkWords : Nat := 32

/-- The most records the fault queue holds (R161). -/
def faultQueueSize : Nat := 16

/-- The most blocks the retire queue holds (R149). -/
def retireQueueSize : Nat := 4

/-- The most entries the repair history holds (R147). -/
def historySize : Nat := 8

/-- The most entries the remap table holds (R151). -/
def remapSize : Nat := 8

/-- A counter saturates here (R163). -/
def counterMax : Nat := 65535

/-- What a byte of a memory plane reads as when nothing has written it. R1: "After power-on they hold whatever the memory
devices hold." All ones makes every unwritten word UNCORRECTABLE, as the note to R1 says it normally is.
DESIGN CHOICE, unsafe (log 1). -/
def unwrittenByte : BitVec 8 := 0xFF

/-- Free value: how many of its writes the group that the n-th reset cuts short had made (R66, R181: "a group in progress is cut
short", at no stated point). DESIGN CHOICE (log 35). -/
opaque cutAfter : Nat → Nat

/-- Free value: whether the group the port was granted for had begun when the n-th REINIT or reset arrived (R58, R66: one that has
begun is carried through at REINIT, one that has not is dropped). DESIGN CHOICE (log 38). -/
opaque groupBegun : Nat → Bool

end Sys2Proof.Config
end

