-- ==== Sys2Proof/Machine/State.lean ====
section
/-!
DEFINITION. The state of the FZ4816, block by block as section 2.1 lists the blocks, its faults and refusals, and its
value after power-on and system reset.
-/
namespace Sys2Proof.Machine

/-! ### The Region Decoder (Chapter 2) -/

/-- The class of a region (R23). -/
inductive RegionClass where
  | closed
  | code
  | const
  | work
  | cyclic
deriving DecidableEq, Repr

/-- The end of the window at which the authorised blocks lie (R22). -/
inductive Direction where
  | up
  | down
deriving DecidableEq, Repr

/-- The attributes a region carries (R25). -/
structure Attrs where
  checkpoint : Bool
  agreed     : Bool
  scrub      : Bool
  vital      : Bool
deriving DecidableEq, Repr

/-- A present descriptor (R21). The shadow base is present only with CHECKPOINT. -/
structure Descriptor where
  cls    : RegionClass
  base   : Nat
  span   : Nat
  len    : Nat
  dir    : Direction
  key    : Nat
  attrs  : Attrs
  shadow : Option Nat
deriving DecidableEq, Repr

/-- A table entry's number (R20). -/
abbrev Region := Fin 16

/-- The region table (R20): absent or present, for each of 16 entries. -/
abbrev Table := Vector (Option Descriptor) 16

/-- The staging descriptor (R27). The phase says how many of its fields have been loaded; a field not loaded holds the
value of the empty staging descriptor. -/
structure Staging where
  cls    : RegionClass
  base   : Nat
  span   : Nat
  len    : Nat
  dir    : Direction
  key    : Nat
  attrs  : Attrs
  shadow : Nat
deriving DecidableEq, Repr

/-- The empty staging descriptor (R27). -/
def Staging.empty : Staging :=
  ⟨.closed, 0, 0, 0, .up, 0, ⟨false, false, false, false⟩, 0⟩

/-- The Region Decoder's state. -/
structure Rgd where
  /-- the region table (R20) -/
  table     : Table
  /-- the region pointer (R27) -/
  pointer   : Region
  /-- the field phase (R27) -/
  phase     : Fin 8
  /-- the staging descriptor (R27) -/
  staging   : Staging
  /-- the load period, open or closed (R24) -/
  loadOpen  : Bool
  /-- the layout tag (R34) -/
  layoutTag : BitVec 16
deriving DecidableEq, Repr

/-! ### The Host Bus Interface (Chapter 3) -/

/-- The access kinds (section 3.3). -/
inductive AccessKind where
  | wordRead
  | fetch
  | byteRead
  | wordWrite
  | byteWrite
  | locked
deriving DecidableEq, Repr

/-- The write half of a LOCKED sequence, once it has arrived (R40, R52). -/
inductive WriteHalf where
  | word (data : Word)
  | byte (lane : Lane) (data : BitVec 8)
deriving DecidableEq, Repr

/-- Kind, lane and write data of a taken access (R40). -/
inductive AccessOp where
  | wordRead
  | fetch
  | byteRead (lane : Lane)
  | wordWrite (data : Word)
  | byteWrite (lane : Lane) (data : BitVec 8)
  | locked (half : Option WriteHalf)
deriving DecidableEq, Repr

/-- The decode record of a permitted access (R32). -/
structure DecodeRecord where
  region : Region
  cls    : RegionClass
  key    : Nat
  attrs  : Attrs
  dir    : Direction
  block  : Nat
  offset : Nat
  shadow : Option Nat
  marker : Bool
deriving DecidableEq, Repr

/-- The phases of a taken access (R40). IDLE is the absence of a current access. -/
inductive Phase where
  | heldBlock
  | heldRetire
  | heldMarker
  | atPort
  | lockedOpen
deriving DecidableEq, Repr

/-- The current access while one is taken (R40). -/
structure Access where
  op        : AccessOp
  word      : Nat
  record    : DecodeRecord
  phase     : Phase
  withdrawn : Bool
deriving DecidableEq, Repr

/-- How the part ended an access (R54): an acknowledge carries a word for WORD_READ, FETCH and the read half of a LOCKED
sequence, a byte for BYTE_READ, and nothing for a write; a bus error carries nothing. -/
inductive BusEnd where
  | ackWord (data : Word)
  | ackByte (data : BitVec 8)
  | ackWrite
  | berr
deriving DecidableEq, Repr

/-- The Host Bus Interface's state. -/
structure Hbi where
  /-- the current access; none is IDLE (R40) -/
  access    : Option Access
  /-- the access presented but not taken (R40, R41) -/
  presented : Option BusCycle
  /-- the end given to the processor's latest bus cycle; none from the start of a bus cycle until its end (R54; log 9) -/
  busEnd    : Option BusEnd
deriving DecidableEq, Repr

/-! ### The Coding Unit (Chapter 1) -/

/-- The classification of a checked word (R7, R8). -/
inductive Classification where
  | clean
  | pRepair
  | qRepair
  | uncorrectable
  | stale
deriving DecidableEq, Repr

/-- What a check found in plane Q (R9). -/
inductive QFinding where
  | valid
  | previousEpoch
  | outOfRange
  | wrongRemainder
deriving DecidableEq, Repr

/-- What a check found in plane P (R9). -/
inductive PFinding where
  | agrees
  | differs
  | notTested
deriving DecidableEq, Repr

/-- What became of the repair a check called for (R9). -/
inductive RepairField where
  | none
  | pWritten
  | qWritten
  | withheld
deriving DecidableEq, Repr

/-- The check report (R9). -/
structure CheckReport where
  cls      : Classification
  data     : Option Word
  rawP     : Word
  rawQ     : Code
  qFinding : QFinding
  pFinding : PFinding
  distance : Option Nat
  repair   : RepairField
deriving DecidableEq, Repr

/-- The contents of the coding latch: a classification, and the checked data where there is any (R12). -/
structure Latch where
  cls  : Classification
  data : Option Word
deriving DecidableEq, Repr

/-- The Coding Unit's state: the coding latch, empty or not (R12). -/
structure Cdu where
  latch : Option Latch
deriving DecidableEq, Repr

/-! ### The Memory Port and the Transfer Engine (Chapter 4) -/

/-- The grant of the memory port (R61). -/
inductive Grant where
  | none
  | processor
  | locked
  | engine
deriving DecidableEq, Repr

/-- The Memory Port's state. -/
structure Mpt where
  /-- the grant (R61) -/
  grant : Grant
  /-- the engine burst count (R61) -/
  count : Nat
  /-- the limit of this grant, the BURST parameter as read when it began (R62) -/
  limit : Nat
deriving DecidableEq, Repr

/-- The engine's seven kinds of operation, by rank (R67). -/
inductive EngineKind where
  | clear
  | priorityBlock
  | readWord
  | restorePass
  | checkpointPass
  | retire
  | scrubBurst
deriving DecidableEq, Repr

/-- The working copy or the shadow (R67). -/
inductive Part where
  | working
  | shadow
deriving DecidableEq, Repr

/-- A position: region, part, logical block and word offset (R67, R159). -/
structure Position where
  region : Region
  part   : Part
  block  : Nat
  offset : Nat
deriving DecidableEq, Repr

/-- A run of blocks to clear: `count` blocks from `lo`, in the region's direction order (R78, R79). -/
structure ClearRange where
  region : Region
  part   : Part
  lo     : Nat
  count  : Nat
  dir    : Direction
deriving DecidableEq, Repr

/-- The CLEAR slot (R67): the ranges still to clear, the blocks of the first range already cleared, and the word offset in
the block in hand. `atStart` tells the clear of START (R78) from that of an installation in HOLD (R79). -/
structure ClearOp where
  atStart : Bool
  ranges  : List ClearRange
  done    : Nat
  offset  : Nat
  begun   : Bool
deriving DecidableEq, Repr

/-- Copy (working to shadow) or restore (shadow to working) (R70, R71). -/
inductive Move where
  | copy
  | restore
deriving DecidableEq, Repr

/-- The PRIORITY_BLOCK slot (R72); `offset` is the next word to read. -/
structure PriorityOp where
  move   : Move
  region : Region
  block  : Nat
  offset : Nat
  begun  : Bool
deriving DecidableEq, Repr

/-- The READ_WORD slot (R76). -/
structure ReadWordOp where
  word  : Nat
  begun : Bool
deriving DecidableEq, Repr

/-- A pass's place: its current block and the next word to read there (R67, R88, R105). -/
structure PassPos where
  region : Region
  block  : Nat
  offset : Nat
deriving DecidableEq, Repr

/-- The CHECKPOINT_PASS or the RESTORE_PASS slot (R67). `stale` says that the kept position lies in a block that has left
the pass's set, so that the resuming pass discards it (R72, R95, R113). -/
structure PassOp where
  pos   : Option PassPos
  stale : Bool
  begun : Bool
deriving DecidableEq, Repr

/-- The RETIRE slot (R74): the logical block, its owning region and part, the spare index chosen, the next word to read. -/
structure RetireOp where
  block  : Nat
  region : Region
  part   : Part
  spare  : Nat
  offset : Nat
  begun  : Bool
deriving DecidableEq, Repr

/-- The SCRUB_BURST slot (R77): the word checks left. -/
structure ScrubOp where
  left  : Nat
  begun : Bool
deriving DecidableEq, Repr

/-- The mode of the FIFO (R69). -/
inductive FifoMode where
  | empty
  | filling
  | draining
deriving DecidableEq, Repr

/-- An entry of the FIFO (R69): the checked data, the word offset it came from, and the epoch sampled for its read. -/
structure FifoEntry where
  data   : Word
  offset : Nat
  epoch  : Count8
deriving DecidableEq, Repr

/-- The Transfer Engine's state. A slot is EMPTY when absent, ACTIVE when `active` names its kind, PREEMPTED when begun and
not active, WAITING when not begun (R67). -/
structure Txe where
  clear          : Option ClearOp
  priority       : Option PriorityOp
  readWord       : Option ReadWordOp
  restorePass    : Option PassOp
  checkpointPass : Option PassOp
  retire         : Option RetireOp
  scrub          : Option ScrubOp
  active         : Option EngineKind
  fifoMode       : FifoMode
  fifo           : List FifoEntry
deriving DecidableEq, Repr

/-! ### The Checkpoint Controller (Chapters 5 and 6) -/

/-- A checkpoint state (R82). -/
inductive CkState where
  | none
  | valid
  | copying
  | restoring
  | broken
deriving DecidableEq, Repr

/-- A set of logical block numbers, kept strictly ascending so that equal sets are equal data. -/
abbrev BlockSet := List Nat

/-- The Checkpoint Controller's state. -/
structure Ckc where
  /-- the dirty map D (R81) -/
  dirty   : BlockSet
  /-- the pass set S (R81) -/
  pass    : BlockSet
  /-- the restore set R (R100) -/
  restore : BlockSet
  /-- the checkpoint state of each entry (R82) -/
  ckState : Vector CkState 16
deriving DecidableEq, Repr

/-! ### The Cycle and Agreement Unit and the Twin Link (Chapter 7) -/

/-- The last verdict (R117). -/
inductive Verdict where
  | none
  | committed
  | rolledBack
  | failed
deriving DecidableEq, Repr

/-- The kind of a marker or of a MARK (R118, R126). -/
inductive MarkKind where
  | commit
  | rollback
deriving DecidableEq, Repr

/-- The marker state (R120). -/
inductive MarkerState where
  | opened
  | draining
  | awaitingTwin
deriving DecidableEq, Repr

/-- A taint reason (R121). -/
inductive Taint where
  | unreadableOld
  | suspectBlock
  | hostUncorrectableAgreed
  | maint
deriving DecidableEq, Repr

/-- A set of taint reasons (R121). -/
structure TaintSet where
  unreadableOld           : Bool
  suspectBlock            : Bool
  hostUncorrectableAgreed : Bool
  maint                   : Bool
deriving DecidableEq, Repr

/-- No taint reason. -/
def TaintSet.empty : TaintSet := ⟨false, false, false, false⟩

/-- The written kind and the cycle number n of a held marker (R124). -/
structure HeldMarker where
  kind : MarkKind
  n    : Count8
deriving DecidableEq, Repr

/-- The five fields of a MARK (R126). -/
structure Mark where
  epoch  : Count8
  n      : Count8
  kind   : MarkKind
  digest : BitVec 32
  tag    : BitVec 16
deriving DecidableEq, Repr

/-- The Cycle and Agreement Unit's state. -/
structure Cau where
  /-- the cycle number C (R117) -/
  cycle          : Count8
  /-- the epoch E (R117) -/
  epoch          : Count8
  /-- the last verdict (R117) -/
  lastVerdict    : Verdict
  /-- the taint set (R121) -/
  taint          : TaintSet
  /-- the carry set (R121) -/
  carry          : TaintSet
  /-- the digest (R123) -/
  digest         : BitVec 32
  /-- the marker state (R120) -/
  marker         : MarkerState
  /-- the held marker's written kind and n, kept until the verdict (R124) -/
  held           : Option HeldMarker
  /-- the local MARK, kept from the fixing of the local kind until the verdict (R125) -/
  localMark      : Option Mark
  /-- a verdict has been issued and its verdict word is still to be written (R136, R61) -/
  verdictDue     : Bool
  /-- the twin slot (R130) -/
  slot           : Option Mark
  /-- the agreement timer: stopped, or running for so many ms (R132) -/
  agreementTimer : Option Nat
  /-- the cycle deadline timer: stopped, or running for so many units of 10 ms (R138) -/
  deadlineTimer  : Option Nat
deriving DecidableEq, Repr

/-- A frame of the twin link (R126). -/
inductive TwinFrame where
  | idle
  | mark (m : Mark)
deriving DecidableEq, Repr

/-- The Twin Link's state. -/
structure Twl where
  /-- the link state (R129) -/
  linkUp    : Bool
  /-- the 1 ms link timer is running (R129) -/
  linkTimer : Bool
  /-- the open receive frame: its units so far, first unit first (R184) -/
  rx        : Option (List RxUnit)
  /-- the frame being sent (R127) -/
  sending   : Option TwinFrame
  /-- the waiting MARK (R127) -/
  waiting   : Option Mark
  /-- the 100 us idle-frame interval is running (R127) -/
  idleTimer : Bool
deriving DecidableEq, Repr

/-! ### The Scrub and Retirement Unit (Chapter 8) -/

/-- A word named by the scrub cursor (R140). -/
structure Cursor where
  region : Region
  block  : Nat
  offset : Nat
deriving DecidableEq, Repr

/-- A memory plane. -/
inductive Plane where
  | p
  | q
deriving DecidableEq, Repr

/-- An entry of the repair history (R147). -/
structure HistoryEntry where
  word  : Nat
  plane : Plane
deriving DecidableEq, Repr

/-- An entry of the remap table (R151). -/
structure RemapEntry where
  block : Nat
  spare : Nat
  live  : Bool
deriving DecidableEq, Repr

/-- The Scrub and Retirement Unit's state. -/
structure Sru where
  /-- the scrub cursor (R140) -/
  cursor      : Option Cursor
  /-- the scrub interval timer: stopped, or running with so many us (R142) -/
  scrubTimer  : Option Nat
  /-- the repair history, most recent first (R147) -/
  history     : List HistoryEntry
  /-- the retire queue, head first (R149) -/
  retireQueue : List Nat
  /-- the remap table in order of installation (R151) -/
  remap       : List RemapEntry
deriving DecidableEq, Repr

/-! ### The Fault and Alarm Unit (Chapter 9) -/

/-- The fault kinds, in the order of section 9.1. -/
inductive FaultKind where
  | unmapped
  | length
  | cls
  | markerForm
  | uncorrectable
  | stale
  | audit
  | checkpointFailed
  | restoreFailed
  | retireFailed
  | sparesExhausted
  | retireQueueFull
  | sequence
  | layout
  | disagree
  | twinTimeout
  | linkProtocol
  | linkLate
  | linkFrame
  | cycleOverrun
deriving DecidableEq, Repr

/-- The sources of a fault, in the order of R159. -/
inductive Source where
  | procRead
  | procFetch
  | procWrite
  | engineCheckpoint
  | engineRestore
  | engineRetire
  | engineScrub
  | marker
  | twinLink
deriving DecidableEq, Repr

/-- The plane findings of a record that comes from a check (R9, R159). -/
structure PlaneFindings where
  qFinding : QFinding
  pFinding : PFinding
  distance : Option Nat
deriving DecidableEq, Repr

/-- What a block reports to the Fault and Alarm Unit (R159), with the suspect mark and the access kind it does not store. -/
structure FaultReport where
  kind     : FaultKind
  also     : Option FaultKind
  source   : Source
  word     : Option Nat
  region   : Option Region
  findings : Option PlaneFindings
  position : Option Position
  suspect  : Bool
  access   : Option AccessKind
deriving DecidableEq, Repr

/-- A fault record (R159). -/
structure FaultRecord where
  kind     : FaultKind
  also     : Option FaultKind
  source   : Source
  word     : Option Nat
  region   : Option Region
  findings : Option PlaneFindings
  position : Option Position
  vital    : Bool
  epoch    : Count8
  cycle    : Count8
deriving DecidableEq, Repr

/-- A set of alarm members (R164). -/
structure AlarmSet where
  faultQueued : Bool
  queueFull   : Bool
  vitalDown   : Bool
  linkChange  : Bool
  retired     : Bool
  startDone   : Bool
deriving DecidableEq, Repr

/-- No alarm member. -/
def AlarmSet.none : AlarmSet := ⟨false, false, false, false, false, false⟩

/-- All six alarm members. -/
def AlarmSet.all : AlarmSet := ⟨true, true, true, true, true, true⟩

/-- The Fault and Alarm Unit's state. -/
structure Fau where
  /-- the fault queue, head first (R161) -/
  queue     : List FaultRecord
  /-- the 22 counters in kind-code order, then P_REPAIRED and Q_REPAIRED (R163) -/
  counters  : Vector Nat 22
  /-- the alarm pending set (R164) -/
  pending   : AlarmSet
  /-- the alarm mask: the members enabled (R165) -/
  mask      : AlarmSet
  /-- VEN is HIGH (R166) -/
  ven       : Bool
  /-- the vital-down latch is SET (R166) -/
  latch     : Bool
  /-- the epoch flag is SET (R167) -/
  epochFlag : Bool
  /-- the qualification is SET (R167) -/
  qualified : Bool
deriving DecidableEq, Repr

/-! ### The Maintenance Link Interface (Chapter 10) -/

/-- The control state (R175). -/
inductive Control where
  | config
  | init
  | run
  | hold
deriving DecidableEq, Repr

/-- The frame state (R170). -/
inductive FrameState where
  | idle
  | receiving
  | responding
deriving DecidableEq, Repr

/-- The twin mode parameter (R174). -/
inductive TwinMode where
  | single
  | paired
deriving DecidableEq, Repr

/-- The parameters, as held (R174). -/
structure Params where
  exponent         : Nat
  spareBase        : Nat
  spareCount       : Nat
  marker           : Nat
  twinMode         : TwinMode
  burst            : Nat
  scrubInterval    : Nat
  agreementTimeout : Nat
  deadline         : Nat
deriving DecidableEq, Repr

/-- The defaults of the parameters (R174). -/
def Params.defaults : Params :=
  { exponent := 16, spareBase := 0, spareCount := 0, marker := 0, twinMode := .single, burst := 8, scrubInterval := 0
    agreementTimeout := 50, deadline := 0 }

/-- The READ_WORD result state (R173). -/
inductive ReadResult where
  | none
  | pending
  | ready (report : CheckReport)
deriving DecidableEq, Repr

/-- The Maintenance Link Interface's state. -/
structure Mli where
  /-- the control state (R175) -/
  control    : Control
  /-- the frame state (R170) -/
  frame      : FrameState
  /-- the command code received in this frame (R170) -/
  code       : Option Unit16
  /-- the operand units received so far (R170) -/
  operands   : List Unit16
  /-- the response formed: the status unit and the data units after it (R171, R185) -/
  response   : List Unit16
  /-- the parameters (R174) -/
  params     : Params
  /-- the READ_WORD result state (R173) -/
  readResult : ReadResult
deriving DecidableEq, Repr

/-! ### The whole part -/

/-- One memory plane: its written bytes by address, strictly ascending, none equal to what an unlisted byte reads as. -/
abbrev Memory := List Host.Cell

/-- The state of the part. -/
@[ext]
structure State where
  /-- held in reset: system reset asserted, or the internal reset after power-on not ended (R181) -/
  inReset : Bool
  hbi     : Hbi
  rgd     : Rgd
  cdu     : Cdu
  mpt     : Mpt
  txe     : Txe
  ckc     : Ckc
  cau     : Cau
  twl     : Twl
  sru     : Sru
  fau     : Fau
  mli     : Mli
  /-- plane P, two bytes a physical word (R1) -/
  planeP  : Memory
  /-- plane Q, four bytes a physical word (R1) -/
  planeQ  : Memory
  /-- the resets and REINITs so far that came while a group could be in progress: the model's own, the argument of the free values
  that say how far that group had come (log 35, log 38) -/
  cuts    : Nat
  /-- the commands waiting, first in, first out: the model's own -/
  pending : List Instr
deriving DecidableEq, Repr

/-- Why the part's model stops. -/
inductive Fault where
  /-- Raised by a word operation whose physical word address is not below the memory fitted (R1, R174: MEMSIZE = 2^k words).
  Safe: the model stops where the spec gives the access no memory to reach; R35 keeps every run from it. -/
  | addressBeyondMemory
deriving DecidableEq, Repr

/-- Why a command is refused. -/
inductive Refusal where
  /-- A command that has no meaning yet. Raised by no arm. Safe: nothing is claimed of it. -/
  | notModelled (mnemonic : String)
deriving DecidableEq, Repr

/-- Every block at its power-on value (R181 and the rules it gathers), with the given memory planes, count of cuts, queue and reset
input. -/
def State.powerOnValue (inReset : Bool) (planeP planeQ : Memory) (cuts : Nat) (pending : List Instr) : State :=
  { inReset := inReset
    hbi := { access := none, presented := none, busEnd := none }
    rgd := { table := Vector.replicate 16 none, pointer := 0, phase := 0, staging := Staging.empty, loadOpen := true
             layoutTag := 0 }
    cdu := { latch := none }
    mpt := { grant := .none, count := 0, limit := 8 }
    txe := { clear := none, priority := none, readWord := none, restorePass := none, checkpointPass := none, retire := none
             scrub := none, active := none, fifoMode := .empty, fifo := [] }
    ckc := { dirty := [], pass := [], restore := [], ckState := Vector.replicate 16 .none }
    cau := { cycle := 0, epoch := 0, lastVerdict := .none, taint := TaintSet.empty, carry := TaintSet.empty, digest := 0
             marker := .opened, held := none, localMark := none, verdictDue := false, slot := none
             agreementTimer := none, deadlineTimer := none }
    twl := { linkUp := false, linkTimer := false, rx := none, sending := none, waiting := none, idleTimer := !inReset }
    sru := { cursor := none, scrubTimer := none, history := [], retireQueue := [], remap := [] }
    fau := { queue := [], counters := Vector.replicate 22 0, pending := AlarmSet.none, mask := AlarmSet.all, ven := false
             latch := false, epochFlag := false, qualified := false }
    mli := { control := .config, frame := .idle, code := none, operands := [], response := [], params := Params.defaults
             readResult := .none }
    planeP := planeP
    planeQ := planeQ
    cuts := cuts
    pending := pending }

/-- The part right after power-on, its internal reset ended: in CONFIG with every piece of state at its power-on value
(R181), nothing written to memory yet (log 1), no reset yet (log 35). -/
def State.reset : State := State.powerOnValue false [] [] 0 []

end Sys2Proof.Machine
end

