-- ==== Sys2Proof/Machine/Memory.lean ====
section
/-!
DEFINITION. The two memory planes as canonical lists of written bytes, and the word operations on one physical word (R59).
The bytes of a plane's word are kept most significant first (log 20: a convention of the list, not seen from outside).
-/
namespace Sys2Proof.Machine

/-- The byte an address reads as: the listed one, or what an unlisted byte reads as (log 1). -/
def Memory.read (m : Memory) (a : Nat) : BitVec 8 :=
  match m with
  | [] => Config.unwrittenByte
  | c :: t => if c.1 = a then c.2 else Memory.read t a

/-- Writes one byte and keeps the canonical form. -/
def Memory.write (m : Memory) (a : Nat) (v : BitVec 8) : Memory :=
  match m with
  | [] => if v = Config.unwrittenByte then [] else [(a, v)]
  | c :: t =>
    if a < c.1 then (if v = Config.unwrittenByte then c :: t else (a, v) :: c :: t)
    else if a = c.1 then (if v = Config.unwrittenByte then t else (a, v) :: t)
    else c :: Memory.write t a v

/-- The canonical form: addresses strictly ascending and above `lo` or equal to it, and no byte that an unlisted address
reads as. -/
def Memory.wfFrom (lo : Nat) : Memory → Bool
  | [] => true
  | c :: t => decide (lo ≤ c.1) && decide (c.2 ≠ Config.unwrittenByte) && Memory.wfFrom (c.1 + 1) t

/-- The canonical form of a plane. -/
def Memory.wf (m : Memory) : Bool := Memory.wfFrom 0 m

/-- The plane P value of a physical word (R59: pair read). -/
def readPlaneP (m : Memory) (pw : Nat) : Word := m.read (2 * pw) ++ m.read (2 * pw + 1)

/-- The plane Q value of a physical word (R59: pair read). -/
def readPlaneQ (m : Memory) (pw : Nat) : Code :=
  (m.read (4 * pw) ++ m.read (4 * pw + 1)) ++ (m.read (4 * pw + 2) ++ m.read (4 * pw + 3))

/-- A write of plane P at one physical word, under its own write enable (R59). -/
def writePlaneP (m : Memory) (pw : Nat) (p : Word) : Memory :=
  (m.write (2 * pw) (p.extractLsb' 8 8)).write (2 * pw + 1) (p.extractLsb' 0 8)

/-- A write of plane Q at one physical word, under its own write enable (R59). -/
def writePlaneQ (m : Memory) (pw : Nat) (q : Code) : Memory :=
  (((m.write (4 * pw) (q.extractLsb' 24 8)).write (4 * pw + 1) (q.extractLsb' 16 8)).write (4 * pw + 2)
    (q.extractLsb' 8 8)).write (4 * pw + 3) (q.extractLsb' 0 8)

end Sys2Proof.Machine
end

