-- ==== Sys2Proof/Machine/Coding.lean ====
section
/-!
DEFINITION. The arithmetic of the Coding Unit (Chapter 1): signature, code word, check of a pair, and the byte-lane merge.
-/
namespace Sys2Proof.Machine

/-- What the signature of a location takes from the region table (R3): the key, and whether the epoch term applies. -/
structure Terms where
  key    : Nat
  cyclic : Bool
deriving DecidableEq, Repr

/-- The epoch term T of R2. -/
def epochTerm (t : Terms) (e : Count8) : Nat := if t.cyclic then Config.epochFactor * e.toNat else 0

/-- The signature s = (w + K + T) mod 65,521 (R2). -/
def signature (w : Nat) (t : Terms) (e : Count8) : Nat := (w + t.key + epochTerm t e) % Config.prime

/-- The code word 65,521 × d + s (R4). -/
def encode (d : Word) (s : Nat) : Code := BitVec.ofNat 32 (Config.prime * d.toNat + s)

/-- q is valid for signature s (R5); with the previous epoch's signature, q matches the previous epoch. -/
def codeMatches (q : Code) (s : Nat) : Bool :=
  decide (q.toNat ≤ Config.maxCode) && decide (q.toNat % Config.prime = s)

/-- The data a code word carries, q div 65,521 (R5). -/
def codeData (q : Code) : Word := BitVec.ofNat 16 (q.toNat / Config.prime)

/-- The number of bit positions in which two values of plane Q differ (R6). -/
def bitDistance (a b : Code) : Nat := ((List.range 32).filter fun i => (a ^^^ b).getLsbD i).length

/-- The Q finding of a check (R9). The previous epoch is looked at for a cyclic word alone (R5). -/
def qFindingOf (cyclic : Bool) (s sPrev : Nat) (q : Code) : QFinding :=
  if codeMatches q s then .valid
  else if cyclic && codeMatches q sPrev then .previousEpoch
  else if Config.maxCode < q.toNat then .outOfRange
  else .wrongRemainder

/-- The P finding of a check (R9). -/
def pFindingOf (qf : QFinding) (p : Word) (q : Code) : PFinding :=
  match qf with
  | .valid | .previousEpoch => if p = codeData q then .agrees else .differs
  | .outOfRange | .wrongRemainder => .notTested

/-- The classification of a pair (R7 for a word that is not cyclic, R8 for a cyclic one). -/
def classify (cyclic : Bool) (s : Nat) (qf : QFinding) (p : Word) (q : Code) : Classification :=
  match qf with
  | .valid => if codeData q = p then .clean else .pRepair
  | .previousEpoch => if codeData q = p then .stale else .uncorrectable
  | .outOfRange | .wrongRemainder =>
    if !cyclic && decide (bitDistance q (encode p s) ≤ 2) then .qRepair else .uncorrectable

/-- The data a classification delivers (R7, R8). -/
def deliveredData (c : Classification) (p : Word) (q : Code) : Option Word :=
  match c with
  | .clean | .qRepair => some p
  | .pRepair => some (codeData q)
  | .uncorrectable | .stale => none

/-- The repair field (R9): what a check with repair writes, WITHHELD where a check without repair would have written. -/
def repairFieldOf (withRepair : Bool) (c : Classification) : RepairField :=
  match c with
  | .pRepair => if withRepair then .pWritten else .withheld
  | .qRepair => if withRepair then .qWritten else .withheld
  | .clean | .uncorrectable | .stale => .none

/-- The check of a pair read from logical word w with its signature terms, in epoch e (R7, R8, R9). -/
def checkPair (withRepair : Bool) (w : Nat) (t : Terms) (e : Count8) (p : Word) (q : Code) : CheckReport :=
  let s := signature w t e
  let qf := qFindingOf t.cyclic s (signature w t (e - 1)) q
  let c := classify t.cyclic s qf p q
  { cls := c
    data := deliveredData c p q
    rawP := p
    rawQ := q
    qFinding := qf
    pFinding := pFindingOf qf p q
    distance :=
      match qf with
      | .outOfRange | .wrongRemainder => some (bitDistance q (encode p s))
      | .valid | .previousEpoch => none
    repair := repairFieldOf withRepair c }

/-- The plane findings a fault record takes from a check report (R9). -/
def CheckReport.findings (r : CheckReport) : PlaneFindings := ⟨r.qFinding, r.pFinding, r.distance⟩

/-- The fault kind of a bad word: the classification as primary kind (R47, R51). -/
def badWordKind (c : Classification) : FaultKind :=
  match c with
  | .stale => .stale
  | .clean | .pRepair | .qRepair | .uncorrectable => .uncorrectable

/-- The byte-lane merge (R13): the written lane's byte replaces the corresponding byte of the checked data. -/
def mergeByte (lane : Lane) (b : BitVec 8) (old : Word) : Word :=
  match lane with
  | .upper => ofBytes b (loByte old)
  | .lower => ofBytes (hiByte old) b

/-- The byte of a lane of the checked data (R46). -/
def laneByte (lane : Lane) (d : Word) : BitVec 8 :=
  match lane with
  | .upper => hiByte d
  | .lower => loByte d

/-- The digest term (2w + 1) × (new − old) modulo 2^32 (R49, R123). -/
def digestTerm (w : Nat) (new old : Word) : BitVec 32 :=
  BitVec.ofNat 32 (2 * w + 1) * (new.setWidth 32 - old.setWidth 32)

end Sys2Proof.Machine
end

