-- ==== Sys2Proof/Machine/Regions.lean ====
section
/-!
DEFINITION. The region table as a map of memory (Chapter 2): windows, authorised blocks and shadows, decode, the layout tag,
attribute clamping, validation, and the blocks an installation clears.
-/
namespace Sys2Proof.Machine

/-- The 16 entries in ascending order. -/
def allRegions : List Region := [0, 1, 2, 3, 4, 5, 6, 7, 8, 9, 10, 11, 12, 13, 14, 15]

/-- The lowest-numbered present descriptor that meets `p`. -/
def firstRegion (p : Region → Descriptor → Bool) (t : Table) : Option (Region × Descriptor) :=
  allRegions.findSome? fun r =>
    match t.get r with
    | some d => if p r d then some (r, d) else none
    | none => none

/-! ### Windows, authorised blocks, shadows (R22) -/

/-- The window holds the block: from the window base to base + span − 1. -/
def Descriptor.inWindow (d : Descriptor) (b : Nat) : Bool := decide (d.base ≤ b ∧ b < d.base + d.span)

/-- The lowest authorised block: the window base for UP, top − length + 1 for DOWN. -/
def Descriptor.authLow (d : Descriptor) : Nat :=
  match d.dir with
  | .up => d.base
  | .down => d.base + d.span - d.len

/-- The block is one of the authorised blocks. -/
def Descriptor.authorised (d : Descriptor) (b : Nat) : Bool := decide (d.authLow ≤ b ∧ b < d.authLow + d.len)

/-- The shadow block that corresponds to a block of the window; present with CHECKPOINT. -/
def Descriptor.shadowOf (d : Descriptor) (b : Nat) : Option Nat := d.shadow.map (· + (b - d.base))

/-- The working block that corresponds to a shadow block. -/
def Descriptor.workingOf (d : Descriptor) (b : Nat) : Nat := d.base + (b - d.shadow.getD 0)

/-- The block lies in the shadow, which runs over the whole span. -/
def Descriptor.inShadow (d : Descriptor) (b : Nat) : Bool :=
  match d.shadow with
  | some sb => decide (sb ≤ b ∧ b < sb + d.span)
  | none => false

/-- The block is the shadow block of an authorised block. -/
def Descriptor.shadowAuthorised (d : Descriptor) (b : Nat) : Bool := d.inShadow b && d.authorised (d.workingOf b)

/-- The first of the authorised blocks in the region's direction order (R22). -/
def Descriptor.firstBlock (d : Descriptor) : Nat :=
  match d.dir with
  | .up => d.authLow
  | .down => d.authLow + d.len - 1

/-- The block after `b` in the region's direction order, where there is one (R22, R140). -/
def Descriptor.nextBlock (d : Descriptor) (b : Nat) : Option Nat :=
  match d.dir with
  | .up => if b + 1 < d.authLow + d.len then some (b + 1) else none
  | .down => if d.authLow < b then some (b - 1) else none

/-- Where a block stands: a block of region r, working or shadow, that is authorised or the shadow of an authorised one
(R149, R150, R152). -/
def ownerOf (t : Table) (b : Nat) : Option (Region × Part) :=
  match firstRegion (fun _ d => d.authorised b) t with
  | some (r, _) => some (r, .working)
  | none =>
    match firstRegion (fun _ d => d.shadowAuthorised b) t with
    | some (r, _) => some (r, .shadow)
    | none => none

/-- The signature terms of a logical word by its location (R3): a word in authorised blocks, a word of a shadow, any other. -/
def sigTerms (t : Table) (w : Nat) : Terms :=
  let b := w / Config.blockWords
  match firstRegion (fun _ d => d.authorised b) t with
  | some (_, d) => ⟨d.key, d.cls == .cyclic⟩
  | none =>
    match firstRegion (fun _ d => d.inShadow b) t with
    | some (_, d) => ⟨d.key, false⟩
    | none => ⟨0, false⟩

/-! ### Attributes of an entry -/

/-- The present descriptor of an entry carries the attribute. -/
def hasAttr (f : Attrs → Bool) (t : Table) (r : Region) : Bool :=
  match t.get r with
  | some d => f d.attrs
  | none => false

/-- The block is an authorised block of a present descriptor that carries CHECKPOINT (R81). -/
def checkpointed (t : Table) (b : Nat) : Bool :=
  (firstRegion (fun _ d => d.attrs.checkpoint && d.authorised b) t).isSome

/-- The attributes a class takes (R25). -/
def classTakes (c : RegionClass) : Attrs :=
  match c with
  | .closed => ⟨false, false, false, true⟩
  | .code | .const => ⟨false, false, true, true⟩
  | .work => ⟨true, true, true, true⟩
  | .cyclic => ⟨false, true, false, true⟩

/-- Drops every attribute the class does not take (R25). -/
def clampAttrs (c : RegionClass) (a : Attrs) : Attrs :=
  let k := classTakes c
  ⟨a.checkpoint && k.checkpoint, a.agreed && k.agreed, a.scrub && k.scrub, a.vital && k.vital⟩

/-- The descriptor a staging descriptor installs: attributes clamped, the shadow base kept with CHECKPOINT only (R25, R29). -/
def Staging.toDescriptor (g : Staging) : Descriptor :=
  let a := clampAttrs g.cls g.attrs
  { cls := g.cls, base := g.base, span := g.span, len := g.len, dir := g.dir, key := g.key, attrs := a
    shadow := if a.checkpoint then some g.shadow else none }

/-! ### Decode (R23, R31, R32) -/

/-- The permissions an access kind needs: read, fetch, write (R23). -/
def AccessKind.needs (k : AccessKind) : Bool × Bool × Bool :=
  match k with
  | .wordRead | .byteRead => (true, false, false)
  | .fetch => (false, true, false)
  | .wordWrite | .byteWrite => (false, false, true)
  | .locked => (true, false, true)

/-- The permissions a class grants: read, fetch, write (R23, R24). -/
def RegionClass.grants (c : RegionClass) (loadOpen : Bool) : Bool × Bool × Bool :=
  match c with
  | .closed => (false, false, false)
  | .code => (true, true, loadOpen)
  | .const => (true, false, loadOpen)
  | .work | .cyclic => (true, false, true)

/-- The class check (R23): the region grants every permission the access needs. -/
def classCheck (c : RegionClass) (k : AccessKind) (loadOpen : Bool) : Bool :=
  let n := k.needs
  let g := c.grants loadOpen
  (!n.1 || g.1) && (!n.2.1 || g.2.1) && (!n.2.2 || g.2.2)

/-- The result of decode (R31): permitted with a decode record, or refused with a primary kind, an also-kind and a region. -/
inductive Decoded where
  | permitted (record : DecodeRecord)
  | refused (kind : FaultKind) (also : Option FaultKind) (region : Option Region)
deriving DecidableEq, Repr

/-- Decode of one access (R31, R32). -/
def decodeAccess (t : Table) (loadOpen : Bool) (markerWord : Nat) (k : AccessKind) (w : Nat) : Decoded :=
  let b := w / Config.blockWords
  match firstRegion (fun _ d => d.inWindow b) t with
  | none => .refused .unmapped none none
  | some (r, d) =>
    if !d.authorised b then
      .refused .length (if classCheck d.cls k loadOpen then none else some .cls) (some r)
    else if !classCheck d.cls k loadOpen then .refused .cls none (some r)
    else .permitted
      { region := r, cls := d.cls, key := d.key, attrs := d.attrs, dir := d.dir, block := b
        offset := w % Config.blockWords
        shadow := if d.attrs.checkpoint then d.shadowOf b else none
        marker := decide (w = markerWord) }

/-! ### The layout tag (R34) -/

/-- The sum over every present descriptor that carries AGREED of window base + authorised length + key, modulo 65,536. -/
def layoutTagOf (t : Table) : BitVec 16 :=
  BitVec.ofNat 16 (allRegions.map fun r =>
    match t.get r with
    | some d => if d.attrs.agreed then d.base + d.len + d.key else 0
    | none => 0).sum

/-! ### Validation (R35) -/

/-- The reason a table fails validation, with its code of R185. -/
inductive Reason where
  | operand
  | stagingPartial
  | windowRange
  | shadowRange
  | spareRange
  | windowOverlap
  | spareOverlap
  | shadowOverlap
  | markerPlace
deriving DecidableEq, Repr

/-- The number of blocks in memory, MEMSIZE / 128 (R35). -/
def Params.blocks (p : Params) : Nat := 2 ^ (p.exponent - 7)

/-- The number of words in memory, MEMSIZE = 2^k (R174). -/
def Params.words (p : Params) : Nat := 2 ^ p.exponent

/-- Two runs of blocks share a block. -/
def runsMeet (lo₁ n₁ lo₂ n₂ : Nat) : Bool := decide (0 < n₁ ∧ 0 < n₂ ∧ lo₁ < lo₂ + n₂ ∧ lo₂ < lo₁ + n₁)

/-- Some present descriptor meets `p`. -/
def anyRegion (p : Region → Descriptor → Bool) (t : Table) : Bool := (firstRegion p t).isSome

/-- The window of `d`, entry r, shares a block with the window of a higher-numbered entry (R35, condition 5). -/
def windowOverlaps (t : Table) (r : Region) (d : Descriptor) : Bool :=
  anyRegion (fun r' d' => decide (r < r') && runsMeet d.base d.span d'.base d'.span) t

/-- The shadow of `d`, entry r, shares a block with any window, with another shadow or with the spare pool (R35,
condition 7). -/
def shadowOverlaps (t : Table) (p : Params) (r : Region) (d : Descriptor) : Bool :=
  match d.shadow with
  | none => false
  | some sb =>
    anyRegion (fun r' d' =>
      runsMeet sb d.span d'.base d'.span ||
      (decide (r ≠ r') && (match d'.shadow with
        | some sb' => runsMeet sb d.span sb' d'.span
        | none => false))) t ||
    runsMeet sb d.span p.spareBase p.spareCount

/-- The marker word is in an authorised block of a present WORK descriptor that carries neither CHECKPOINT nor AGREED
(R35, condition 8). -/
def markerPlaced (t : Table) (p : Params) : Bool :=
  anyRegion (fun _ d => (d.cls == .work) && !d.attrs.checkpoint && !d.attrs.agreed &&
    d.authorised (p.marker / Config.blockWords)) t

/-- The lowest-numbered descriptor that breaks a condition. -/
def breaker (p : Region → Descriptor → Bool) (t : Table) : Option Region := (firstRegion p t).map (·.1)

/-- The checks of R35 in order, each with whether it fails and the descriptor it reports; conditions 2 to 8. -/
def tableChecks (t : Table) (p : Params) : List (Reason × Bool × Option Region) :=
  let windowRange := fun (_ : Region) (d : Descriptor) => !decide (d.base + d.span ≤ p.blocks)
  let shadowRange := fun (_ : Region) (d : Descriptor) =>
    match d.shadow with
    | some sb => !decide (sb + d.span ≤ p.blocks)
    | none => false
  let spareOverlap := fun (_ : Region) (d : Descriptor) => runsMeet p.spareBase p.spareCount d.base d.span
  [ (.windowRange, anyRegion windowRange t, breaker windowRange t),
    (.shadowRange, anyRegion shadowRange t, breaker shadowRange t),
    (.spareRange, decide (p.spareCount ≠ 0) && !decide (p.spareBase + p.spareCount ≤ p.blocks), none),
    (.windowOverlap, anyRegion (windowOverlaps t) t, breaker (windowOverlaps t) t),
    (.spareOverlap, anyRegion spareOverlap t, breaker spareOverlap t),
    (.shadowOverlap, anyRegion (shadowOverlaps t p) t, breaker (shadowOverlaps t p) t),
    (.markerPlace, !markerPlaced t p, none) ]

/-- Conditions 2 to 8 of R35 on a table, taken in order: the first that fails, with the descriptor reported. -/
def validateTable (t : Table) (p : Params) : Option (Reason × Option Region) :=
  (tableChecks t p).findSome? fun c => if c.2.1 then some (c.1, c.2.2) else none

/-- Validation at START: condition 1, the staging descriptor not partially loaded, and then the others (R35, R36). -/
def validateStart (g : Rgd) (p : Params) : Option (Reason × Option Region) :=
  if g.phase ≠ 0 then some (.stagingPartial, none) else validateTable g.table p

/-! ### The effects of an installation (R37, R38) -/

/-- The checkpoint state an installation leaves: BROKEN for a descriptor that carries CHECKPOINT, else NONE (R37, R39). -/
def installedState (d : Option Descriptor) : CkState :=
  match d with
  | some d => if d.attrs.checkpoint then .broken else .none
  | none => .none

/-- Every authorised block of a descriptor as one range to clear (R78). -/
def authRange (r : Region) (d : Descriptor) : ClearRange :=
  { region := r, part := .working, lo := d.authLow, count := d.len, dir := d.dir }

/-- The shadow blocks of the authorised blocks as one range to clear (R78). -/
def shadowRangeOf (r : Region) (d : Descriptor) (sb : Nat) : ClearRange :=
  { region := r, part := .shadow, lo := sb + (d.authLow - d.base), count := d.len, dir := d.dir }

/-- The blocks an installation in HOLD clears (R38). -/
def installClears (r : Region) (old new : Option Descriptor) : List ClearRange :=
  match old, new with
  | _, none => []
  | none, some d => [authRange r d]
  | some o, some d =>
    if d.cls ≠ o.cls ∨ d.key ≠ o.key ∨ d.base ≠ o.base ∨ d.dir ≠ o.dir ∨ (d.span ≠ o.span ∧ d.dir = .down) then
      [authRange r d]
    else if o.len < d.len then
      [{ region := r, part := .working
         lo := match d.dir with
           | .up => d.base + o.len
           | .down => d.authLow
         count := d.len - o.len, dir := d.dir }]
    else []

/-- The ranges of the START clear (R78): the present descriptors in ascending entry number, each one's authorised blocks
and then, with CHECKPOINT, their shadow blocks. -/
def startClears (t : Table) : List ClearRange :=
  allRegions.flatMap fun r =>
    match t.get r with
    | some d =>
      authRange r d :: (match d.shadow with
        | some sb => [shadowRangeOf r d sb]
        | none => [])
    | none => []

/-! ### The scrub order (R140, R141) -/

/-- The entries from n up, then those below n. -/
def regionsFrom (n : Nat) : List Region :=
  (allRegions.filter fun r => decide (n ≤ r.val)) ++ (allRegions.filter fun r => decide (r.val < n))

/-- The first word of the lowest-numbered present SCRUB region at or after entry n, wrapping; NONE when there is none. -/
def scrubFrom (t : Table) (n : Nat) : Option Cursor :=
  (regionsFrom n).findSome? fun r =>
    match t.get r with
    | some d => if d.attrs.scrub then some ⟨r, d.firstBlock, 0⟩ else none
    | none => none

/-- The word after a given word in the scrub order (R140). -/
def scrubNext (t : Table) (c : Cursor) : Option Cursor :=
  if c.offset + 1 < Config.blockWords then some { c with offset := c.offset + 1 }
  else
    match (t.get c.region).bind fun d => d.nextBlock c.block with
    | some b => some ⟨c.region, b, 0⟩
    | none => scrubFrom t (c.region.val + 1)

/-- The cursor after an installation (R141). -/
def scrubAdjust (t : Table) (c : Option Cursor) : Option Cursor :=
  match c with
  | none => scrubFrom t 0
  | some c =>
    match t.get c.region with
    | some d => if d.attrs.scrub && d.authorised c.block then some c else scrubFrom t c.region.val
    | none => scrubFrom t c.region.val

end Sys2Proof.Machine
end

