-- ==== Sys2Proof/Machine/Operands.lean ====
section
/-!
DEFINITION. How the operands of a command are read: the bus cycle of an access (R41), the values of descriptor fields (R21,
R28) and parameters (R174), member sets and enumerated codes (R185), and LOAD_REMAP lists (R151).
-/
namespace Sys2Proof.Machine

/-! ### Bus cycles (R41) -/

/-- The word index: the byte address divided by two. -/
def cycleWord (c : BusCycle) : Nat := c.addr.toNat / 2

/-- The kind, lane and write data of a presented access (R41). A read presented with the lock line asserted is the read half
of a LOCKED sequence (log 13); a write presented with it while no LOCKED sequence is open is an ordinary write. -/
def cycleOp (c : BusCycle) : AccessOp :=
  match c.transfer with
  | .wordRead => if c.lock then .locked none else .wordRead
  | .fetch => if c.lock then .locked none else .fetch
  | .byteRead l => if c.lock then .locked none else .byteRead l
  | .wordWrite d => .wordWrite d
  | .byteWrite l b => .byteWrite l b

/-- The write half a bus cycle presents, where it is a write (R52). -/
def cycleWriteHalf (c : BusCycle) : Option WriteHalf :=
  match c.transfer with
  | .wordWrite d => some (.word d)
  | .byteWrite l b => some (.byte l b)
  | .wordRead | .fetch | .byteRead _ => none

/-- The access kind (R40). -/
def AccessOp.kind : AccessOp → AccessKind
  | .wordRead => .wordRead
  | .fetch => .fetch
  | .byteRead _ => .byteRead
  | .wordWrite _ => .wordWrite
  | .byteWrite _ _ => .byteWrite
  | .locked _ => .locked

/-- The source of a decode refusal (R33). -/
def AccessKind.source : AccessKind → Source
  | .wordRead | .byteRead | .locked => .procRead
  | .fetch => .procFetch
  | .wordWrite | .byteWrite => .procWrite

/-- The kinds that write: WORD_WRITE, BYTE_WRITE and LOCKED (R44, R90). -/
def AccessKind.writes : AccessKind → Bool
  | .wordWrite | .byteWrite | .locked => true
  | .wordRead | .fetch | .byteRead => false

/-! ### Descriptor fields (R21, R28, R185) -/

/-- The class a code names (R185). -/
def classOfCode (n : Nat) : Option RegionClass :=
  match n with
  | 1 => some .closed
  | 2 => some .code
  | 3 => some .const
  | 4 => some .work
  | 5 => some .cyclic
  | _ => none

/-- The direction a code names (R185). -/
def directionOfCode (n : Nat) : Option Direction :=
  match n with
  | 0 => some .up
  | 1 => some .down
  | _ => none

/-- The attribute set a unit names; a bit that names no attribute is out of range (R185). -/
def attrsOfUnit (v : Unit16) : Option Attrs :=
  if v.toNat < 16 then some ⟨v.getLsbD 0, v.getLsbD 1, v.getLsbD 2, v.getLsbD 3⟩ else none

/-- The alarm member set a unit names; a bit that names no member is out of range (R185). -/
def alarmSetOfUnit (v : Unit16) : Option AlarmSet :=
  if v.toNat < 64 then
    some ⟨v.getLsbD 0, v.getLsbD 1, v.getLsbD 2, v.getLsbD 3, v.getLsbD 4, v.getLsbD 5⟩
  else none

/-- The staging descriptor with the field of a phase loaded, where the value is within the range R21 gives; phases in the
order of R28. -/
def loadField (g : Staging) (phase : Fin 8) (v : Unit16) : Option Staging :=
  let n := v.toNat
  match phase with
  | 0 => (classOfCode n).map fun c => { g with cls := c }
  | 1 => if n ≤ 32767 then some { g with base := n } else none
  | 2 => if 1 ≤ n ∧ n ≤ 4096 then some { g with span := n } else none
  | 3 => if 1 ≤ n ∧ n ≤ g.span then some { g with len := n } else none
  | 4 => (directionOfCode n).map fun c => { g with dir := c }
  | 5 => if n ≤ 65520 then some { g with key := n } else none
  | 6 => (attrsOfUnit v).map fun a => { g with attrs := a }
  | 7 => if n ≤ 32767 then some { g with shadow := n } else none

/-! ### Parameters (R174, R185) -/

/-- BURST as held: 1 for 0, 32 for any value above 32 (R174). -/
def clampBurst (n : Nat) : Nat := if n = 0 then 1 else if 32 < n then 32 else n

/-- The agreement timeout as held: 1 for 0 (R174). -/
def clampTimeout (n : Nat) : Nat := if n = 0 then 1 else n

/-- The parameters with one set, where the selector is known and the value accepted (R174). -/
def Params.set (p : Params) (selector : Nat) (v : Nat) : Option Params :=
  match selector with
  | 1 => if 16 ≤ v ∧ v ≤ 22 then some { p with exponent := v } else none
  | 2 => if v ≤ 32767 then some { p with spareBase := v } else none
  | 3 => if v ≤ 8 then some { p with spareCount := v } else none
  | 4 => if v ≤ 8388607 then some { p with marker := v } else none
  | 5 =>
    match v with
    | 0 => some { p with twinMode := .single }
    | 1 => some { p with twinMode := .paired }
    | _ => none
  | 6 => if v ≤ 255 then some { p with burst := clampBurst v } else none
  | 7 => if v ≤ 65535 then some { p with scrubInterval := v } else none
  | 8 => if v ≤ 255 then some { p with agreementTimeout := clampTimeout v } else none
  | 9 => if v ≤ 255 then some { p with deadline := v } else none
  | _ => none

/-- The held value of a parameter, where the selector is known (R174). -/
def Params.get (p : Params) (selector : Nat) : Option Nat :=
  match selector with
  | 1 => some p.exponent
  | 2 => some p.spareBase
  | 3 => some p.spareCount
  | 4 => some p.marker
  | 5 =>
    match p.twinMode with
    | .single => some 0
    | .paired => some 1
  | 6 => some p.burst
  | 7 => some p.scrubInterval
  | 8 => some p.agreementTimeout
  | 9 => some p.deadline
  | _ => none

/-! ### LOAD_REMAP (R151, R185) -/

/-- The operand units of one LOAD_REMAP entry. -/
def RemapOperand.units (o : RemapOperand) : List Unit16 := [o.block, o.spare, o.state]

/-- One entry of a LOAD_REMAP list; a state code above 1 names no value. -/
def remapEntryOf (o : RemapOperand) : Option RemapEntry :=
  match o.state.toNat with
  | 0 => some ⟨o.block.toNat, o.spare.toNat, true⟩
  | 1 => some ⟨o.block.toNat, o.spare.toNat, false⟩
  | _ => none

/-- A LOAD_REMAP list passes the checks of R151. -/
def remapAccepted (p : Params) (l : List RemapEntry) : Bool :=
  decide (l.length ≤ Config.remapSize) &&
  l.all (fun e => decide (e.spare < p.spareCount)) &&
  l.all (fun e => decide (e.block < p.blocks)) &&
  decide ((l.filter (·.live)).Pairwise fun a b => a.block ≠ b.block) &&
  decide (l.Pairwise fun a b => a.spare ≠ b.spare)

/-- The remap table a LOAD_REMAP list gives, where it is accepted. -/
def remapOf (p : Params) (os : List RemapOperand) : Option (List RemapEntry) :=
  match os.mapM remapEntryOf with
  | some l => if remapAccepted p l then some l else none
  | none => none

/-! ### Marker values (R118, R182) -/

/-- The kind a marker's kind code stands for: COMMIT for 0xC3; ROLLBACK for 0x3C and for any other code. -/
def markerKind (v : Word) : MarkKind := if hiByte v = 0xC3 then .commit else .rollback

/-- The kind code names a kind. -/
def markerFormed (v : Word) : Bool := hiByte v == 0xC3 || hiByte v == 0x3C

/-- The code of a verdict (R136). -/
def Verdict.code : Verdict → Nat
  | .none => 0
  | .committed => 1
  | .rolledBack => 2
  | .failed => 3

/-- The verdict word, 256 × verdict code + C (R182). -/
def verdictWord (v : Verdict) (c : Count8) : Word := ofBytes (BitVec.ofNat 8 v.code) c

end Sys2Proof.Machine
end

