-- ==== Sys2Proof/Machine/Flags.lean ====
section
/-!
DEFINITION. Everything the part answers or drives from its state without changing it: the output lines, the conditions
blocks report to each other, block sets, address formation, and which slot of the operation table ranks highest.
-/
namespace Sys2Proof.Machine

/-! ### Block sets -/

/-- Adds a block to a set. -/
def BlockSet.add (b : Nat) : BlockSet → BlockSet
  | [] => [b]
  | x :: t => if b < x then b :: x :: t else if b = x then x :: t else x :: BlockSet.add b t

/-- Removes a block from a set. -/
def BlockSet.remove (b : Nat) (xs : BlockSet) : BlockSet := xs.filter (· ≠ b)

/-- Adds every block of a list. -/
def BlockSet.addAll (bs : List Nat) (xs : BlockSet) : BlockSet := bs.foldl (fun acc b => BlockSet.add b acc) xs

/-- The blocks of a set that are authorised blocks of an entry. -/
def BlockSet.ofRegion (t : Table) (r : Region) (xs : BlockSet) : BlockSet :=
  match t.get r with
  | some d => xs.filter d.authorised
  | none => []

/-- The blocks of a set outside an entry's authorised blocks. -/
def BlockSet.outside (t : Table) (r : Region) (xs : BlockSet) : BlockSet :=
  match t.get r with
  | some d => xs.filter fun b => !d.authorised b
  | none => xs

/-! ### Output lines and memory fitted -/

/-- HRESET is asserted in CONFIG and INIT, and while the part is held in reset (R175, R181). -/
def State.hreset (s : State) : Bool := s.inReset || s.mli.control == .config || s.mli.control == .init

/-- The members both pending and enabled. -/
def AlarmSet.inter (a b : AlarmSet) : AlarmSet :=
  ⟨a.faultQueued && b.faultQueued, a.queueFull && b.queueFull, a.vitalDown && b.vitalDown, a.linkChange && b.linkChange,
    a.retired && b.retired, a.startDone && b.startDone⟩

/-- The members of `a` that `b` does not name. -/
def AlarmSet.minus (a b : AlarmSet) : AlarmSet :=
  ⟨a.faultQueued && !b.faultQueued, a.queueFull && !b.queueFull, a.vitalDown && !b.vitalDown,
    a.linkChange && !b.linkChange, a.retired && !b.retired, a.startDone && !b.startDone⟩

/-- ALM is asserted while at least one member is both pending and enabled (R165). -/
def State.alm (s : State) : Bool := AlarmSet.inter s.fau.pending s.fau.mask != AlarmSet.none

/-- The VEN output (R166). -/
def State.ven (s : State) : Bool := s.fau.ven

/-- The number of words fitted, MEMSIZE. -/
def State.memWords (s : State) : Nat := s.mli.params.words

/-! ### Conditions reported between blocks -/

/-- A checkpoint pass is in flight while any region is COPYING (R96). -/
def State.copyPassInFlight (s : State) : Bool := allRegions.any fun r => s.ckc.ckState.get r == .copying

/-- A restore pass is in flight while any region is RESTORING (R96). -/
def State.restorePassInFlight (s : State) : Bool := allRegions.any fun r => s.ckc.ckState.get r == .restoring

/-- A pass of either kind is in flight (R96). -/
def State.passInFlight (s : State) : Bool := s.copyPassInFlight || s.restorePassInFlight

/-- The marker held in DRAINING whose local kind may be fixed: no pass is in flight (R124, R125). -/
def State.fixable (s : State) : Option HeldMarker :=
  if s.cau.marker = .draining ∧ s.cau.localMark.isNone ∧ s.passInFlight = false then s.cau.held else none

/-- The fixing of the local kind issues the verdict in the same step: in SINGLE mode, and in PAIRED mode with the twin link DOWN or a
MARK in the slot (R125). -/
def State.fixingDecides (s : State) : Bool :=
  match s.mli.params.twinMode with
  | .single => true
  | .paired => !s.twl.linkUp || s.cau.slot.isSome

/-- A verdict is at hand: the local kind is to be fixed at once (R124), and the fixing issues the verdict. -/
def State.verdictAtHand (s : State) : Bool := s.fixable.isSome && s.fixingDecides

/-- A retire copy of block b is in flight (R67). -/
def State.retiring (s : State) (b : Nat) : Bool :=
  match s.txe.retire with
  | some o => decide (o.block = b)
  | none => false

/-- A clear placed by an installation in HOLD is in flight (R38, R172). -/
def State.holdClearInFlight (s : State) : Bool :=
  match s.txe.clear with
  | some o => !o.atStart
  | none => false

/-- Scrub is suspended (R143). -/
def State.scrubSuspended (s : State) : Bool :=
  s.mli.control == .init || s.mli.control == .hold || s.cau.marker != .opened

/-- REGION_FIELD is answered BUSY in HOLD: a pass, retire copy or clear in flight, or an access not ended (R28, R57). -/
def State.installBusy (s : State) : Bool :=
  s.passInFlight || s.txe.retire.isSome || s.txe.clear.isSome || s.hbi.access.isSome

/-- The current access is at the port, or the verdict word is to be written: the processor side asks for the port (R61). -/
def State.procAsking (s : State) : Bool :=
  (match s.hbi.access with
    | some a => a.phase == .atPort
    | none => false) || s.cau.verdictDue

/-- The grant the processor side takes: LOCKED for the read half of a LOCKED sequence, else PROCESSOR (R65). -/
def State.procGrant (s : State) : Grant :=
  match s.hbi.access with
  | some a => if a.phase == .atPort && a.op.kind == .locked then .locked else .processor
  | none => .processor

/-- A write to block b has passed the retire hold check and has not been performed, a held marker write included (R44,
R136, R152). -/
def State.writePassed (s : State) (b : Nat) : Bool :=
  match s.hbi.access with
  | some a => a.op.kind.writes && decide (a.record.block = b) &&
      (a.phase == .atPort || a.phase == .lockedOpen || a.phase == .heldMarker)
  | none => false

/-! ### Addresses (R60) -/

/-- The physical block of a logical block: the spare of the LIVE remap entry that names it, or the block itself. -/
def State.physBlock (s : State) (b : Nat) : Nat :=
  match s.sru.remap.find? fun e => e.live && decide (e.block = b) with
  | some e => s.mli.params.spareBase + e.spare
  | none => b

/-- The physical word address of a logical word. -/
def State.physWord (s : State) (w : Nat) : Nat :=
  s.physBlock (w / Config.blockWords) * Config.blockWords + w % Config.blockWords

/-- The physical word address of a word of a spare block, named directly (R60, R74). -/
def State.spareWord (s : State) (spare offset : Nat) : Nat :=
  (s.mli.params.spareBase + spare) * Config.blockWords + offset

/-- The signature terms of a logical word now (R3). -/
def State.terms (s : State) (w : Nat) : Terms := sigTerms s.rgd.table w

/-- The check report of the pair a logical word holds now, in the epoch in force (R7, R8, R9). -/
def State.check (s : State) (withRepair : Bool) (w : Nat) (t : Terms) : CheckReport :=
  checkPair withRepair w t s.cau.epoch (readPlaneP s.planeP (s.physWord w)) (readPlaneQ s.planeQ (s.physWord w))

/-- The shadow block of a block of an entry (R70); the block itself where the entry has no shadow. -/
def State.shadowBlock (s : State) (r : Region) (b : Nat) : Nat :=
  ((s.rgd.table.get r).bind (·.shadowOf b)).getD b

/-- The working block of a shadow block of an entry. -/
def State.workingBlock (s : State) (r : Region) (b : Nat) : Nat :=
  match s.rgd.table.get r with
  | some d => d.workingOf b
  | none => b

/-! ### The operation table (R67, R68) -/

/-- The highest-ranked occupied slot. -/
def Txe.highest (x : Txe) : Option EngineKind :=
  if x.clear.isSome then some .clear
  else if x.priority.isSome then some .priorityBlock
  else if x.readWord.isSome then some .readWord
  else if x.restorePass.isSome then some .restorePass
  else if x.checkpointPass.isSome then some .checkpointPass
  else if x.retire.isSome then some .retire
  else if x.scrub.isSome then some .scrubBurst
  else none

/-- The set a move works off: S for a copy, R for a restore. -/
def Ckc.setOf (c : Ckc) : Move → BlockSet
  | .copy => c.pass
  | .restore => c.restore

/-- The state a region is in while a move's pass works on it. -/
def Move.inFlight : Move → CkState
  | .copy => .copying
  | .restore => .restoring

/-- The pass slot of a move. -/
def Txe.passSlot (x : Txe) : Move → Option PassOp
  | .copy => x.checkpointPass
  | .restore => x.restorePass

/-- The pass kind of a move. -/
def Move.passKind : Move → EngineKind
  | .copy => .checkpointPass
  | .restore => .restorePass

/-- The block a PRIORITY_BLOCK of this move names (R88, R105). -/
def Txe.priorityBlockOf (x : Txe) (m : Move) : Option Nat :=
  match x.priority with
  | some o => if o.move = m then some o.block else none
  | none => none

/-- The first block of a set in a direction's order. -/
def firstInOrder (dir : Direction) (xs : BlockSet) : Option Nat :=
  match dir with
  | .up => xs.head?
  | .down => xs.getLast?

/-- The block the Checkpoint Controller names next to a pass: the lowest-numbered entry in flight, its blocks of the set in
direction order, passing over the block of a PRIORITY_BLOCK of the same move (R88, R105). -/
def State.nextPassBlock (s : State) (m : Move) : Option PassPos :=
  allRegions.findSome? fun r =>
    match s.rgd.table.get r with
    | some d =>
      if s.ckc.ckState.get r = m.inFlight then
        (firstInOrder d.dir (((s.ckc.setOf m).filter d.authorised).filter
          fun b => decide (s.txe.priorityBlockOf m ≠ some b))).map fun b => ⟨r, b, 0⟩
      else none
    | none => none

/-- The place of the block move in hand: the active PRIORITY_BLOCK of that move, or the active pass (R70 to R72). -/
def State.movePos (s : State) (m : Move) : Option PassPos :=
  match s.txe.active with
  | some .priorityBlock =>
    match s.txe.priority with
    | some o => if o.move = m then some ⟨o.region, o.block, o.offset⟩ else none
    | none => none
  | some .checkpointPass => if m = .copy then s.txe.checkpointPass.bind (·.pos) else none
  | some .restorePass => if m = .restore then s.txe.restorePass.bind (·.pos) else none
  | _ => none

/-- The block in hand of a clear, in direction order (R78, R79). -/
def ClearRange.block (c : ClearRange) (done : Nat) : Nat :=
  match c.dir with
  | .up => c.lo + done
  | .down => c.lo + c.count - 1 - done

end Sys2Proof.Machine
end

