-- ==== Sys2Proof/Machine/Ops.lean ====
section
/-!
DEFINITION. The shared operations of the blocks: word writes, the taking of a fault, repair reports and retire requests,
the operation table and its selection points, the grant of the memory port, the checks a processor access passes, the
Checkpoint Controller's reports, and the effects of a verdict. The commands' meanings are built from these.
-/
namespace Sys2Proof.Machine

/-- What a command answers: it always goes on, unless a word operation has no memory to reach. -/
abbrev Answer := Host.Outcome State Fault Refusal

/-! ### Word operations (R59) -/

/-- A single-plane write of plane P at a physical word address. -/
def State.putP (s : State) (pw : Nat) (p : Word) : State := { s with planeP := writePlaneP s.planeP pw p }

/-- A single-plane write of plane Q at a physical word address. -/
def State.putQ (s : State) (pw : Nat) (q : Code) : State := { s with planeQ := writePlaneQ s.planeQ pw q }

/-- A pair write at a physical word address: both planes together (R1, R4). -/
def State.putPair (s : State) (pw : Nat) (p : Word) (q : Code) : State :=
  { s with planeP := writePlaneP s.planeP pw p, planeQ := writePlaneQ s.planeQ pw q }

/-- A pair write of data at a logical word under its signature in the epoch in force (R4, R60). -/
def State.writeWord (s : State) (w : Nat) (t : Terms) (d : Word) : State :=
  s.putPair (s.physWord w) d (encode d (signature w t s.cau.epoch))

/-! ### Taking a fault (Chapter 9) -/

/-- The code of a fault kind (R185), from 1. -/
def FaultKind.code : FaultKind → Nat
  | .unmapped => 1
  | .length => 2
  | .cls => 3
  | .markerForm => 4
  | .uncorrectable => 5
  | .stale => 6
  | .audit => 7
  | .checkpointFailed => 8
  | .restoreFailed => 9
  | .retireFailed => 10
  | .sparesExhausted => 11
  | .retireQueueFull => 12
  | .sequence => 13
  | .layout => 14
  | .disagree => 15
  | .twinTimeout => 16
  | .linkProtocol => 17
  | .linkLate => 18
  | .linkFrame => 19
  | .cycleOverrun => 20

/-- The counter of a fault kind: the counters stand in kind-code order (R163, R185). -/
def FaultKind.counter (k : FaultKind) : Fin 22 := Fin.ofNat 22 (k.code - 1)

/-- The counter of a repaired plane: P_REPAIRED and Q_REPAIRED follow the fault kinds (R163, R185). -/
def Plane.counter : Plane → Fin 22
  | .p => 20
  | .q => 21

/-- Adds one to a counter, which saturates at 65,535 (R163). -/
def bumpCounter (cs : Vector Nat 22) (i : Fin 22) : Vector Nat 22 :=
  cs.set i (if cs.get i < Config.counterMax then cs.get i + 1 else Config.counterMax)

/-- The judgement of vitality by primary kind and the region's VITAL attribute (R158). -/
def faultVital (t : Table) (k : FaultKind) (r : Option Region) : Bool :=
  match k with
  | .unmapped | .sequence | .layout | .disagree | .twinTimeout | .linkProtocol | .cycleOverrun => true
  | .length | .cls | .uncorrectable | .stale | .audit | .restoreFailed =>
    match r with
    | some r => hasAttr (·.vital) t r
    | none => false
  | .markerForm | .checkpointFailed | .retireFailed | .sparesExhausted | .retireQueueFull | .linkLate | .linkFrame => false

/-- The taint reasons a fault report raises (R162). -/
def faultTaints (t : Table) (f : FaultReport) : TaintSet :=
  let agreed := match f.region with
    | some r => hasAttr (·.agreed) t r
    | none => false
  let bad := f.kind == .uncorrectable || f.kind == .stale
  { unreadableOld := f.source == .procWrite && f.access == some .wordWrite && f.kind == .uncorrectable && agreed
    suspectBlock := f.suspect
    hostUncorrectableAgreed := bad && agreed &&
      (f.source == .procRead || f.source == .procFetch || (f.source == .procWrite && f.access == some .byteWrite))
    maint := false }

/-- The union of two sets of taint reasons. -/
def TaintSet.union (a b : TaintSet) : TaintSet :=
  ⟨a.unreadableOld || b.unreadableOld, a.suspectBlock || b.suspectBlock,
    a.hostUncorrectableAgreed || b.hostUncorrectableAgreed, a.maint || b.maint⟩

/-- Raises taint reasons for the next epoch, in the carry set (R121). -/
def Cau.raiseCarry (c : Cau) (ts : TaintSet) : Cau := { c with carry := c.carry.union ts }

/-- Raises taint reasons: into the carry set from the fixing of the local kind until the verdict, else into the taint set
(R121; log 16). -/
def Cau.raise (c : Cau) (ts : TaintSet) : Cau :=
  if c.localMark.isSome then c.raiseCarry ts else { c with taint := c.taint.union ts }

/-- The record of a fault as the Fault and Alarm Unit completes it: E and C stamped, vitality judged (R159, R160). -/
def State.recordOf (s : State) (f : FaultReport) : FaultRecord :=
  { kind := f.kind, also := f.also, source := f.source, word := f.word, region := f.region, findings := f.findings
    position := f.position, vital := faultVital s.rgd.table f.kind f.region, epoch := s.cau.epoch, cycle := s.cau.cycle }

/-- A record is offered to the fault queue (R160 part 3, R161). -/
def Fau.offer (f : Fau) (r : FaultRecord) : Fau :=
  if f.queue.length < Config.faultQueueSize then
    { f with queue := f.queue ++ [r], pending := { f.pending with faultQueued := true } }
  else { f with pending := { f.pending with queueFull := true } }

/-- The effects of a vital fault on VEN, the latch, the pending set and the two flags (R166, R167). -/
def Fau.vitalFault (f : Fau) : Fau :=
  let g := if f.ven then { f with ven := false, latch := true, pending := { f.pending with vitalDown := true } } else f
  { g with epochFlag := true, qualified := false }

/-- The Fault and Alarm Unit takes a completed record: parts 2, 3 and 4 of R160. -/
def Fau.take (f : Fau) (r : FaultRecord) : Fau :=
  let g := Fau.offer { f with counters := bumpCounter f.counters r.kind.counter } r
  if r.vital then g.vitalFault else g

/-- Taking a fault, one step in five parts (R160). -/
def State.takeFault (s : State) (f : FaultReport) : State :=
  { s with
    fau := s.fau.take (s.recordOf f)
    cau := s.cau.raise (faultTaints s.rgd.table f) }

/-- Takes the fault of a failed retire copy. Its taint is raised as any other, and before the fixing forces this epoch's MARK to
ROLLBACK (R121). Where its suspect mark meets a verdict, the taint also falls in the epoch the verdict opens, whichever is taken first
(R104; log 41): it waits in the carry set as well. -/
def State.takeRetireFault (s : State) (f : FaultReport) : State :=
  let u := s.takeFault f
  if s.verdictAtHand then { u with cau := u.cau.raiseCarry (faultTaints s.rgd.table f) } else u

/-- A fault report with nothing beyond its kind and source. -/
def bareFault (k : FaultKind) (src : Source) : FaultReport :=
  { kind := k, also := none, source := src, word := none, region := none, findings := none, position := none
    suspect := false, access := none }

/-! ### Suspect marks, written blocks (R81, R83, R84) -/

/-- Adds a block to the dirty map, when it is an authorised block of a present region that carries CHECKPOINT and the
region's state is not NONE (R81, R83, R84). -/
def State.addDirty (s : State) (b : Nat) : State :=
  match firstRegion (fun _ d => d.attrs.checkpoint && d.authorised b) s.rgd.table with
  | some (r, _) =>
    if s.ckc.ckState.get r = .none then s else { s with ckc := { s.ckc with dirty := BlockSet.add b s.ckc.dirty } }
  | none => s

/-- Adds a block to the dirty map where a condition holds. -/
def State.addDirtyIf (s : State) (c : Bool) (b : Nat) : State := if c then s.addDirty b else s

/-! ### Retire requests and repair reports (R11, R148, R149) -/

/-- The position of a word of a block in its owning region (R149, R152). -/
def positionIn (o : Option (Region × Part)) (b offset : Nat) : Option Position :=
  o.map fun x => { region := x.1, part := x.2, block := b, offset := offset }

/-- A fault of the retirement unit about word w of block b, at its owning region (R149, R152). -/
def retireFault (t : Table) (k : FaultKind) (b w : Nat) : FaultReport :=
  { bareFault k .engineRetire with
    word := some w
    region := (ownerOf t b).map (·.1)
    position := positionIn (ownerOf t b) b (w % Config.blockWords) }

/-- A request to retire block b, on account of word w (R149). -/
def State.requestRetire (s : State) (b w : Nat) : State :=
  if b ∈ s.sru.retireQueue then s
  else if s.sru.retireQueue.length < Config.retireQueueSize then
    { s with sru := { s.sru with retireQueue := s.sru.retireQueue ++ [b] } }
  else s.takeFault (retireFault s.rgd.table .retireQueueFull b w)

/-- A repair that was performed is counted, and looked up in the repair history (R11, R148). -/
def State.reportRepair (s : State) (w : Nat) (pl : Plane) : State :=
  let s := { s with fau := { s.fau with counters := bumpCounter s.fau.counters pl.counter } }
  if s.sru.history.any fun e => decide (e.word = w) then
    State.requestRetire
      { s with sru := { s.sru with history := s.sru.history.filter fun e => decide (e.word ≠ w) } }
      (w / Config.blockWords) w
  else
    { s with sru := { s.sru with history := (⟨w, pl⟩ :: s.sru.history).take Config.historySize } }

/-- The repair of a check with repair: the single-plane write, and its report (R10, R11). -/
def State.repair (s : State) (w : Nat) (t : Terms) (rep : CheckReport) : State :=
  match rep.repair with
  | .pWritten => (s.putP (s.physWord w) (codeData rep.rawQ)).reportRepair w .p
  | .qWritten => (s.putQ (s.physWord w) (encode rep.rawP (signature w t s.cau.epoch))).reportRepair w .q
  | .none | .withheld => s

/-- The report of a repair whose write the full write of a read-modify-write replaces (R14). -/
def State.repairByWrite (s : State) (w : Nat) (rep : CheckReport) : State :=
  match rep.repair with
  | .pWritten => s.reportRepair w .p
  | .qWritten => s.reportRepair w .q
  | .none | .withheld => s

/-- A check made for a processor access replaces the coding latch (R12). -/
def State.loadLatch (s : State) (rep : CheckReport) : State := { s with cdu := { latch := some ⟨rep.cls, rep.data⟩ } }

/-- Adds a term to the digest modulo 2^32 (R123). -/
def State.addDigest (s : State) (term : BitVec 32) : State :=
  { s with cau := { s.cau with digest := s.cau.digest + term } }

/-- Adds a digest term where a region carries AGREED (R49, R51, R52). -/
def State.addDigestIf (s : State) (c : Bool) (term : BitVec 32) : State := if c then s.addDigest term else s

/-! ### The operation table (R67, R68) -/

/-- Makes a slot ACTIVE: the kind is the active one and its operation has begun. -/
def Txe.activate (x : Txe) (k : EngineKind) : Txe :=
  let y := { x with active := some k }
  match k with
  | .clear => { y with clear := y.clear.map fun o => { o with begun := true } }
  | .priorityBlock => { y with priority := y.priority.map fun o => { o with begun := true } }
  | .readWord => { y with readWord := y.readWord.map fun o => { o with begun := true } }
  | .restorePass => { y with restorePass := y.restorePass.map fun o => { o with begun := true } }
  | .checkpointPass => { y with checkpointPass := y.checkpointPass.map fun o => { o with begun := true } }
  | .retire => { y with retire := y.retire.map fun o => { o with begun := true } }
  | .scrubBurst => { y with scrub := y.scrub.map fun o => { o with begun := true } }

/-- Sets the pass slot of a move. -/
def Txe.setPass (x : Txe) (m : Move) (o : Option PassOp) : Txe :=
  match m with
  | .copy => { x with checkpointPass := o }
  | .restore => { x with restorePass := o }

/-- The move of a pass kind. -/
def EngineKind.passMove : EngineKind → Option Move
  | .checkpointPass => some .copy
  | .restorePass => some .restore
  | _ => none

/-- The pass of a move has no block to go on with: none named yet, or its kept position to be discarded (R72). -/
def Txe.needsBlock (x : Txe) (m : Move) : Bool :=
  match x.passSlot m with
  | some o => o.pos.isNone || o.stale
  | none => false

/-- The engine asks for the next block of a pass: it takes the block named, or ends the pass and empties its slot (R70,
R71). -/
def State.askPass (s : State) (m : Move) : State :=
  match s.txe.passSlot m with
  | none => s
  | some o =>
    match s.nextPassBlock m with
    | some p => { s with txe := s.txe.setPass m (some { o with pos := some p, stale := false }) }
    | none => { s with txe := s.txe.setPass m none }

/-- A selection point (R68): the highest-ranked occupied slot becomes ACTIVE. A pass that has no block asks for one, and the
engine looks again when that ends the pass; at most both passes can end so. -/
def State.select : Nat → State → State
  | 0, s => s
  | fuel + 1, s =>
    match s.txe.highest with
    | none => { s with txe := { s.txe with active := none } }
    | some k =>
      let s' := { s with txe := s.txe.activate k }
      match k.passMove with
      | some m =>
        if s'.txe.needsBlock m then
          let s'' := s'.askPass m
          if (s''.txe.passSlot m).isNone then State.select fuel s'' else s''
        else s'
      | none => s'

/-- A selection point: three looks suffice, since only the two passes can end at one. -/
def State.selectionPoint (s : State) : State := s.select 3

/-! ### The grant (R61, R62, R65) -/

/-- The engine is granted afresh: the count is 0 and the limit is BURST as read now (R62). -/
def State.grantEngine (s : State) : State :=
  { s with mpt := { grant := .engine, count := 0, limit := s.mli.params.burst } }

/-- After a change outside the engine's groups: the engine selects when it has no ACTIVE slot; an engine grant with no
further group to make returns to NONE; a port that is NONE goes to the engine or to the processor side that asks (R61,
R68). Both can ask at once only at a verdict, where the passes ask before the verdict word (R134, R136; log 6). -/
def State.settle (s : State) : State :=
  let s := if s.txe.active.isNone then s.selectionPoint else s
  let g := if s.mpt.grant = .engine ∧ s.txe.active.isNone then Grant.none else s.mpt.grant
  let s := { s with mpt := { s.mpt with grant := g } }
  if g = .none then
    if s.txe.active.isSome then s.grantEngine
    else if s.procAsking then { s with mpt := { s.mpt with grant := s.procGrant } }
    else s
  else s

/-- An engine group ends (R62). `asked` says whether the processor side was asking before the group's reports, so that the
end of the burst is taken before a request those reports release (R63; log 5). -/
def State.portAfterEngine (s : State) (asked : Bool) : State :=
  let n := s.mpt.count + 1
  if s.txe.active.isNone then
    State.settle { s with mpt := { s.mpt with grant := .none, count := n } }
  else if n < s.mpt.limit then { s with mpt := { s.mpt with count := n } }
  else if asked then { s with mpt := { s.mpt with grant := s.procGrant, count := n } }
  else s.grantEngine

/-- A processor group ends, or a LOCKED sequence releases the port: the grant returns to NONE, and the engine is granted
when it asks (R61, R63, R65). -/
def State.releasePort (s : State) : State := State.settle { s with mpt := { s.mpt with grant := .none } }

/-- The engine holds the grant and this kind is ACTIVE, so that a group of it may be made. -/
def State.engineAt (s : State) (k : EngineKind) : Bool := s.mpt.grant == .engine && s.txe.active == some k

/-- The end of a group inside a chunk, which is no selection point. -/
def State.engineGroupEnd (s : State) (asked : Bool) : State := s.portAfterEngine asked

/-- The end of a group that is a selection point (R68). -/
def State.engineSelectEnd (s : State) (asked : Bool) : State := (s.selectionPoint).portAfterEngine asked

/-! ### Scrub suspension (R143) -/

/-- Scrub becomes suspended: a burst in its slot is withdrawn. No check is in progress between two steps (log 3). -/
def State.suspendScrub (s : State) : State :=
  { s with txe := { s.txe with
      scrub := none
      active := if s.txe.active = some .scrubBurst then none else s.txe.active } }

/-! ### The processor's access, from its hold checks to its end (Chapter 3) -/

/-- The part ends an access: with ACK or BERR on the bus, or, when it was withdrawn, without an end (R54, R55). -/
def State.endAccess (s : State) (a : Access) (e : BusEnd) : State :=
  { s with hbi := { s.hbi with access := none, busEnd := if a.withdrawn then s.hbi.busEnd else some e } }

/-- The current access enters a phase. -/
def State.enterPhase (s : State) (a : Access) (p : Phase) : State :=
  { s with hbi := { s.hbi with access := some { a with phase := p } } }

/-- A fault about a processor access, with its word, region and kind (R33, R42, R47, R50, R51, R119). -/
def accessFault (k : FaultKind) (src : Source) (a : Access) : FaultReport :=
  { bareFault k src with word := some a.word, region := some a.record.region, access := some a.op.kind }

/-- A marker is taken in OPEN (R118, R124): the deadline stops, the marker state is DRAINING, the written kind and n are
kept; an ill-formed kind code is reported; scrub is suspended. -/
def State.takeMarker (s : State) (a : Access) (v : Word) : State :=
  let s := s.enterPhase a .heldMarker
  let s := { s with cau := { s.cau with
    deadlineTimer := none, marker := .draining, held := some ⟨markerKind v, loByte v⟩ } }
  let s := if markerFormed v then s
    else s.takeFault { accessFault .markerForm .marker a with access := none }
  s.suspendScrub

/-- The marker check (R45): a word write to the marker word is a marker, a byte write to it is refused (R119), and every
other access goes to the port. -/
def State.markerCheck (s : State) (a : Access) : State :=
  match a.record.marker, a.op with
  | true, .wordWrite v => s.takeMarker a v
  | true, .byteWrite _ _ => (s.takeFault (accessFault .markerForm .procWrite a)).endAccess a .berr
  | _, _ => s.enterPhase a .atPort

/-- The retire hold check (R44), and the marker check after it. -/
def State.retireCheck (s : State) (a : Access) : State :=
  if a.op.kind.writes && s.retiring a.record.block then s.enterPhase a .heldRetire else s.markerCheck a

/-- The checkpoint hold check (R90, R108): the move that must first be made of the access's block, where there is one. -/
def State.holdFor (s : State) (a : Access) : Option Move :=
  if !a.record.attrs.checkpoint then none
  else if a.record.block ∈ s.ckc.restore then some .restore
  else if a.record.block ∈ s.ckc.pass ∧ a.op.kind.writes then some .copy
  else none

/-- The block is the current block of the ACTIVE pass of a move (R91, R109). -/
def State.passIsOn (s : State) (m : Move) (b : Nat) : Bool :=
  s.txe.active == some m.passKind &&
    (match s.txe.passSlot m with
      | some o => (match o.pos with
        | some p => decide (p.block = b) && !o.stale
        | none => false)
      | none => false)

/-- The Checkpoint Controller arranges for a held access's block to be moved (R91, R109). -/
def State.requestPriority (s : State) (m : Move) (r : Region) (b : Nat) : State :=
  if s.passIsOn m b || s.txe.priority.isSome then s
  else { s with txe := { s.txe with priority := some ⟨m, r, b, 0, false⟩ } }

/-- A permitted access goes from decode to the checkpoint hold check and on (R42, R43). -/
def State.holdCheck (s : State) (a : Access) : State :=
  match s.holdFor a with
  | some m => (s.enterPhase a .heldBlock).requestPriority m a.record.region a.record.block
  | none => s.retireCheck a

/-- Releases an access held for a block, where it meets `p`: it goes on to the retire hold check (R92, R110). -/
def State.releaseHeld (s : State) (p : Access → Bool) : State :=
  match s.hbi.access with
  | some a => if a.phase = .heldBlock ∧ p a = true then s.retireCheck a else s
  | none => s

/-- Releases a write held for a retire copy of block b: it goes on to the marker check (R44, R155, R156). -/
def State.releaseRetire (s : State) (b : Nat) : State :=
  match s.hbi.access with
  | some a => if a.phase = .heldRetire ∧ a.record.block = b then s.markerCheck a else s
  | none => s

/-! ### The Checkpoint Controller's reports (Chapters 5 and 6) -/

/-- Sets the checkpoint state of an entry. -/
def Ckc.setState (c : Ckc) (r : Region) (x : CkState) : Ckc := { c with ckState := c.ckState.set r x }

/-- A pass whose kept position lies in a block that has left its set will discard it (R72, R95, R113). -/
def State.markStale (s : State) (m : Move) : State :=
  match s.txe.passSlot m with
  | some o =>
    match o.pos with
    | some p =>
      if p.block ∈ s.ckc.setOf m then s else { s with txe := s.txe.setPass m (some { o with stale := true }) }
    | none => s
  | none => s

/-- Takes a moved block out of its set: out of S when copied (R89), out of R and D together when restored (R106). -/
def Ckc.moved (c : Ckc) (m : Move) (b : Nat) : Ckc :=
  match m with
  | .copy => { c with pass := BlockSet.remove b c.pass }
  | .restore =>
    if b ∈ c.restore then
      { c with restore := BlockSet.remove b c.restore, dirty := BlockSet.remove b c.dirty }
    else c

/-- The engine reports block b of region r copied or restored (R89, R106). -/
def State.blockMoved (s : State) (m : Move) (r : Region) (b : Nat) : State :=
  let was := decide (b ∈ s.ckc.setOf m)
  let c := s.ckc.moved m b
  let c := if was && decide (BlockSet.ofRegion s.rgd.table r (c.setOf m) = []) && c.ckState.get r == m.inFlight
    then c.setState r .valid else c
  (State.markStale { s with ckc := c } m).releaseHeld fun a => decide (a.record.block = b)

/-- Withdraws a PRIORITY_BLOCK of this move whose block has left the move's set (R92, R95, R110): one that still waits, or the
ACTIVE one whose own word failed, which ends with that report (R73). -/
def State.withdrawPriority (s : State) (m : Move) : State :=
  match s.txe.priority with
  | some o => if o.move = m ∧ o.block ∉ s.ckc.setOf m then { s with txe := { s.txe with priority := none } } else s
  | none => s

/-- A region leaves its pass unfinished: its blocks leave the set (from S they return to D, those of R are in D already) and
it becomes BROKEN (R93, R95, R111, R113). -/
def Ckc.breakPass (c : Ckc) (t : Table) (m : Move) (r : Region) : Ckc :=
  match m with
  | .copy =>
    Ckc.setState { c with
      pass := BlockSet.outside t r c.pass, dirty := BlockSet.addAll (BlockSet.ofRegion t r c.pass) c.dirty } r .broken
  | .restore => Ckc.setState { c with restore := BlockSet.outside t r c.restore } r .broken

/-- The step above, with the accesses held for the region's blocks released and a WAITING PRIORITY_BLOCK of one withdrawn. -/
def State.breakPass (s : State) (m : Move) (r : Region) : State :=
  ((State.markStale { s with ckc := s.ckc.breakPass s.rgd.table m r } m).withdrawPriority m).releaseHeld
    fun a => decide (a.record.region = r)

/-- A region's shadow cannot be trusted: a failure of its pass, or another block's report (R93, R95, R111, R113). -/
def State.shadowBreak (s : State) (r : Region) : State :=
  match s.ckc.ckState.get r with
  | .valid => { s with ckc := s.ckc.setState r .broken }
  | .copying => s.breakPass .copy r
  | .restoring => s.breakPass .restore r
  | .broken | .none => s

/-- The fault report of a copy failure (R94) or of a restore failure (R112), of the failing word `w` at `pos`. -/
def moveFault (m : Move) (pos : Position) (w : Nat) (rep : CheckReport) : FaultReport :=
  { bareFault (match m with
      | .copy => .checkpointFailed
      | .restore => .restoreFailed)
      (match m with
      | .copy => .engineCheckpoint
      | .restore => .engineRestore) with
    also := some .uncorrectable
    word := some w
    region := some pos.region
    findings := some rep.findings
    position := some pos
    suspect := match m with
      | .copy => true
      | .restore => false }

/-- The engine reports a copy or restore failure of block b in region r (R93, R111), with the failing word: the region's pass
breaks off, and a block that could not be copied is suspect. -/
def State.moveFailed (s : State) (m : Move) (r : Region) (b : Nat) (pos : Position) (w : Nat) (rep : CheckReport) :
    State :=
  let s := s.shadowBreak r
  let s := match m with
    | .copy => s.addDirty b
    | .restore => s
  s.takeFault (moveFault m pos w rep)

/-! ### Passes started at a verdict (R86, R87, R101 to R103, R75) -/

/-- The start of a checkpoint pass for one entry (R86). -/
def Ckc.startCopy (c : Ckc) (t : Table) (r : Region) : Ckc :=
  match t.get r with
  | some d =>
    if d.attrs.checkpoint then
      match c.ckState.get r with
      | .valid =>
        if c.dirty.filter d.authorised = [] then c
        else Ckc.setState { c with
          pass := BlockSet.addAll (c.dirty.filter d.authorised) c.pass
          dirty := c.dirty.filter fun b => !d.authorised b } r .copying
      | .broken =>
        Ckc.setState { c with
          pass := BlockSet.addAll (List.range' d.authLow d.len) c.pass
          dirty := c.dirty.filter fun b => !d.authorised b } r .copying
      | _ => c
    else c
  | none => c

/-- The fault of a verdict that finds a region BROKEN (R102). -/
def restoreRefused (markerWord : Nat) (r : Region) : FaultReport :=
  { bareFault .restoreFailed .marker with word := some markerWord, region := some r }

/-- The start of a restore pass for one entry (R101, R102). -/
def State.startRestore (s : State) (r : Region) : State :=
  match s.rgd.table.get r with
  | some d =>
    if d.attrs.checkpoint then
      match s.ckc.ckState.get r with
      | .valid =>
        if s.ckc.dirty.filter d.authorised = [] then s
        else { s with ckc := Ckc.setState { s.ckc with
          restore := BlockSet.addAll (s.ckc.dirty.filter d.authorised) s.ckc.restore } r .restoring }
      | .broken => s.takeFault (restoreRefused s.mli.params.marker r)
      | _ => s
    else s
  | none => s

/-- One request in the operation table covers every region that entered the pass (R87, R103). -/
def State.requestPass (s : State) (m : Move) : State :=
  if (allRegions.any fun r => s.ckc.ckState.get r == m.inFlight) && (s.txe.passSlot m).isNone then
    { s with txe := s.txe.setPass m (some ⟨none, false, false⟩) }
  else s

/-- Empties the RETIRE slot; the FIFO is flushed when it holds the retire's chunk (R74, R75). -/
def Txe.dropRetire (x : Txe) : Txe :=
  if x.active = some .retire then { x with retire := none, active := none, fifoMode := .empty, fifo := [] }
  else { x with retire := none }

/-- A retire copy of a block placed in the set, or whose working block is placed there, is abandoned (R75, R153, R157). -/
def State.abandonRetire (s : State) (m : Move) : State :=
  match s.txe.retire with
  | some o =>
    let b := match o.part with
      | .working => o.block
      | .shadow => s.workingBlock o.region o.block
    if b ∈ s.ckc.setOf m then State.releaseRetire { s with txe := s.txe.dropRetire } o.block else s
  | none => s

/-- The Checkpoint Controller starts passes at a verdict: checkpoint passes (R86) or restore passes (R101). -/
def State.startPasses (s : State) (m : Move) : State :=
  let s := match m with
    | .copy => { s with ckc := allRegions.foldl (fun c r => c.startCopy s.rgd.table r) s.ckc }
    | .restore => allRegions.foldl State.startRestore s
  (s.requestPass m).abandonRetire m

/-! ### The verdict (R133 to R136) -/

/-- The verdict table (R133): the local MARK, C, and, in PAIRED mode, the twin's MARK. -/
def decideVerdict (mode : TwinMode) (c : Count8) (loc : Mark) (twin : Option Mark) : Verdict × Option FaultKind :=
  if loc.n ≠ c then (.failed, some .sequence)
  else
    match mode, twin with
    | .paired, some t =>
      if t.n ≠ loc.n then (.failed, some .sequence)
      else if t.tag ≠ loc.tag then (.failed, some .layout)
      else if loc.kind = .rollback ∨ t.kind = .rollback then (.rolledBack, none)
      else if loc.digest ≠ t.digest then (.failed, some .disagree)
      else (.committed, none)
    | _, _ =>
      match loc.kind with
      | .commit => (.committed, none)
      | .rollback => (.rolledBack, none)

/-- The Fault and Alarm Unit is told of a verdict (R167). -/
def Fau.onVerdict (f : Fau) (v : Verdict) : Fau :=
  { f with qualified := v == .committed && !f.epochFlag, epochFlag := false }

/-- The Cycle and Agreement Unit's part of a verdict: steps 1 and 2 of R134; the marker's kind, n and local MARK are kept
only until the verdict (R124, R125), and the verdict word is due (R136). -/
def Cau.onVerdict (c : Cau) (v : Verdict) : Cau :=
  { c with
    epoch := c.epoch + 1
    cycle := if v = .committed then c.cycle + 1 else c.cycle
    lastVerdict := v
    digest := 0
    taint := c.carry
    carry := TaintSet.empty
    slot := none
    agreementTimer := none
    held := none
    localMark := none
    verdictDue := true }

/-- The move a verdict starts (R134 step 3). -/
def Verdict.move : Verdict → Move
  | .committed => .copy
  | _ => .restore

/-- The region of the held marker write. -/
def State.markerRegion (s : State) : Option Region := s.hbi.access.map (·.record.region)

/-- A verdict takes effect, steps 1 to 4 of R134 in order, and the processor side then asks for the port (R136). -/
def State.verdict (s : State) (v : Verdict × Option FaultKind) : State :=
  let s := { s with cau := s.cau.onVerdict v.1, fau := s.fau.onVerdict v.1 }
  let s := s.startPasses v.1.move
  let s := if v.1 = .committed then { s with rgd := { s.rgd with loadOpen := false } } else s
  let s := match v.2 with
    | some k => s.takeFault { bareFault k .marker with word := some s.mli.params.marker, region := s.markerRegion }
    | none => s
  s.settle

/-- The verdict when no twin MARK decides it: FAILED, SEQUENCE when n ≠ C and TWIN_TIMEOUT otherwise (R125, R132). -/
def State.timeoutVerdict (s : State) (loc : Mark) : State :=
  s.verdict (.failed, some (if loc.n ≠ s.cau.cycle then .sequence else .twinTimeout))

/-! ### The frame of the maintenance link (R170, R171) -/

/-- The statuses of a response (R171), with the codes of R185. -/
inductive Status where
  | done
  | busy
  | wrongState
  | badValue
  | empty
deriving DecidableEq, Repr

/-- The status unit (R185). -/
def Status.code : Status → Nat
  | .done => 0
  | .busy => 1
  | .wrongState => 2
  | .badValue => 3
  | .empty => 4

/-- The response is formed and the frame state becomes RESPONDING (R170). -/
def State.answer (s : State) (st : Status) (data : List Unit16) : State :=
  { s with mli := { s.mli with frame := .responding, response := unit st.code :: data } }

/-- The code of a reason (R185). -/
def Reason.code : Reason → Nat
  | .operand => 0
  | .stagingPartial => 1
  | .windowRange => 2
  | .shadowRange => 3
  | .spareRange => 4
  | .windowOverlap => 5
  | .spareOverlap => 6
  | .shadowOverlap => 7
  | .markerPlace => 8

/-- BAD_VALUE with its reason code and descriptor number, 0xFFFF for none (R185). -/
def State.answerBad (s : State) (r : Reason) (d : Option Region) : State :=
  s.answer .badValue [unit r.code, match d with
    | some x => unit x.val
    | none => 0xFFFF]

/-- An operand out of range (R185). -/
def State.badOperand (s : State) : State := s.answerBad .operand none

/-- A maintenance command can be received: out of reset, with a frame open in RECEIVING and no command code received in it
yet (R170, R181). -/
def State.receiving (s : State) : Bool := !s.inReset && s.mli.frame == .receiving && s.mli.code.isNone

/-- Takes a complete command of a code and operand units: carried out when a frame is being received, ignored otherwise (R170;
log 15). -/
def State.command (s : State) (code : Nat) (operands : List Unit16) (f : State → State) : State :=
  if s.receiving then f { s with mli := { s.mli with code := some (unit code), operands := operands } } else s

end Sys2Proof.Machine
end

