-- ==== Sys2Proof/Machine/Bus.lean ====
section
/-!
DEFINITION. The processor's bus cycles (Chapter 3): presented, taken, withdrawn, and the lines of a LOCKED sequence.
-/
namespace Sys2Proof.Machine

/-- An access is presented and waits to be taken; its bus cycle has no end yet (R41). -/
def State.setPresented (s : State) (c : BusCycle) : State :=
  { s with hbi := { s.hbi with presented := some c, busEnd := none } }

/-- A LOCKED sequence in LOCKED_OPEN ends without its write half: nothing written, the port released (R53). -/
def State.endLocked (s : State) : State :=
  State.releasePort { s with hbi := { s.hbi with access := none } }

/-- The write half of the LOCKED sequence `a`, where the cycle is a write to the same word with the lock line asserted
(R52). -/
def writeHalfFor (a : Access) (c : BusCycle) : Option WriteHalf :=
  if c.lock ∧ cycleWord c = a.word then cycleWriteHalf c else none

/-- The write half is taken: the phase becomes AT_PORT and the grant stays LOCKED (R52, R65). -/
def State.takeWriteHalf (s : State) (a : Access) (h : WriteHalf) : State :=
  { s with hbi := { s.hbi with
      access := some { a with op := .locked (some h), phase := .atPort }, busEnd := none } }

/-- The processor presents a bus cycle. HRESET keeps it from presenting one, and it has one access outstanding: none is
presented beside an unended access, unless that access was withdrawn (R40, R41). In LOCKED_OPEN the cycle is the write half
or ends the sequence (R52, R53). -/
def State.present (s : State) (c : BusCycle) : State :=
  if s.hreset || s.hbi.presented.isSome then s
  else
    match s.hbi.access with
    | none => s.setPresented c
    | some a =>
      match a.phase with
      | .lockedOpen =>
        match writeHalfFor a c with
        | some h => s.takeWriteHalf a h
        | none => (s.endLocked).setPresented c
      | _ => if a.withdrawn then s.setPresented c else s

/-- ACCESS_PRESENTED (R41). -/
def execAccessPresented (c : BusCycle) (s : State) : Answer := .next (s.present c)

/-- LOCKED_WRITE_HALF_PRESENTED (R52); outside LOCKED_OPEN a write with the lock line asserted is an ordinary write (R41;
log 19). -/
def execLockedWriteHalfPresented (c : BusCycle) (s : State) : Answer := .next (s.present c)

/-- The lock line is negated in LOCKED_OPEN without a write half (R53). -/
def State.negateLock (s : State) : State :=
  match s.hbi.access with
  | some a => if a.phase = .lockedOpen then s.endLocked else s
  | none => s

/-- LOCK_NEGATED (R53): the lock line negated, or another access presented. -/
def execLockNegated (o : Option BusCycle) (s : State) : Answer :=
  .next (match o with
    | some c => s.present c
    | none => s.negateLock)

/-- The current access a presented cycle becomes when it is permitted (R40, R41). -/
def accessOf (c : BusCycle) (r : DecodeRecord) : Access :=
  { op := cycleOp c, word := cycleWord c, record := r, phase := .atPort, withdrawn := false }

/-- The fault report of a decode refusal (R33). -/
def refusalFault (c : BusCycle) (k : FaultKind) (also : Option FaultKind) (r : Option Region) : FaultReport :=
  { bareFault k (cycleOp c).kind.source with
    also := also, word := some (cycleWord c), region := r, access := some (cycleOp c).kind }

/-- A presented access is taken: decoded (R31), refused with BERR (R33, R42), or sent to its hold checks (R43 to R45). -/
def State.take (s : State) (c : BusCycle) : State :=
  let s := { s with hbi := { s.hbi with presented := none } }
  match decodeAccess s.rgd.table s.rgd.loadOpen s.mli.params.marker (cycleOp c).kind (cycleWord c) with
  | .refused k also r =>
    let s := s.takeFault (refusalFault c k also r)
    { s with hbi := { s.hbi with busEnd := some .berr } }
  | .permitted r =>
    let a := accessOf c r
    if r.marker && (cycleOp c).kind == .locked then
      (s.takeFault (accessFault .markerForm .procRead a)).endAccess a .berr
    else State.settle (s.holdCheck a)

/-- TAKE_ACCESS (R41): taken when the current access is IDLE and the control state is RUN; otherwise it stays presented. -/
def execTakeAccess (s : State) : Answer :=
  .next (match s.hbi.presented with
    | some c => if !s.inReset && s.mli.control == .run && s.hbi.access.isNone then s.take c else s
    | none => s)

/-- PRESENTED_ACCESS_WITHDRAWN (R41): the access ceases to be presented and nothing is recorded. -/
def execPresentedAccessWithdrawn (s : State) : Answer :=
  .next { s with hbi := { s.hbi with presented := none } }

/-- ACCESS_WITHDRAWN (R55): a taken access is marked withdrawn; in LOCKED_OPEN the end of the bus cycle is the negation of
R53; with no taken access it has no effect (R56). -/
def execAccessWithdrawn (s : State) : Answer :=
  .next (match s.hbi.access with
    | some a =>
      if a.phase = .lockedOpen then s.endLocked
      else { s with hbi := { s.hbi with access := some { a with withdrawn := true } } }
    | none => s)

end Sys2Proof.Machine
end

