-- ==== Sys2Proof/Machine/ProcGroups.lean ====
section
/-!
DEFINITION. The processor side's word operation groups at the memory port (R46 to R52, R59).
-/
namespace Sys2Proof.Machine

/-- A step that makes word operations: nothing happens unless the group is the one the port is granted for; the group is
made when every physical word address it uses lies in the memory fitted. -/
def onPort (s : State) (ready : Bool) (addrs : List Nat) (f : State → State) : Answer :=
  if !ready then .next s
  else if addrs.all fun pw => decide (pw < s.memWords) then .next (f s)
  else .fault .addressBeyondMemory

/-- The signature terms of a processor access, from its decode record (R32). -/
def Access.terms (a : Access) : Terms := ⟨a.record.key, a.record.cls == .cyclic⟩

/-- The access at the port under this grant, where it meets `p`. -/
def State.granted (s : State) (g : Grant) (p : AccessOp → Bool) : Option Access :=
  match s.hbi.access with
  | some a => if s.mpt.grant = g ∧ a.phase = .atPort ∧ p a.op = true then some a else none
  | none => none

/-- A step at the port for the current access, where it is granted. -/
def State.accessGroup (s : State) (g : Grant) (p : AccessOp → Bool) (f : Access → State → State) : Answer :=
  match s.granted g p with
  | some a => onPort s true [s.physWord a.word] (f a)
  | none => .next s

/-- The fault of a processor access that finds a bad word (R47, R50, R51). The suspect mark goes with an UNCORRECTABLE word
of a region that carries CHECKPOINT (R84). -/
def badWordFault (a : Access) (src : Source) (rep : CheckReport) : FaultReport :=
  { accessFault (badWordKind rep.cls) src a with
    findings := some rep.findings
    suspect := a.record.attrs.checkpoint && rep.cls == .uncorrectable }

/-- The fault is reported, with its suspect mark to the Checkpoint Controller (R47, R84). -/
def State.reportBadWord (s : State) (a : Access) (src : Source) (rep : CheckReport) : State :=
  let f := badWordFault a src rep
  (s.addDirtyIf f.suspect a.record.block).takeFault f

/-- The data a read's acknowledge carries: the lane's byte for BYTE_READ, else the word (R46). -/
def readEnd (op : AccessOp) (d : Word) : BusEnd :=
  match op with
  | .byteRead l => .ackByte (laneByte l d)
  | _ => .ackWord d

/-! ### Reads (R46, R47) -/

/-- The op is WORD_READ, FETCH or BYTE_READ. -/
def AccessOp.isRead : AccessOp → Bool
  | .wordRead | .fetch | .byteRead _ => true
  | _ => false

/-- One read group: pair read, check with repair, latch loaded, and ACK with data or BERR with a fault (R46, R47). -/
def State.readGroup (s : State) (a : Access) : State :=
  let rep := s.check true a.word a.terms
  let s := (s.repair a.word a.terms rep).loadLatch rep
  match rep.data with
  | some d => (s.endAccess a (readEnd a.op d)).releasePort
  | none => ((s.reportBadWord a a.op.kind.source rep).endAccess a .berr).releasePort

/-- PROC_READ_GROUP (R46). -/
def execProcReadGroup (s : State) : Answer :=
  s.accessGroup .processor AccessOp.isRead fun a s => s.readGroup a

/-! ### Writes (R48 to R51) -/

/-- The end of a performed write: the block is reported as written (R83) and the access acknowledged (R54). -/
def State.writeDone (s : State) (a : Access) : State :=
  ((s.addDirtyIf a.record.attrs.checkpoint a.record.block).endAccess a .ackWrite).releasePort

/-- The data of a WORD_WRITE into a region with the given AGREED attribute. -/
def wordWriteInto (agreed : Bool) (a : Access) : Option Word :=
  match a.op with
  | .wordWrite d => if a.record.attrs.agreed = agreed then some d else none
  | _ => none

/-- The access at the port is a WORD_WRITE into a region with the given AGREED attribute. -/
def State.wordWriteGranted (s : State) (agreed : Bool) : Option (Access × Word) :=
  (s.granted .processor fun _ => true).bind fun a => (wordWriteInto agreed a).map fun d => (a, d)

/-- A plain write: one pair write, nothing read before it (R48). -/
def State.plainWrite (s : State) (a : Access) (d : Word) : State := (s.writeWord a.word a.terms d).writeDone a

/-- PROC_PLAIN_WRITE_GROUP (R48). -/
def execProcPlainWriteGroup (s : State) : Answer :=
  match s.wordWriteGranted false with
  | some (a, d) => onPort s true [s.physWord a.word] fun s => s.plainWrite a d
  | none => .next s

/-- A write into an AGREED region: check, full write, digest term; an UNCORRECTABLE old word is reported, a STALE one is
not, and either counts as old value 0 (R14, R49, R50). -/
def State.agreedWrite (s : State) (a : Access) (d : Word) : State :=
  let rep := s.check true a.word a.terms
  let s := ((s.loadLatch rep).writeWord a.word a.terms d).repairByWrite a.word rep
  let s := s.addDigest (digestTerm a.word d (rep.data.getD 0))
  let s := if rep.cls = .uncorrectable then s.reportBadWord a .procWrite rep else s
  s.writeDone a

/-- PROC_AGREED_WRITE_GROUP (R49, R50). -/
def execProcAgreedWriteGroup (s : State) : Answer :=
  match s.wordWriteGranted true with
  | some (a, d) => onPort s true [s.physWord a.word] fun s => s.agreedWrite a d
  | none => .next s

/-- A byte write: check, merge and full write, or BERR with a fault when the old word is bad (R13, R51). -/
def State.byteWrite (s : State) (a : Access) (lane : Lane) (b : BitVec 8) : State :=
  let rep := s.check true a.word a.terms
  let s := s.loadLatch rep
  match rep.data with
  | some old =>
    let new := mergeByte lane b old
    let s := (s.writeWord a.word a.terms new).repairByWrite a.word rep
    (s.addDigestIf a.record.attrs.agreed (digestTerm a.word new old)).writeDone a
  | none => ((s.reportBadWord a .procWrite rep).endAccess a .berr).releasePort

/-- The access at the port is a BYTE_WRITE. -/
def State.byteWriteGranted (s : State) : Option (Access × Lane × BitVec 8) :=
  (s.granted .processor fun _ => true).bind fun a =>
    match a.op with
    | .byteWrite l b => some (a, l, b)
    | _ => none

/-- PROC_BYTE_WRITE_GROUP (R51). -/
def execProcByteWriteGroup (s : State) : Answer :=
  match s.byteWriteGranted with
  | some (a, l, b) => onPort s true [s.physWord a.word] fun s => s.byteWrite a l b
  | none => .next s

/-! ### LOCKED sequences (R52) -/

/-- The read half is acknowledged and the sequence waits in LOCKED_OPEN, the port kept (R52, R65). -/
def State.openLocked (s : State) (a : Access) (d : Word) : State :=
  { s with hbi := { s.hbi with access := some { a with phase := .lockedOpen }, busEnd := some (.ackWord d) } }

/-- The read half (R52): as a read, and LOCKED_OPEN after an acknowledge; a withdrawn sequence ends there (R55), and a bad
word ends it with BERR. -/
def State.lockedRead (s : State) (a : Access) : State :=
  let rep := s.check true a.word a.terms
  let s := (s.repair a.word a.terms rep).loadLatch rep
  match rep.data with
  | some d => if a.withdrawn then s.endLocked else s.openLocked a d
  | none => ((s.reportBadWord a .procRead rep).endAccess a .berr).releasePort

/-- The op is a LOCKED sequence whose write half has not arrived. -/
def AccessOp.isLockedRead : AccessOp → Bool
  | .locked none => true
  | _ => false

/-- LOCKED_READ_HALF_GROUP (R52). -/
def execLockedReadHalfGroup (s : State) : Answer :=
  s.accessGroup .locked AccessOp.isLockedRead fun a s => s.lockedRead a

/-- The checked data the coding latch holds, 0 where it holds none (R13, R50). -/
def Cdu.latchData (c : Cdu) : Word := (c.latch.bind (·.data)).getD 0

/-- The word a write half writes: the word, or the merge with the latch's checked data (R13, R52). -/
def halfData (h : WriteHalf) (old : Word) : Word :=
  match h with
  | .word d => d
  | .byte l b => mergeByte l b old

/-- The write half, against the latch, with no second read (R52). -/
def State.lockedWrite (s : State) (a : Access) (h : WriteHalf) : State :=
  let old := s.cdu.latchData
  let new := halfData h old
  ((s.writeWord a.word a.terms new).addDigestIf a.record.attrs.agreed (digestTerm a.word new old)).writeDone a

/-- The write half of a LOCKED sequence at the port. -/
def State.writeHalfGranted (s : State) : Option (Access × WriteHalf) :=
  (s.granted .locked fun _ => true).bind fun a =>
    match a.op with
    | .locked (some h) => some (a, h)
    | _ => none

/-- LOCKED_WRITE_HALF_GROUP (R52). -/
def execLockedWriteHalfGroup (s : State) : Answer :=
  match s.writeHalfGranted with
  | some (a, h) => onPort s true [s.physWord a.word] fun s => s.lockedWrite a h
  | none => .next s

end Sys2Proof.Machine
end

