-- ==== Sys2Proof/Machine/Engine.lean ====
section
/-!
DEFINITION. The Transfer Engine's groups (sections 4.5 to 4.9, 8.4, 8.5, 8.9) and the scheduling of retirements and scrub:
block copies and restores, retire copies, clears, scrub word checks, the diagnostic read, RETIRE_TAKE, SCRUB_TIMER_EXPIRY.
-/
namespace Sys2Proof.Machine

/-! ### The FIFO (R69) -/

/-- A checked word enters the FIFO; with 32 entries it goes on to drain. -/
def Txe.push (x : Txe) (e : FifoEntry) : Txe :=
  { x with
    fifo := x.fifo ++ [e]
    fifoMode := if x.fifo.length + 1 < Config.chunkWords then .filling else .draining }

/-- The oldest entry has been written; after the last the FIFO is EMPTY. -/
def Txe.pop (x : Txe) : Txe :=
  { x with fifo := x.fifo.tail, fifoMode := if x.fifo.tail = [] then .empty else .draining }

/-- The FIFO is flushed. -/
def Txe.flush (x : Txe) : Txe := { x with fifo := [], fifoMode := .empty }

/-- The oldest entry, while the FIFO drains. -/
def Txe.oldest (x : Txe) : Option FifoEntry := if x.fifoMode = .draining then x.fifo.head? else none

/-- A FIFO entry for a word read now: the epoch is the one in force (R69). -/
def State.entryOf (s : State) (d : Word) (offset : Nat) : FifoEntry := ⟨d, offset, s.cau.epoch⟩

/-! ### Block copies and restores (R70 to R73, R107) -/

/-- The block read and the block written by a move of working block b in entry r (R70, R71). -/
def State.moveBlocks (s : State) (m : Move) (r : Region) (b : Nat) : Nat × Nat :=
  match m with
  | .copy => (b, s.shadowBlock r b)
  | .restore => (s.shadowBlock r b, b)

/-- The part a move reads: WORKING for a copy, SHADOW for a restore (R73). -/
def Move.sourcePart : Move → Part
  | .copy => .working
  | .restore => .shadow

/-- Sets the next word to read of the block move in hand. -/
def Txe.setMoveOffset (x : Txe) (n : Nat) : Txe :=
  match x.active with
  | some .priorityBlock => { x with priority := x.priority.map fun o => { o with offset := n } }
  | some .checkpointPass =>
    { x with checkpointPass := x.checkpointPass.map fun o => { o with pos := o.pos.map fun p => { p with offset := n } } }
  | some .restorePass =>
    { x with restorePass := x.restorePass.map fun o => { o with pos := o.pos.map fun p => { p with offset := n } } }
  | _ => x

/-- The block move in hand has ended its block: a PRIORITY_BLOCK frees its slot (R72), a pass asks for its next block (R70,
R71). -/
def State.moveOver (s : State) (m : Move) : State :=
  if s.txe.active = some .priorityBlock then s else s.askPass m

/-- Empties the PRIORITY_BLOCK slot when it is the operation in hand. -/
def Txe.dropPriority (x : Txe) : Txe :=
  if x.active = some .priorityBlock then { x with priority := none } else x

/-- The logical word a move reads next. -/
def State.moveSourceWord (s : State) (m : Move) (p : PassPos) : Nat :=
  (s.moveBlocks m p.region p.block).1 * Config.blockWords + p.offset

/-- The logical word a move writes for a FIFO entry. -/
def State.moveTargetWord (s : State) (m : Move) (p : PassPos) (e : FifoEntry) : Nat :=
  (s.moveBlocks m p.region p.block).2 * Config.blockWords + e.offset

/-- A word read of a block move fails (R73): the FIFO is flushed, the failure reported, and the engine goes on. -/
def State.moveReadFails (s : State) (m : Move) (p : PassPos) (rep : CheckReport) : State :=
  let pos : Position := ⟨p.region, m.sourcePart, (s.moveBlocks m p.region p.block).1, p.offset⟩
  let s := { s with txe := s.txe.flush.dropPriority }
  (s.moveFailed m p.region p.block pos (pos.block * Config.blockWords + pos.offset) rep).moveOver m

/-- One word read of a block move (R70, R71). -/
def State.moveRead (s : State) (m : Move) (p : PassPos) : State :=
  let asked := s.procAsking
  let w := s.moveSourceWord m p
  let t := s.terms w
  let rep := s.check true w t
  let s := s.repair w t rep
  match rep.data with
  | some d =>
    let x := (s.txe.push (s.entryOf d p.offset)).setMoveOffset (p.offset + 1)
    State.engineGroupEnd { s with txe := x } asked
  | none => (s.moveReadFails m p rep).engineSelectEnd asked

/-- One word write of a block move (R70, R71); the last write of the fourth chunk reports the block moved. -/
def State.moveWrite (s : State) (m : Move) (p : PassPos) (e : FifoEntry) : State :=
  let asked := s.procAsking
  let w := s.moveTargetWord m p e
  let s := s.writeWord w (s.terms w) e.data
  let s := { s with txe := s.txe.pop }
  if s.txe.fifo ≠ [] then s.engineGroupEnd asked
  else if p.offset < Config.blockWords then s.engineSelectEnd asked
  else
    let s := { s with txe := s.txe.dropPriority }
    ((s.blockMoved m p.region p.block).moveOver m).engineSelectEnd asked

/-- The block move in hand that may read a word. -/
def State.moveReadGranted (s : State) (m : Move) : Option PassPos :=
  if s.mpt.grant = .engine ∧ s.txe.fifoMode ≠ .draining then s.movePos m else none

/-- The block move in hand that may write a word, with the FIFO's oldest entry. -/
def State.moveWriteGranted (s : State) (m : Move) : Option (PassPos × FifoEntry) :=
  if s.mpt.grant = .engine then (s.movePos m).bind fun p => s.txe.oldest.map fun e => (p, e) else none

/-- A word read step of a move. -/
def moveReadStep (m : Move) (s : State) : Answer :=
  match s.moveReadGranted m with
  | some p => onPort s true [s.physWord (s.moveSourceWord m p)] fun s => s.moveRead m p
  | none => .next s

/-- A word write step of a move. -/
def moveWriteStep (m : Move) (s : State) : Answer :=
  match s.moveWriteGranted m with
  | some (p, e) => onPort s true [s.physWord (s.moveTargetWord m p e)] fun s => s.moveWrite m p e
  | none => .next s

/-- COPY_WORD_READ (R70, R73). -/
def execCopyWordRead (s : State) : Answer := moveReadStep .copy s

/-- COPY_WORD_WRITE (R70, R89). -/
def execCopyWordWrite (s : State) : Answer := moveWriteStep .copy s

/-- RESTORE_WORD_READ (R107, R73). -/
def execRestoreWordRead (s : State) : Answer := moveReadStep .restore s

/-- RESTORE_WORD_WRITE (R71, R106). -/
def execRestoreWordWrite (s : State) : Answer := moveWriteStep .restore s

/-! ### Retire copies (R74, R155, R156) -/

/-- The head of the retire queue is removed when it is b. -/
def Sru.dequeue (u : Sru) (b : Nat) : Sru :=
  match u.retireQueue with
  | x :: t => if x = b then { u with retireQueue := t } else u
  | [] => u

/-- The fault of a retire copy that fails (R156). -/
def retireFailedFault (s : State) (o : RetireOp) (w : Nat) (rep : CheckReport) : FaultReport :=
  { bareFault .retireFailed .engineRetire with
    also := some (badWordKind rep.cls)
    word := some w
    region := some o.region
    findings := some rep.findings
    position := some ⟨o.region, o.part, o.block, o.offset⟩
    suspect := o.part == .working && checkpointed s.rgd.table o.block }

/-- A retire copy fails: the fault, the suspect mark of a checkpointed block or the break of a shadow's region, the head
dequeued, the held write released (R74, R104, R156). -/
def State.retireFails (s : State) (o : RetireOp) (w : Nat) (rep : CheckReport) : State :=
  let f := retireFailedFault s o w rep
  let s := { s with txe := { s.txe.dropRetire with fifo := [], fifoMode := .empty } }
  let s := match o.part with
    | .working => s.addDirtyIf f.suspect o.block
    | .shadow => s.shadowBreak o.region
  let s := s.takeRetireFault f
  State.releaseRetire { s with sru := s.sru.dequeue o.block } o.block

/-- The logical word a retire copy reads next. -/
def RetireOp.word (o : RetireOp) (offset : Nat) : Nat := o.block * Config.blockWords + offset

/-- One word read of a retire copy (R74). -/
def State.retireRead (s : State) (o : RetireOp) : State :=
  let asked := s.procAsking
  let w := o.word o.offset
  let t := s.terms w
  let rep := s.check true w t
  let s := s.repair w t rep
  match rep.data with
  | some d =>
    let x := s.txe.push (s.entryOf d o.offset)
    State.engineGroupEnd { s with txe := { x with retire := some { o with offset := o.offset + 1 } } } asked
  | none => (s.retireFails o w rep).engineSelectEnd asked

/-- The remap table after a retire copy of block b to spare i: a LIVE entry for b becomes DEAD, and a LIVE one is added at
the end (R155, parts 1 and 2). -/
def remapInstall (l : List RemapEntry) (b i : Nat) : List RemapEntry :=
  (l.map fun e => if e.live && decide (e.block = b) then { e with live := false } else e) ++ [⟨b, i, true⟩]

/-- A retire copy is complete (R155). -/
def State.retireCompletes (s : State) (o : RetireOp) : State :=
  let u := s.sru
  let u := { u with remap := remapInstall u.remap o.block o.spare }
  let u := { u with history := u.history.filter fun e => decide (e.word / Config.blockWords ≠ o.block) }
  State.releaseRetire
    { s with
      txe := s.txe.dropRetire
      sru := u.dequeue o.block
      fau := { s.fau with pending := { s.fau.pending with retired := true } } } o.block

/-- One word write of a retire copy: to the target spare, under the logical word's signature and the entry's epoch (R74). -/
def State.retireWrite (s : State) (o : RetireOp) (e : FifoEntry) : State :=
  let asked := s.procAsking
  let w := o.word e.offset
  let s := s.putPair (s.spareWord o.spare e.offset) e.data (encode e.data (signature w (s.terms w) e.epoch))
  let s := { s with txe := s.txe.pop }
  if s.txe.fifo ≠ [] then s.engineGroupEnd asked
  else if o.offset < Config.blockWords then s.engineSelectEnd asked
  else (s.retireCompletes o).engineSelectEnd asked

/-- The retire copy in hand that may read a word. -/
def State.retireReadGranted (s : State) : Option RetireOp :=
  if s.engineAt .retire ∧ s.txe.fifoMode ≠ .draining then s.txe.retire else none

/-- The retire copy in hand that may write a word, with the FIFO's oldest entry. -/
def State.retireWriteGranted (s : State) : Option (RetireOp × FifoEntry) :=
  if s.engineAt .retire then s.txe.retire.bind fun o => s.txe.oldest.map fun e => (o, e) else none

/-- RETIRE_WORD_READ (R74, R156). -/
def execRetireWordRead (s : State) : Answer :=
  match s.retireReadGranted with
  | some o => onPort s true [s.physWord (o.word o.offset)] fun s => s.retireRead o
  | none => .next s

/-- RETIRE_WORD_WRITE (R74, R155). -/
def execRetireWordWrite (s : State) : Answer :=
  match s.retireWriteGranted with
  | some (o, e) => onPort s true [s.spareWord o.spare e.offset] fun s => s.retireWrite o e
  | none => .next s

/-! ### Clears (R78, R79, R177) -/

/-- The place after the word just cleared: the next word, block or range; none when it was the last. -/
def ClearOp.next (o : ClearOp) : Option ClearOp :=
  match o.ranges with
  | [] => none
  | c :: t =>
    if o.offset + 1 < Config.blockWords then some { o with offset := o.offset + 1 }
    else if o.done + 1 < c.count then some { o with done := o.done + 1, offset := 0 }
    else if t = [] then none
    else some { o with ranges := t, done := 0, offset := 0 }

/-- The block and region in hand of a clear. -/
def ClearOp.place (o : ClearOp) : Option Position :=
  o.ranges.head?.map fun c => ⟨c.region, c.part, c.block o.done, o.offset⟩

/-- The deadline timer starts, unless the deadline is off (R138). -/
def State.startDeadline (s : State) : State :=
  { s with cau := { s.cau with
      deadlineTimer := if s.mli.params.deadline = 0 then none else some s.mli.params.deadline } }

/-- The START clear is done (R78, R177): every checkpointed region VALID with D, S and R empty, and RUN is entered. -/
def State.startClearDone (s : State) : State :=
  State.startDeadline
    { s with
      ckc := { dirty := [], pass := [], restore := []
               ckState := s.rgd.table.map fun d => match installedState d with
                 | .broken => .valid
                 | x => x }
      mli := { s.mli with control := .run }
      fau := { s.fau with pending := { s.fau.pending with startDone := true } } }

/-- One clear write: coded zero under the location's signature (R78, R79). -/
def State.clearStep (s : State) (o : ClearOp) (w : Nat) : State :=
  let asked := s.procAsking
  let s := s.writeWord w (s.terms w) 0
  match o.next with
  | some o' =>
    let s := { s with txe := { s.txe with clear := some o' } }
    if o'.offset % Config.chunkWords = 0 then s.engineSelectEnd asked else s.engineGroupEnd asked
  | none =>
    let s := { s with txe := { s.txe with clear := none } }
    (if o.atStart then s.startClearDone else s).engineSelectEnd asked

/-- The clear in hand and the logical word it writes next. -/
def State.clearGranted (s : State) : Option (ClearOp × Nat) :=
  if s.engineAt .clear then
    s.txe.clear.bind fun o => o.place.map fun p => (o, p.block * Config.blockWords + p.offset)
  else none

/-- CLEAR_WRITE (R78, R79). -/
def execClearWrite (s : State) : Answer :=
  match s.clearGranted with
  | some (o, w) => onPort s true [s.physWord w] fun s => s.clearStep o w
  | none => .next s

/-! ### Scrub word checks (R77, R141, R144 to R146) -/

/-- The logical word a cursor names. -/
def Cursor.word (c : Cursor) : Nat := c.block * Config.blockWords + c.offset

/-- The shadow word that corresponds to the cursor's word (R145). -/
def State.cursorShadow (s : State) (c : Cursor) : Nat :=
  s.shadowBlock c.region c.block * Config.blockWords + c.offset

/-- The scrub word check goes on to the audit read (R145). -/
def State.audits (s : State) (c : Cursor) (rep : CheckReport) : Bool :=
  rep.data.isSome && hasAttr (·.checkpoint) s.rgd.table c.region &&
    (s.ckc.ckState.get c.region == .valid || s.ckc.ckState.get c.region == .copying) &&
    !decide (c.block ∈ s.ckc.dirty) && !decide (c.block ∈ s.ckc.pass)

/-- A fault of the scrub, at a part's word (R144, R146). -/
def scrubFault (k : FaultKind) (w : Nat) (pos : Position) (rep : CheckReport) : FaultReport :=
  { bareFault k .engineScrub with
    word := some w, region := some pos.region, findings := some rep.findings, position := some pos }

/-- An UNCORRECTABLE working word (R144). -/
def State.scrubBadWord (s : State) (c : Cursor) (rep : CheckReport) : State :=
  let ck := hasAttr (·.checkpoint) s.rgd.table c.region
  (s.addDirtyIf ck c.block).takeFault
    { scrubFault .uncorrectable c.word ⟨c.region, .working, c.block, c.offset⟩ rep with suspect := ck }

/-- The audit of a working word against its shadow (R145, R146). -/
def State.audit (s : State) (c : Cursor) (data : Word) : State :=
  let w := s.cursorShadow c
  let t := s.terms w
  let rep := s.check true w t
  let s := s.repair w t rep
  match rep.data with
  | some d =>
    if d = data then s
    else (s.addDirty c.block).takeFault
      { scrubFault .audit c.word ⟨c.region, .working, c.block, c.offset⟩ rep with suspect := true }
  | none =>
    (s.shadowBreak c.region).takeFault
      { scrubFault .checkpointFailed w ⟨c.region, .shadow, w / Config.blockWords, c.offset⟩ rep with
        also := some .uncorrectable }

/-- The check of the word the cursor names, with its audit (R144, R145). -/
def State.scrubCheck (s : State) (c : Cursor) : State :=
  let t := s.terms c.word
  let rep := s.check true c.word t
  let audits := s.audits c rep
  let s := { s with sru := { s.sru with cursor := scrubNext s.rgd.table c } }
  let s := s.repair c.word t rep
  match rep.data with
  | some d => if audits then s.audit c d else s
  | none => s.scrubBadWord c rep

/-- A check of a burst has been made: its count falls by one, and at 0 the slot becomes EMPTY (R77). -/
def Txe.scrubCounted (x : Txe) : Txe :=
  match x.scrub with
  | some o => if 1 < o.left then { x with scrub := some { o with left := o.left - 1 } } else { x with scrub := none }
  | none => x

/-- One scrub word check (R144). -/
def State.scrubStep (s : State) (c : Cursor) : State :=
  let asked := s.procAsking
  let s := s.scrubCheck c
  State.engineSelectEnd { s with txe := s.txe.scrubCounted } asked

/-- The physical word addresses a scrub word check uses. -/
def State.scrubAddrs (s : State) (c : Cursor) : List Nat :=
  s.physWord c.word ::
    (if s.audits c (s.check true c.word (s.terms c.word)) then [s.physWord (s.cursorShadow c)] else [])

/-- SCRUB_WORD_CHECK (R144). With the cursor at NONE no word is named: no group is made and the slot is emptied (R141; log
23). -/
def execScrubWordCheck (s : State) : Answer :=
  if s.engineAt .scrubBurst then
    match s.sru.cursor with
    | some c => onPort s true (s.scrubAddrs c) fun s => s.scrubStep c
    | none => .next (State.settle { s with txe := { s.txe with scrub := none, active := none } })
  else .next s

/-! ### The diagnostic read (R76) -/

/-- The diagnostic read of a word: checked without repair, and the report handed to the MLI (R76, R173). -/
def State.diagnose (s : State) (w : Nat) : State :=
  let asked := s.procAsking
  let rep := s.check false w (s.terms w)
  State.engineSelectEnd
    { s with txe := { s.txe with readWord := none }, mli := { s.mli with readResult := .ready rep } } asked

/-- The word of the READ_WORD operation in hand. -/
def State.readWordGranted (s : State) : Option Nat :=
  if s.engineAt .readWord then s.txe.readWord.map (·.word) else none

/-- DIAGNOSTIC_READ (R76). -/
def execDiagnosticRead (s : State) : Answer :=
  match s.readWordGranted with
  | some w => onPort s true [s.physWord w] fun s => s.diagnose w
  | none => .next s

/-! ### Scheduling of retirements and scrub (R142, R152) -/

/-- The lowest spare index below NS that no remap entry names (R152). -/
def State.freeSpare (s : State) : Option Nat :=
  (List.range s.mli.params.spareCount).find? fun i => s.sru.remap.all fun e => decide (e.spare ≠ i)

/-- No pass is in flight for the block's region, and the block, or its working block, is in neither S nor R (R152). -/
def State.clearOfPasses (s : State) (b : Nat) : Bool :=
  match ownerOf s.rgd.table b with
  | some (r, part) =>
    let wb := match part with
      | .working => b
      | .shadow => s.workingBlock r b
    s.ckc.ckState.get r != .copying && s.ckc.ckState.get r != .restoring &&
      !decide (wb ∈ s.ckc.pass) && !decide (wb ∈ s.ckc.restore)
  | none => true

/-- All the conditions of R152 for taking the request of block b. -/
def State.mayRetire (s : State) (b : Nat) : Bool :=
  (s.mli.control == .run || s.mli.control == .hold) && s.txe.retire.isNone && s.clearOfPasses b && !s.writePassed b

/-- The request for block b at the head is taken (R152): dropped when the block is no longer owned, or when no spare is
free, with SPARES_EXHAUSTED; else a RETIRE is requested with the lowest free spare. -/
def State.takeRetire (s : State) (b : Nat) : State :=
  match ownerOf s.rgd.table b with
  | none => { s with sru := s.sru.dequeue b }
  | some (r, part) =>
    match s.freeSpare with
    | some i => State.settle { s with txe := { s.txe with retire := some ⟨b, r, part, i, 0, false⟩ } }
    | none =>
      State.takeFault { s with sru := s.sru.dequeue b }
        (retireFault s.rgd.table .sparesExhausted b (b * Config.blockWords))

/-- RETIRE_TAKE (R152). -/
def execRetireTake (s : State) : Answer :=
  .next (match s.sru.retireQueue with
    | b :: _ => if s.mayRetire b then s.takeRetire b else s
    | [] => s)

/-- SCRUB_TIMER_EXPIRY (R142): the timer runs on, and a burst is requested unless scrub is suspended or one is in its slot. -/
def execScrubTimerExpiry (s : State) : Answer :=
  .next (if s.sru.scrubTimer.isSome && !s.scrubSuspended && s.txe.scrub.isNone then
    State.settle { s with txe := { s.txe with scrub := some ⟨s.mli.params.burst, false⟩ } }
  else s)

end Sys2Proof.Machine
end

