-- ==== Sys2Proof/Machine/Cycle.lean ====
section
/-!
DEFINITION. Cycle and agreement (Chapter 7): fixing the local kind, the verdict word, and the two timers.
-/
namespace Sys2Proof.Machine

/-- The set of taint reasons is empty. -/
def TaintSet.isEmpty (t : TaintSet) : Bool := t == TaintSet.empty

/-- The local kind (R125): ROLLBACK when the written kind is ROLLBACK or the taint set is not empty. -/
def localKind (written : MarkKind) (taint : TaintSet) : MarkKind :=
  if written = .rollback ∨ taint.isEmpty = false then .rollback else .commit

/-- The local MARK (R125). -/
def State.formMark (s : State) (h : HeldMarker) : Mark :=
  { epoch := s.cau.epoch, n := h.n, kind := localKind h.kind s.cau.taint, digest := s.cau.digest, tag := s.rgd.layoutTag }

/-- A MARK is placed in the transmitter (R127): sent at once when no frame is being sent, else it waits. -/
def Twl.place (x : Twl) (m : Mark) : Twl :=
  if x.sending.isNone then { x with sending := some (.mark m), idleTimer := false } else { x with waiting := some m }

/-- The local kind is fixed (R125). -/
def State.fixKind (s : State) (h : HeldMarker) : State :=
  let m := s.formMark h
  match s.mli.params.twinMode with
  | .single => s.verdict (decideVerdict .single s.cau.cycle m none)
  | .paired =>
    if s.twl.linkUp then
      let s := { s with
        twl := s.twl.place m
        cau := { s.cau with
          localMark := some m, agreementTimer := some s.mli.params.agreementTimeout, marker := .awaitingTwin } }
      match s.cau.slot with
      | some t => s.verdict (decideVerdict .paired s.cau.cycle m (some t))
      | none => s
    else s.timeoutVerdict m

/-- FIX_LOCAL_KIND (R125). -/
def execFixLocalKind (s : State) : Answer :=
  .next (match s.fixable with
    | some h => s.fixKind h
    | none => s)

/-- The verdict word is written into the marker word, the marker write acknowledged, the marker state becomes OPEN and the
deadline starts (R136, R137, R138). -/
def State.writeVerdictWord (s : State) (a : Access) : State :=
  let s := s.writeWord a.word a.terms (verdictWord s.cau.lastVerdict s.cau.cycle)
  let s := (s.endAccess a .ackWrite).startDeadline
  State.releasePort { s with cau := { s.cau with marker := .opened, verdictDue := false } }

/-- The held marker write whose verdict word may be written: a verdict is due and the port is granted (R61, R136). -/
def State.verdictGranted (s : State) : Option Access :=
  match s.hbi.access with
  | some a => if s.cau.verdictDue = true ∧ s.mpt.grant = .processor ∧ a.phase = .heldMarker then some a else none
  | none => none

/-- VERDICT_WORD_WRITE (R136). -/
def execVerdictWordWrite (s : State) : Answer :=
  match s.verdictGranted with
  | some a => onPort s true [s.physWord a.word] fun s => s.writeVerdictWord a
  | none => .next s

/-- AGREEMENT_TIMER_EXPIRY (R132): in AWAITING_TWIN, with the slot EMPTY. -/
def execAgreementTimerExpiry (s : State) : Answer :=
  .next (match s.cau.localMark with
    | some m =>
      if s.cau.agreementTimer.isSome && s.cau.slot.isNone && s.cau.marker == .awaitingTwin then s.timeoutVerdict m else s
    | none => s)

/-- CYCLE_DEADLINE_EXPIRY (R138): the timer stays stopped, and a vital CYCLE_OVERRUN is recorded. -/
def execCycleDeadlineExpiry (s : State) : Answer :=
  .next (if s.cau.deadlineTimer.isSome then
    State.takeFault { s with cau := { s.cau with deadlineTimer := none } } (bareFault .cycleOverrun .marker)
  else s)

end Sys2Proof.Machine
end

