-- ==== Sys2Proof/Machine/Groups.lean ====
section
/-!
DEFINITION. The word operation group the port is granted for (R59, R61), made whole, and as a REINIT carries it through (R58, R66,
R80, R169).
-/
namespace Sys2Proof.Machine

/-! ### The group in hand -/

/-- The processor side's group for the current access (R46 to R52, R136). -/
def State.procGroup (s : State) (a : Access) : Answer :=
  match a.phase, a.op with
  | .heldMarker, _ => execVerdictWordWrite s
  | _, .wordRead | _, .fetch | _, .byteRead _ => execProcReadGroup s
  | _, .wordWrite _ => if a.record.attrs.agreed then execProcAgreedWriteGroup s else execProcPlainWriteGroup s
  | _, .byteWrite _ _ => execProcByteWriteGroup s
  | _, .locked none => execLockedReadHalfGroup s
  | _, .locked (some _) => execLockedWriteHalfGroup s

/-- The next group of a block move: a write while the FIFO drains, else a read (R69). -/
def State.moveGroup (s : State) (m : Move) : Answer :=
  if s.txe.fifoMode = .draining then moveWriteStep m s else moveReadStep m s

/-- The engine's next group for the ACTIVE operation. -/
def State.engineGroup (s : State) (k : EngineKind) : Answer :=
  match k with
  | .clear => execClearWrite s
  | .priorityBlock =>
    match s.txe.priority with
    | some o => s.moveGroup o.move
    | none => .next s
  | .readWord => execDiagnosticRead s
  | .restorePass => s.moveGroup .restore
  | .checkpointPass => s.moveGroup .copy
  | .retire => if s.txe.fifoMode = .draining then execRetireWordWrite s else execRetireWordRead s
  | .scrubBurst => execScrubWordCheck s

/-- The group that the port is granted for (R61), carried through; the state itself where the port is granted for none. -/
def State.groupInHand (s : State) : Answer :=
  match s.mpt.grant with
  | .none => .next s
  | .processor | .locked =>
    match s.hbi.access with
    | some a => s.procGroup a
    | none => .next s
  | .engine =>
    match s.txe.active with
    | some k => s.engineGroup k
    | none => .next s

/-! ### The group carried through at a REINIT -/

/-- What a step leads to; the state itself where it stops. -/
def State.after (s : State) (x : Answer) : State :=
  match x with
  | .next t => t
  | _ => s

/-- The state with the memory a step leaves, and nothing else of it. -/
def State.withMemoryOf (s t : State) : State := { s with planeP := t.planeP, planeQ := t.planeQ }

/-- A word read of an operation being abandoned: checked, repaired and the repair reported; a bad word is not reported (R75, R80,
R169). -/
def State.carryRead (s : State) (w : Nat) : State :=
  s.after (onPort s true [s.physWord w] fun s => s.repair w (s.terms w) (s.check true w (s.terms w)))

/-- The group of a block move being abandoned: its write, or its read (R80). -/
def State.carryMove (s : State) (m : Move) : State :=
  match s.moveReadGranted m with
  | some p => s.carryRead (s.moveSourceWord m p)
  | none => s.withMemoryOf (s.after (moveWriteStep m s))

/-- The group of a retire copy being abandoned: its read, or its write, the last of which completes the copy (R75). -/
def State.carryRetire (s : State) : State :=
  match s.retireReadGranted with
  | some o => s.carryRead (o.word o.offset)
  | none => s.after (execRetireWordWrite s)

/-- The engine's group carried through with no report of its operation: no block moved, no failure, no clear done, no READ_WORD
result (R80). A scrub word check reports what it finds (R169). -/
def State.carryEngine (s : State) (k : EngineKind) : State :=
  match k with
  | .clear => s.withMemoryOf (s.after (execClearWrite s))
  | .priorityBlock =>
    match s.txe.priority with
    | some o => s.carryMove o.move
    | none => s
  | .readWord => s
  | .restorePass => s.carryMove .restore
  | .checkpointPass => s.carryMove .copy
  | .retire => s.carryRetire
  | .scrubBurst => s.after (execScrubWordCheck s)

/-- The processor side's group carried through: the access ends without an end on the bus, as a withdrawn one does (R55, R58). -/
def State.carryAccess (s : State) (a : Access) : State :=
  let a := { a with withdrawn := true }
  let s := { s with hbi := { s.hbi with access := some a } }
  s.after (s.procGroup a)

/-- The group in hand carried through. While the engine makes it, no access leaves its hold: a REINIT drops it (R58). -/
def State.carryThrough (s : State) : State :=
  match s.mpt.grant with
  | .none => s
  | .processor | .locked =>
    match s.hbi.access with
    | some a => s.carryAccess a
    | none => s
  | .engine =>
    match s.txe.active with
    | some k => State.carryEngine { s with hbi := { s.hbi with access := none } } k
    | none => s

/-- The state a REINIT takes effect on: the group the port is granted for is carried through where it has begun, which the free
value says (R58, R66; log 38). -/
def State.groupEnded (s : State) : State :=
  if s.mpt.grant = .none then s
  else { (if Config.groupBegun s.cuts then s.carryThrough else s) with cuts := s.cuts + 1 }

end Sys2Proof.Machine
end

