-- ==== Sys2Proof/Machine/Twin.lean ====
section
/-!
DEFINITION. The twin link (sections 7.5 and 11.2): units on the line, frames and their check, the receiver and its judgement,
the twin slot, the link timer and the transmitter.
-/
namespace Sys2Proof.Machine

/-! ### The line (R183) -/

/-- The 16 data bits of a unit, most significant first. -/
def dataBits (d : Unit16) : List Bool := ((List.range 16).map fun i => d.getLsbD i).reverse

/-- The 19 bits of a sent unit: a start bit of 0, the first-unit flag, the data bits, a stop bit of 1 (R183). -/
def lineBits (first : Bool) (d : Unit16) : List Bool := false :: first :: (dataBits d ++ [true])

/-- The value of data bits, most significant first. -/
def bitsValue (bs : List Bool) : Nat := bs.foldl (fun n b => 2 * n + b.toNat) 0

/-- The unit sampled from 19 line bits; a start bit is 0 (R183). -/
def sampleUnit (bs : List Bool) : Option RxUnit :=
  match bs with
  | false :: first :: rest =>
    if rest.length = 17 then
      some ⟨first, BitVec.ofNat 16 (bitsValue (rest.take 16)), rest.getLast?.getD false⟩
    else none
  | _ => none

/-- The units sampled from the levels of a line, one level for each bit time: 1 while the line idles, and 19 bits from each start
bit of 0 (R183). Where the receiver looks for the next start bit after a stop bit of 0 the spec does not say: here at the very next
bit time, as after a stop bit of 1 (DESIGN CHOICE, log 40). `fuel` bounds the levels looked at. -/
def sampleLine : Nat → List Bool → List RxUnit
  | 0, _ => []
  | _, [] => []
  | fuel + 1, true :: t => sampleLine fuel t
  | fuel + 1, false :: t => (sampleUnit (false :: t.take 18)).toList ++ sampleLine fuel (t.drop 18)

/-! ### Frames (R126, R183) -/

/-- The header of an IDLE frame. -/
def idleHeader : Unit16 := 0xA501

/-- The header of a MARK frame. -/
def markHeader : Unit16 := 0xA502

/-- The sum of units as numbers. -/
def unitSum (us : List Unit16) : Nat := (us.map (·.toNat)).sum

/-- The frame check: 65,535 minus the sum of the preceding units modulo 65,536 (R126). -/
def frameCheck (us : List Unit16) : Unit16 := unit (65535 - unitSum us % 65536)

/-- The kind unit of a MARK (R183). -/
def MarkKind.unit16 : MarkKind → Unit16
  | .commit => 0x00C3
  | .rollback => 0x003C

/-- The units of a frame before its check (R183). -/
def TwinFrame.body : TwinFrame → List Unit16
  | .idle => [idleHeader]
  | .mark m =>
    [markHeader, ofBytes m.epoch m.n, m.kind.unit16, m.digest.extractLsb' 16 16, m.digest.extractLsb' 0 16, m.tag]

/-- The units of a frame as sent (R183). -/
def TwinFrame.units (f : TwinFrame) : List Unit16 := f.body ++ [frameCheck f.body]

/-- The bits of a frame on the line: its units without a gap, the flag on the header alone (R183, R184). -/
def TwinFrame.bits (f : TwinFrame) : List Bool :=
  match f.units with
  | [] => []
  | h :: t => lineBits true h ++ t.flatMap (lineBits false)

/-- The transmit output `i` bit times (of 0.5 µs) after the frame being sent began; the line idles at 1 (R183). An output: nothing
in the part reads it (log 9, log 14). -/
def State.transmitLine (s : State) (i : Nat) : Bool :=
  match s.twl.sending with
  | some f => f.bits.getD i true
  | none => true

/-- A frame's units as a receiver samples them, the flag on the header alone (R184). -/
def TwinFrame.received (f : TwinFrame) : List RxUnit :=
  match f.units with
  | [] => []
  | h :: t => ⟨true, h, true⟩ :: t.map fun u => ⟨false, u, true⟩

/-! ### The receiver (R128, R184) -/

/-- The length in units that a frame's first unit fixes: none for a frame of unknown kind (R184). -/
def frameLength (u : RxUnit) : Option Nat :=
  if u.first then
    if u.data = idleHeader then some 2
    else if u.data = markHeader then some 7
    else none
  else none

/-- The kind a kind unit names. -/
def markKindOf (u : Unit16) : Option MarkKind :=
  if u = 0x00C3 then some .commit else if u = 0x003C then some .rollback else none

/-- The frame's units pass the frame check: they sum to 65,535 modulo 65,536 (R126). -/
def checkPasses (us : List Unit16) : Bool := decide (unitSum us % 65536 = 65535)

/-- The fields of the units of a frame of known kind and right length (R183). -/
def frameFields (us : List Unit16) : Option TwinFrame :=
  match us with
  | [h, _] => if h = idleHeader then some .idle else none
  | [h, en, k, dh, dl, tag, _] =>
    if h = markHeader then (markKindOf k).map fun kind => .mark ⟨hiByte en, loByte en, kind, dh ++ dl, tag⟩ else none
  | _ => none

/-- The judgement of a completed frame: the frame when it is valid (R128, R184). -/
def judgeFrame (us : List RxUnit) : Option TwinFrame :=
  match us with
  | [] => none
  | u :: _ =>
    if frameLength u = some us.length ∧ (us.all (·.stop)) = true ∧ checkPasses (us.map (·.data)) = true then
      frameFields (us.map (·.data))
    else none

/-- The link state changes: LINK_CHANGE is added to the pending set (R129). -/
def State.linkChange (s : State) (up : Bool) : State :=
  { s with
    twl := { s.twl with linkUp := up, linkTimer := up }
    fau := { s.fau with pending := { s.fau.pending with linkChange := true } } }

/-- A valid frame: in DOWN the link comes UP, and the link timer starts afresh (R129). -/
def State.linkSeen (s : State) : State :=
  if s.twl.linkUp then { s with twl := { s.twl with linkTimer := true } } else s.linkChange true

/-- A MARK of the current epoch reaches the twin slot (R130): kept when it is EMPTY, and then decides in AWAITING_TWIN while a local
MARK is kept. After the verdict, and until its verdict word is written, the marker state is still AWAITING_TWIN (R136), but no local
MARK is kept: a MARK of the new epoch then waits in the slot for that epoch's marker (DESIGN CHOICE, log 42). -/
def State.slotMark (s : State) (m : Mark) : State :=
  if s.cau.slot.isSome then s.takeFault (bareFault .linkProtocol .twinLink)
  else
    let s := { s with cau := { s.cau with slot := some m } }
    match s.cau.localMark with
    | some loc => s.verdict (decideVerdict .paired s.cau.cycle loc (some m))
    | none => s

/-- The handling of a valid MARK (R130, R131). -/
def State.twinMark (s : State) (m : Mark) : State :=
  if s.mli.control = .config then s
  else
    match s.mli.params.twinMode with
    | .single => s.takeFault (bareFault .linkProtocol .twinLink)
    | .paired =>
      if m.epoch = s.cau.epoch then s.slotMark m
      else if m.epoch = s.cau.epoch - 1 then s.takeFault (bareFault .linkLate .twinLink)
      else s.takeFault (bareFault .sequence .twinLink)

/-- A completed frame is judged (R128). -/
def State.frameDone (s : State) (us : List RxUnit) : State :=
  match judgeFrame us with
  | some .idle => s.linkSeen
  | some (.mark m) => (s.linkSeen).twinMark m
  | none => s.takeFault (bareFault .linkFrame .twinLink)

/-- The open frame of units `us` is completed at once when its kind is known and its last unit has arrived (R184). -/
def State.closeIfFull (s : State) (us : List RxUnit) : State :=
  match us with
  | [] => s
  | u :: _ =>
    if frameLength u = some us.length then State.frameDone { s with twl := { s.twl with rx := none } } us
    else { s with twl := { s.twl with rx := some us } }

/-- One unit arrives (R184): a flagged unit completes an open frame and opens one; an unflagged unit joins the open frame,
or opens a frame of unknown kind. -/
def State.rxUnit (s : State) (u : RxUnit) : State :=
  match s.twl.rx with
  | none => s.closeIfFull [u]
  | some us =>
    if u.first then (State.frameDone { s with twl := { s.twl with rx := none } } us).closeIfFull [u]
    else s.closeIfFull (us ++ [u])

/-- TWIN_FRAME_RECEIVED (R128, R184): units arrive, and each frame they complete is judged; in reset the receiver takes
nothing (R181). -/
def execTwinFrameReceived (us : List RxUnit) (s : State) : Answer :=
  .next (if s.inReset then s else us.foldl State.rxUnit s)

/-- TWIN_LINE_IDLE_TIMEOUT (R184): the open frame is completed and judged. -/
def execTwinLineIdleTimeout (s : State) : Answer :=
  .next (match s.twl.rx with
    | some us => State.frameDone { s with twl := { s.twl with rx := none } } us
    | none => s)

/-- LINK_TIMER_EXPIRY (R129). -/
def execLinkTimerExpiry (s : State) : Answer :=
  .next (if s.twl.linkUp && s.twl.linkTimer then s.linkChange false else s)

/-! ### The transmitter (R127) -/

/-- IDLE_FRAME_TIMER_EXPIRY (R127): 100 us after the last frame, with no MARK waiting, an IDLE frame is sent. -/
def execIdleFrameTimerExpiry (s : State) : Answer :=
  .next (if s.twl.idleTimer && s.twl.sending.isNone && s.twl.waiting.isNone then
    { s with twl := { s.twl with sending := some .idle, idleTimer := false } }
  else s)

/-- TRANSMIT_FRAME_END (R127): a waiting MARK goes out next; with none, the 100 us to the next IDLE begin. -/
def execTransmitFrameEnd (s : State) : Answer :=
  .next (match s.twl.sending with
    | some _ =>
      match s.twl.waiting with
      | some m => { s with twl := { s.twl with sending := some (.mark m), waiting := none, idleTimer := false } }
      | none => { s with twl := { s.twl with sending := none, idleTimer := true } }
    | none => s)

end Sys2Proof.Machine
end

