-- ==== Sys2Proof/Machine/Responses.lean ====
section
/-!
DEFINITION. The data units of the responses (R185): codes and layouts of descriptors, fault records, check reports, the status
snapshot, the remap report and the engine report. An absent field is 0xFFFF in each of its units.
-/
namespace Sys2Proof.Machine

/-- A bit of a unit. -/
def bit (b : Bool) (i : Nat) : Nat := if b then 2 ^ i else 0

/-- A unit of two byte-sized numbers, high byte first. -/
def unitOf (hi lo : Nat) : Unit16 := unit (256 * hi + lo)

/-- A number, or 0xFFFF when absent. -/
def unitOr (n : Option Nat) : Unit16 :=
  match n with
  | some n => unit n
  | none => 0xFFFF

/-- A value of 32 bits as two units, or 0xFFFF in both when absent. -/
def units32Or (n : Option Nat) : List Unit16 :=
  match n with
  | some n => units32 (BitVec.ofNat 32 n)
  | none => [0xFFFF, 0xFFFF]

/-! ### Codes (R185) -/

def RegionClass.number : RegionClass → Nat
  | .closed => 1
  | .code => 2
  | .const => 3
  | .work => 4
  | .cyclic => 5

def Direction.code : Direction → Nat
  | .up => 0
  | .down => 1

def Attrs.code (a : Attrs) : Nat := bit a.checkpoint 0 + bit a.agreed 1 + bit a.scrub 2 + bit a.vital 3

def CkState.code : CkState → Nat
  | .none => 0
  | .valid => 1
  | .copying => 2
  | .restoring => 3
  | .broken => 4

def Source.code : Source → Nat
  | .procRead => 0
  | .procFetch => 1
  | .procWrite => 2
  | .engineCheckpoint => 3
  | .engineRestore => 4
  | .engineRetire => 5
  | .engineScrub => 6
  | .marker => 7
  | .twinLink => 8

def AlarmSet.code (a : AlarmSet) : Nat :=
  bit a.faultQueued 0 + bit a.queueFull 1 + bit a.vitalDown 2 + bit a.linkChange 3 + bit a.retired 4 + bit a.startDone 5

def TaintSet.code (t : TaintSet) : Nat :=
  bit t.unreadableOld 0 + bit t.suspectBlock 1 + bit t.hostUncorrectableAgreed 2 + bit t.maint 3

def Classification.code : Classification → Nat
  | .clean => 0
  | .pRepair => 1
  | .qRepair => 2
  | .uncorrectable => 3
  | .stale => 4

def RepairField.code : RepairField → Nat
  | .none => 0
  | .pWritten => 1
  | .qWritten => 2
  | .withheld => 3

def QFinding.code : QFinding → Nat
  | .valid => 0
  | .previousEpoch => 1
  | .outOfRange => 2
  | .wrongRemainder => 3

def PFinding.code : PFinding → Nat
  | .agrees => 0
  | .differs => 1
  | .notTested => 2

/-- Engine kinds take their ranks (R185). -/
def EngineKind.code : EngineKind → Nat
  | .clear => 1
  | .priorityBlock => 2
  | .readWord => 3
  | .restorePass => 4
  | .checkpointPass => 5
  | .retire => 6
  | .scrubBurst => 7

def Part.code : Part → Nat
  | .working => 0
  | .shadow => 1

def Grant.code : Grant → Nat
  | .none => 0
  | .processor => 1
  | .locked => 2
  | .engine => 3

def FifoMode.code : FifoMode → Nat
  | .empty => 0
  | .filling => 1
  | .draining => 2

def Control.code : Control → Nat
  | .config => 0
  | .init => 1
  | .run => 2
  | .hold => 3

def MarkerState.code : MarkerState → Nat
  | .opened => 0
  | .draining => 1
  | .awaitingTwin => 2

/-- The phase in the order of R40, IDLE being 0. -/
def phaseCode (a : Option Access) : Nat :=
  match a with
  | none => 0
  | some a =>
    match a.phase with
    | .heldBlock => 1
    | .heldRetire => 2
    | .heldMarker => 3
    | .atPort => 4
    | .lockedOpen => 5

def ReadResult.code : ReadResult → Nat
  | .none => 0
  | .pending => 1
  | .ready _ => 2

def Plane.code : Plane → Nat
  | .p => 0
  | .q => 1

/-! ### Layouts (R185) -/

/-- READ_REGION: the descriptor as installed, its checkpoint state, and its counts in D, S and R (R20). -/
def State.regionUnits (s : State) (r : Region) : List Unit16 :=
  let fields := match s.rgd.table.get r with
    | some d => [unit d.cls.number, unit d.base, unit d.span, unit d.len, unit d.dir.code, unit d.key, unit d.attrs.code,
        unitOr d.shadow]
    | none => [0, 0xFFFF, 0xFFFF, 0xFFFF, 0xFFFF, 0xFFFF, 0xFFFF, 0xFFFF]
  let count := fun xs => unit (BlockSet.ofRegion s.rgd.table r xs).length
  fields ++ [unit (s.ckc.ckState.get r).code, count s.ckc.dirty, count s.ckc.pass, count s.ckc.restore]

/-- A position in four units: region, part, block, offset. -/
def positionUnits (p : Option Position) : List Unit16 :=
  match p with
  | some p => [unit p.region.val, unit p.part.code, unit p.block, unit p.offset]
  | none => [0xFFFF, 0xFFFF, 0xFFFF, 0xFFFF]

/-- The fault record in 13 units. -/
def FaultRecord.units (f : FaultRecord) : List Unit16 :=
  [unit f.kind.code,
   unitOf (match f.also with
     | some k => k.code
     | none => 0) 0,
   unitOf f.source.code f.vital.toNat] ++
  units32Or f.word ++
  [unitOr (f.region.map (·.val)),
   (match f.findings with
     | some x => unitOf x.qFinding.code x.pFinding.code
     | none => 0xFFFF),
   unit ((f.findings.bind (·.distance)).getD 0)] ++
  positionUnits f.position ++
  [ofBytes f.epoch f.cycle]

/-- The check report of a READ_WORD collection in 7 units. -/
def CheckReport.units (r : CheckReport) : List Unit16 :=
  [unitOf r.cls.code r.repair.code, r.data.getD 0xFFFF, r.rawP] ++ units32 r.rawQ ++
  [unitOf r.qFinding.code r.pFinding.code, unit (r.distance.getD 0)]

/-- READ_REMAP: the remap table, the retire queue and the repair history, each with its count. -/
def State.remapUnits (s : State) : List Unit16 :=
  unit s.sru.remap.length ::
    (s.sru.remap.flatMap fun e => [unit e.block, unit e.spare, unit (!e.live).toNat]) ++
  unit s.sru.retireQueue.length :: s.sru.retireQueue.map unit ++
  unit s.sru.history.length ::
    s.sru.history.flatMap fun e => units32 (BitVec.ofNat 32 e.word) ++ [unit e.plane.code]

/-- The flag set of the snapshot's second unit. -/
def State.statusFlags (s : State) : Nat :=
  bit s.holdClearInFlight 0 + bit s.rgd.loadOpen 1 + bit s.copyPassInFlight 2 + bit s.restorePassInFlight 3 +
  bit s.twl.linkUp 4 + bit s.fau.ven 5 + bit s.fau.latch 6 + bit s.fau.epochFlag 7 + bit s.fau.qualified 8 +
  bit ((s.hbi.access.map (·.withdrawn)).getD false) 9 + bit s.hbi.presented.isSome 10

/-- The GET_STATUS snapshot in 12 units (R172). -/
def State.statusUnits (s : State) : List Unit16 :=
  [unit s.mli.control.code, unit s.statusFlags, unitOf (phaseCode s.hbi.access) s.mli.readResult.code,
   ofBytes s.cau.epoch s.cau.cycle, unitOf s.cau.lastVerdict.code s.cau.marker.code,
   unitOf s.cau.taint.code s.cau.carry.code] ++
  units32 s.cau.digest ++
  [unitOr (s.sru.cursor.map (·.region.val)), unitOr (s.sru.cursor.map (·.block)), unitOr (s.sru.cursor.map (·.offset)),
   unitOf s.fau.queue.length s.fau.pending.code]

/-! ### The engine report (R80, R185) -/

/-- The position of a block move: the next word it will take up, the word to be read while the FIFO fills and the word to be
written while it drains (R67; log 7). -/
def State.moveAt (s : State) (m : Move) (p : PassPos) (active : Bool) : Position :=
  match (if active then s.txe.oldest else none) with
  | some e =>
    ⟨p.region, (match m with
      | .copy => .shadow
      | .restore => .working), (s.moveBlocks m p.region p.block).2, e.offset⟩
  | none => ⟨p.region, m.sourcePart, (s.moveBlocks m p.region p.block).1, p.offset⟩

/-- The position units of a slot: four units, 0xFFFF where there is none; for READ_WORD the last two hold the word index, for
SCRUB_BURST the first the checks left (R185). -/
def State.slotPosition (s : State) (k : EngineKind) : List Unit16 :=
  let active := s.txe.active == some k
  match k with
  | .clear => positionUnits (s.txe.clear.bind ClearOp.place)
  | .priorityBlock =>
    positionUnits (s.txe.priority.map fun o => s.moveAt o.move ⟨o.region, o.block, o.offset⟩ active)
  | .readWord => [0xFFFF, 0xFFFF] ++ units32Or (s.txe.readWord.map (·.word))
  | .restorePass => positionUnits ((s.txe.restorePass.bind (·.pos)).map fun p => s.moveAt .restore p active)
  | .checkpointPass => positionUnits ((s.txe.checkpointPass.bind (·.pos)).map fun p => s.moveAt .copy p active)
  | .retire => positionUnits (s.txe.retire.map fun o =>
      ⟨o.region, o.part, o.block, match (if active then s.txe.oldest else none) with
        | some e => e.offset
        | none => o.offset⟩)
  | .scrubBurst => [unitOr (s.txe.scrub.map (·.left)), 0xFFFF, 0xFFFF, 0xFFFF]

/-- Whether a slot is occupied, and whether its operation has begun. -/
def Txe.slotBegun (x : Txe) (k : EngineKind) : Option Bool :=
  match k with
  | .clear => x.clear.map (·.begun)
  | .priorityBlock => x.priority.map (·.begun)
  | .readWord => x.readWord.map (·.begun)
  | .restorePass => x.restorePass.map (·.begun)
  | .checkpointPass => x.checkpointPass.map (·.begun)
  | .retire => x.retire.map (·.begun)
  | .scrubBurst => x.scrub.map (·.begun)

/-- The seven kinds by rank. -/
def allKinds : List EngineKind := [.clear, .priorityBlock, .readWord, .restorePass, .checkpointPass, .retire, .scrubBurst]

/-- The slots that are WAITING or PREEMPTED, in the order READ_ENGINE lists them. R80 and R185 give no order; the model lists them
by rank, highest first. DESIGN CHOICE (log 36). -/
def Txe.waitingKinds (x : Txe) : List EngineKind :=
  allKinds.filter fun k => (x.slotBegun k).isSome && x.active != some k

/-- READ_ENGINE: the ACTIVE kind and its position, the FIFO, each WAITING or PREEMPTED slot, and the grant (R80). -/
def State.engineUnits (s : State) : List Unit16 :=
  [unitOf ((s.txe.active.map EngineKind.code).getD 0) s.mpt.grant.code] ++
  (match s.txe.active with
    | some k => s.slotPosition k
    | none => positionUnits none) ++
  [unitOf s.txe.fifoMode.code s.txe.fifo.length, unit s.txe.waitingKinds.length] ++
  s.txe.waitingKinds.flatMap fun k =>
    [unit k.code, unit (if s.txe.slotBegun k = some true then 2 else 1)] ++ s.slotPosition k

/-! ### The data output of the maintenance link (R185) -/

/-- The `i`-th unit the MLI drives: 0xFFFF in RECEIVING; in RESPONDING, counted from the command's completion, the response units in
order and then 0xFFFF; in IDLE none (log 37). -/
def State.drivenUnit (s : State) (i : Nat) : Option Unit16 :=
  match s.mli.frame with
  | .idle => none
  | .receiving => some 0xFFFF
  | .responding => some (s.mli.response.getD i 0xFFFF)

/-- The data output at the `i`-th clock of those units: each most significant bit first. -/
def State.dataOut (s : State) (i : Nat) : Option Bool := (s.drivenUnit (i / 16)).map fun u => u.getMsbD (i % 16)

/-- The units that bits clocked in stand for, 16 to a unit, most significant first; bits that fill no unit are not taken. `fuel`
bounds the units. -/
def clockedUnits : Nat → List Bool → List Unit16
  | 0, _ => []
  | fuel + 1, bs => if bs.length < 16 then [] else unit (bitsValue (bs.take 16)) :: clockedUnits fuel (bs.drop 16)

end Sys2Proof.Machine
end

