-- ==== Sys2Proof/WellFormed.lean ====
section
/-!
DEFINITION. Which commands are well formed: an event of that name can arrive with those operands. `exec` is total and
gives every command a meaning; on an ill-formed one it follows the rule the operands do fit, or changes nothing.
-/
namespace Sys2Proof

/-- Section 3.2: the upper lane carries the byte at the even address and the lower lane the byte at the odd address; a word
lies at an even address (terms: "two bytes at an even processor address"). -/
def BusCycle.wellFormed (c : BusCycle) : Bool :=
  match c.transfer with
  | .wordRead | .fetch | .wordWrite _ => !c.addr.getLsbD 0
  | .byteRead .upper | .byteWrite .upper _ => !c.addr.getLsbD 0
  | .byteRead .lower | .byteWrite .lower _ => c.addr.getLsbD 0

/-- The transfer is a write. -/
def Transfer.isWrite : Transfer → Bool
  | .wordWrite _ | .byteWrite _ _ => true
  | .wordRead | .fetch | .byteRead _ => false

/-- The codes 0x01 to 0x18 name commands; no other code does (R185). -/
def commandCode (code : Unit16) : Bool := decide (1 ≤ code.toNat ∧ code.toNat ≤ 0x18)

/-- A well-formed command. -/
def Instr.wellFormed : Instr → Bool
  | .accessPresented c => c.wellFormed
  | .lockedWriteHalfPresented c => c.wellFormed && c.lock && c.transfer.isWrite
  | .lockNegated (some c) => c.wellFormed
  | .twinFrameReceived units => !units.isEmpty
  | .unknownCommand code => !commandCode code
  | .loadRemap count entries =>
    if count.toNat ≤ 8 then decide (entries.length = count.toNat) else entries.isEmpty
  | _ => true

end Sys2Proof
end

