-- ==== Sys2Proof/Machine/Maint.lean ====
section
/-!
DEFINITION. The maintenance link's framing and commands (Chapters 2, 9, 10 and 11.3).
-/
namespace Sys2Proof.Machine

/-! ### Frames (R170) -/

/-- CHIP_SELECT_ASSERT (R170): in IDLE, opens a frame. -/
def execChipSelectAssert (s : State) : Answer :=
  .next (if !s.inReset && s.mli.frame == .idle then
    { s with mli := { s.mli with frame := .receiving, code := none, operands := [], response := [] } }
  else s)

/-- CHIP_SELECT_NEGATE (R170): discards an incomplete command or ends the response; the frame state becomes IDLE. -/
def execChipSelectNegate (s : State) : Answer :=
  .next { s with mli := { s.mli with frame := .idle, code := none, operands := [], response := [] } }

/-- UNKNOWN_COMMAND (R170): a code that names no command is answered BAD_VALUE with no effect (log 21 for a code that names
one). -/
def execUnknownCommand (code : Unit16) (s : State) : Answer :=
  .next (if commandCode code then s else s.command code.toNat [] State.badOperand)

/-! ### Status and table commands (Chapters 2 and 10) -/

/-- The field phase becomes 0 and the staging descriptor is emptied (R27). -/
def Rgd.discard (g : Rgd) : Rgd := { g with phase := 0, staging := Staging.empty }

/-- GET_STATUS (R27, R172). -/
def execGetStatus (s : State) : Answer :=
  .next (s.command 0x01 [] fun s =>
    let s := { s with rgd := s.rgd.discard }
    s.answer .done s.statusUnits)

/-- The control state is CONFIG or HOLD. -/
def State.configOrHold (s : State) : Bool := s.mli.control == .config || s.mli.control == .hold

/-- The control state is RUN or HOLD. -/
def State.runOrHold (s : State) : Bool := s.mli.control == .run || s.mli.control == .hold

/-- SELECT_REGION (R27). -/
def execSelectRegion (entry : Unit16) (s : State) : Answer :=
  .next (s.command 0x02 [entry] fun s =>
    if !s.configOrHold then s.answer .wrongState []
    else if 15 < entry.toNat then s.badOperand
    else State.answer { s with rgd := { s.rgd.discard with pointer := Fin.ofNat 16 entry.toNat } } .done [])

/-- A table with one entry replaced. -/
def Table.put (t : Table) (r : Region) (d : Option Descriptor) : Table := Vector.set t r d

/-- The Region Decoder's part of an installation: the entry replaced whole, the tag recomputed, the pointer advanced, the
staging descriptor emptied (R29, R30, R34). -/
def Rgd.install (g : Rgd) (d : Option Descriptor) : Rgd :=
  { g.discard with
    table := g.table.put g.pointer d, layoutTag := layoutTagOf (g.table.put g.pointer d), pointer := g.pointer + 1 }

/-- An installation in CONFIG (R37, R141). -/
def State.installConfig (s : State) (d : Option Descriptor) : State :=
  let g := s.rgd.install d
  { s with
    rgd := g
    ckc := s.ckc.setState s.rgd.pointer (installedState d)
    sru := { s.sru with cursor := scrubAdjust g.table s.sru.cursor } }

/-- An installation in HOLD (R38, R39, R141): the checkpoint state, the trim of the dirty map, and a CLEAR where blocks are
to be cleared. -/
def State.installHold (s : State) (d : Option Descriptor) : State :=
  let g := s.rgd.install d
  let ranges := installClears s.rgd.pointer (s.rgd.table.get s.rgd.pointer) d
  let s := { s with
    rgd := g
    ckc := Ckc.setState { s.ckc with dirty := s.ckc.dirty.filter (checkpointed g.table) } s.rgd.pointer (installedState d)
    sru := { s.sru with cursor := scrubAdjust g.table s.sru.cursor } }
  if ranges = [] then s
  else State.settle { s with txe := { s.txe with clear := some ⟨false, ranges, 0, 0, false⟩ } }

/-- The installation of a descriptor, or of its absence, in the entry named by the pointer (R29, R30, R36). -/
def State.install (s : State) (d : Option Descriptor) : State :=
  if s.mli.control = .hold then
    match validateTable (s.rgd.table.put s.rgd.pointer d) s.mli.params with
    | some (reason, r) => s.answerBad reason r
    | none => (s.installHold d).answer .done []
  else (s.installConfig d).answer .done []

/-- A REGION_FIELD that is taken (R28 to R30). -/
def State.takeField (s : State) (v : Unit16) : State :=
  if s.rgd.phase = 0 ∧ v = 0 then s.install none
  else
    match loadField s.rgd.staging s.rgd.phase v with
    | none => s.badOperand
    | some g =>
      if s.rgd.phase = 7 then State.install { s with rgd := { s.rgd with staging := g } } (some g.toDescriptor)
      else State.answer { s with rgd := { s.rgd with staging := g, phase := s.rgd.phase + 1 } } .done []

/-- REGION_FIELD (R28). -/
def execRegionField (value : Unit16) (s : State) : Answer :=
  .next (s.command 0x03 [value] fun s =>
    if !s.configOrHold then s.answer .wrongState []
    else if s.mli.control = .hold ∧ s.installBusy = true then s.answer .busy []
    else s.takeField value)

/-- READ_REGION (R20, R172). -/
def execReadRegion (entry : Unit16) (s : State) : Answer :=
  .next (s.command 0x04 [entry] fun s =>
    if 15 < entry.toNat then s.badOperand else s.answer .done (s.regionUnits (Fin.ofNat 16 entry.toNat)))

/-! ### Parameters and the remap table (R151, R174) -/

/-- The remap table after a change of parameters: emptied when the spare base or the spare count changes (R174). -/
def remapAfter (old new : Params) (l : List RemapEntry) : List RemapEntry :=
  if old.spareBase ≠ new.spareBase ∨ old.spareCount ≠ new.spareCount then [] else l

/-- SET_PARAM (R174). -/
def execSetParam (selector : Unit16) (value : BitVec 32) (s : State) : Answer :=
  .next (s.command 0x05 (selector :: units32 value) fun s =>
    if s.mli.control ≠ .config then s.answer .wrongState []
    else
      match s.mli.params.set selector.toNat value.toNat with
      | none => s.badOperand
      | some p =>
        State.answer { s with
          mli := { s.mli with params := p }
          sru := { s.sru with remap := remapAfter s.mli.params p s.sru.remap } } .done [])

/-- READ_PARAM (R174). -/
def execReadParam (selector : Unit16) (s : State) : Answer :=
  .next (s.command 0x06 [selector] fun s =>
    match s.mli.params.get selector.toNat with
    | none => s.badOperand
    | some v => s.answer .done (units32 (BitVec.ofNat 32 v)))

/-- The operand units of a LOAD_REMAP. -/
def remapOperandUnits (count : Unit16) (entries : List RemapOperand) : List Unit16 :=
  count :: entries.flatMap RemapOperand.units

/-- A complete LOAD_REMAP (R151). -/
def State.loadRemap (s : State) (entries : List RemapOperand) : State :=
  if s.mli.control ≠ .config then s.answer .wrongState []
  else
    match remapOf s.mli.params entries with
    | none => s.badOperand
    | some l => State.answer { s with sru := { s.sru with remap := l } } .done []

/-- LOAD_REMAP (R151, R170): an entry count above 8 is answered BAD_VALUE at once; with fewer entries than the count the
command is incomplete and the frame goes on receiving. -/
def execLoadRemap (count : Unit16) (entries : List RemapOperand) (s : State) : Answer :=
  .next (if 8 < count.toNat then s.command 0x07 [count] State.badOperand
    else s.command 0x07 (remapOperandUnits count (entries.take count.toNat)) fun s =>
      if entries.length < count.toNat then s else s.loadRemap (entries.take count.toNat))

/-- READ_REMAP (R172). -/
def execReadRemap (s : State) : Answer := .next (s.command 0x08 [] fun s => s.answer .done s.remapUnits)

/-! ### Control state (R176 to R180) -/

/-- The effects of a START whose validation passed, in the order of R176. -/
def State.startRun (s : State) : State :=
  State.settle
    { s with
      rgd := { s.rgd with layoutTag := layoutTagOf s.rgd.table }
      cau := { s.cau with digest := 0, taint := TaintSet.empty, carry := TaintSet.empty, slot := none }
      fau := { s.fau with epochFlag := false, qualified := false }
      sru := { s.sru with
        cursor := scrubFrom s.rgd.table 0
        scrubTimer := if s.mli.params.scrubInterval = 0 then none else some s.mli.params.scrubInterval }
      txe := { s.txe with clear := some ⟨true, startClears s.rgd.table, 0, 0, false⟩ }
      mli := { s.mli with control := .init } }

/-- START (R176). -/
def execStart (s : State) : Answer :=
  .next (s.command 0x09 [] fun s =>
    if s.mli.control ≠ .config then s.answer .wrongState []
    else
      match validateStart s.rgd s.mli.params with
      | some (reason, r) => s.answerBad reason r
      | none => (s.startRun).answer .done [])

/-- The engine with every slot EMPTY and the FIFO flushed (R80). -/
def Txe.idle : Txe :=
  { clear := none, priority := none, readWord := none, restorePass := none, checkpointPass := none, retire := none
    scrub := none, active := none, fifoMode := .empty, fifo := [] }

/-- The effects of REINIT, block by block (R180 and the rules it names). -/
def State.reinitialise (s : State) : State :=
  { s with
    hbi := { s.hbi with access := none, presented := none }
    rgd := { s.rgd with pointer := 0, phase := 0, staging := Staging.empty, loadOpen := true }
    cdu := { latch := none }
    mpt := { s.mpt with grant := .none, count := 0 }
    txe := Txe.idle
    ckc := { dirty := [], pass := [], restore := [], ckState := s.rgd.table.map installedState }
    cau := { cycle := 0, epoch := 0, lastVerdict := .none, taint := TaintSet.empty, carry := TaintSet.empty, digest := 0
             marker := .opened, held := none, localMark := none, verdictDue := false, slot := none
             agreementTimer := none, deadlineTimer := none }
    twl := { s.twl with waiting := none }
    sru := { s.sru with cursor := none, scrubTimer := none, history := [], retireQueue := [] }
    fau := { s.fau with ven := false, epochFlag := false, qualified := false }
    mli := { s.mli with control := .config, readResult := .none } }

/-- REINIT (R180): a group already begun is carried through first (R58, R66, R80). -/
def execReinit (s : State) : Answer :=
  .next (s.command 0x0A [] fun s => (s.groupEnded.reinitialise).answer .done [])

/-- HOLD (R178). -/
def execHold (s : State) : Answer :=
  .next (s.command 0x0B [] fun s =>
    match s.mli.control with
    | .run => (State.settle (State.suspendScrub { s with mli := { s.mli with control := .hold } })).answer .done []
    | .hold => s.answer .done []
    | .config | .init => s.answer .wrongState [])

/-- RELEASE (R179). -/
def execRelease (s : State) : Answer :=
  .next (s.command 0x0C [] fun s =>
    if s.mli.control ≠ .hold then s.answer .wrongState []
    else if s.holdClearInFlight then s.answer .busy []
    else State.answer { s with mli := { s.mli with control := .run } } .done [])

/-! ### Faults, counters, alarm and the vital enable (Chapter 9) -/

/-- POP_FAULT (R161). -/
def execPopFault (s : State) : Answer :=
  .next (s.command 0x0D [] fun s =>
    match s.fau.queue with
    | r :: t => State.answer { s with fau := { s.fau with queue := t } } .done r.units
    | [] => s.answer .empty [])

/-- PEEK_FAULT (R161). -/
def execPeekFault (s : State) : Answer :=
  .next (s.command 0x0E [] fun s =>
    match s.fau.queue with
    | r :: _ => s.answer .done r.units
    | [] => s.answer .empty [])

/-- READ_COUNTERS (R163). -/
def execReadCounters (s : State) : Answer :=
  .next (s.command 0x0F [] fun s => s.answer .done (s.fau.counters.toList.map unit))

/-- CLEAR_COUNTERS (R163). -/
def execClearCounters (s : State) : Answer :=
  .next (s.command 0x10 [] fun s =>
    State.answer { s with fau := { s.fau with counters := Vector.replicate 22 0 } } .done [])

/-- SET_ALARM_MASK (R165). -/
def execSetAlarmMask (members : Unit16) (s : State) : Answer :=
  .next (s.command 0x11 [members] fun s =>
    match alarmSetOfUnit members with
    | none => s.badOperand
    | some m => State.answer { s with fau := { s.fau with mask := m } } .done [])

/-- ACK_ALARM (R164). -/
def execAckAlarm (members : Unit16) (s : State) : Answer :=
  .next (s.command 0x12 [members] fun s =>
    match alarmSetOfUnit members with
    | none => s.badOperand
    | some m => State.answer { s with fau := { s.fau with pending := s.fau.pending.minus m } } .done [])

/-- ENABLE_VITAL (R168). -/
def execEnableVital (s : State) : Answer :=
  .next (s.command 0x13 [] fun s =>
    if s.mli.control = .run ∧ s.fau.qualified = true then
      State.answer { s with fau := { s.fau with ven := true, latch := false } } .done []
    else s.answer .wrongState [])

/-- REQUEST_ROLLBACK (R122). -/
def execRequestRollback (s : State) : Answer :=
  .next (s.command 0x14 [] fun s =>
    if s.runOrHold then
      State.answer { s with cau := s.cau.raise { TaintSet.empty with maint := true } } .done []
    else s.answer .wrongState [])

/-- The request to retire block b would be dropped (R149, R150). -/
def State.retireQueueFull (s : State) (b : Nat) : Bool :=
  !decide (b ∈ s.sru.retireQueue) && !decide (s.sru.retireQueue.length < Config.retireQueueSize)

/-- RETIRE_BLOCK (R150). -/
def execRetireBlock (block : Unit16) (s : State) : Answer :=
  .next (s.command 0x15 [block] fun s =>
    let b := block.toNat
    if !s.runOrHold then s.answer .wrongState []
    else if (ownerOf s.rgd.table b).isNone then s.badOperand
    else
      (s.requestRetire b (b * Config.blockWords)).answer (if s.retireQueueFull b then .busy else .done) [])

/-! ### READ_WORD and READ_ENGINE (R80, R173) -/

/-- READ_WORD_REQUEST (R173). -/
def execReadWordRequest (word : BitVec 32) (s : State) : Answer :=
  .next (s.command 0x16 (units32 word) fun s =>
    if !s.runOrHold then s.answer .wrongState []
    else if s.mli.readResult = .pending then s.answer .busy []
    else if s.memWords ≤ word.toNat then s.badOperand
    else
      (State.settle { s with
        txe := { s.txe with readWord := some ⟨word.toNat, false⟩ }
        mli := { s.mli with readResult := .pending } }).answer .done [])

/-- READ_WORD_COLLECTION (R173). -/
def execReadWordCollection (s : State) : Answer :=
  .next (s.command 0x17 [] fun s =>
    match s.mli.readResult with
    | .ready rep => State.answer { s with mli := { s.mli with readResult := .none } } .done rep.units
    | .pending => s.answer .busy []
    | .none => s.answer .empty [])

/-- READ_ENGINE (R80). -/
def execReadEngine (s : State) : Answer := .next (s.command 0x18 [] fun s => s.answer .done s.engineUnits)

end Sys2Proof.Machine
end

