-- ==== Sys2Proof/Machine/Reset.lean ====
section
/-!
DEFINITION. Power-on and system reset (R66, R181): POWER_ON, SYSTEM_RESET_ASSERT, INTERNAL_RESET_END, and the group that a reset
cuts short.
-/
namespace Sys2Proof.Machine

/-! ### A group cut short (R66) -/

/-- The two planes between the two writes a scrub word check can make: the working word repaired, its shadow not yet. Every other
group makes one write at most (R59). -/
def State.scrubMidway (s : State) : List (Memory × Memory) :=
  match s.txe.active, s.sru.cursor with
  | some .scrubBurst, some c =>
    let t := s.terms c.word
    let u := s.repair c.word t (s.check true c.word t)
    [(u.planeP, u.planeQ)]
  | _, _ => []

/-- The two planes after each write of the group in hand, in the order it makes them; none where there is no group. -/
def State.groupStages (s : State) : List (Memory × Memory) :=
  if s.mpt.grant = .none then []
  else
    match s.groupInHand with
    | .next t => (if s.mpt.grant = .engine then s.scrubMidway else []) ++ [(t.planeP, t.planeQ)]
    | _ => []

/-- The planes after the first `n` stages, or after the last where there are fewer; `before` after none. -/
def planesAfter (before : Memory × Memory) : List (Memory × Memory) → Nat → Memory × Memory
  | [], _ => before
  | _ :: _, 0 => before
  | x :: t, n + 1 => planesAfter x t n

/-- The memory planes a reset leaves: the group in hand, if there is one, is cut short after as many of its writes as the free
value says, none and all included (R66, R181; log 35). -/
def State.cutPlanes (s : State) : Memory × Memory :=
  planesAfter (s.planeP, s.planeQ) s.groupStages (Config.cutAfter s.cuts)

/-- The part held in reset: every block at its power-on value, a group in hand cut short and the memory planes otherwise as they
are (R1, R66, R181; log 17, log 35). -/
def State.intoReset (s : State) : State :=
  State.powerOnValue true s.cutPlanes.1 s.cutPlanes.2 (if s.groupStages = [] then s.cuts else s.cuts + 1) s.pending

/-- POWER_ON (R181). -/
def execPowerOn (s : State) : Answer := .next s.intoReset

/-- SYSTEM_RESET_ASSERT (R181). -/
def execSystemResetAssert (s : State) : Answer := .next s.intoReset

/-- INTERNAL_RESET_END (R181): the part enters CONFIG with every piece of state at its power-on value. -/
def execInternalResetEnd (s : State) : Answer :=
  .next (if s.inReset then State.powerOnValue false s.planeP s.planeQ s.cuts s.pending else s)

end Sys2Proof.Machine
end

