-- ==== Sys2Proof/Machine/Dispatch.lean ====
section
/-! DEFINITION. The meaning of every command: one arm per constructor of `Instr`, in the order of spec/opcode_table.json. -/
namespace Sys2Proof.Machine

-- A command acts on everything but the queue of waiting commands.
def exec (i : Instr) (s : State) : Host.Outcome State Fault Refusal :=
  match i with
  | .powerOn => Sys2Proof.Machine.execPowerOn s
  | .systemResetAssert => Sys2Proof.Machine.execSystemResetAssert s
  | .internalResetEnd => Sys2Proof.Machine.execInternalResetEnd s
  | .accessPresented c => Sys2Proof.Machine.execAccessPresented c s
  | .takeAccess => Sys2Proof.Machine.execTakeAccess s
  | .presentedAccessWithdrawn => Sys2Proof.Machine.execPresentedAccessWithdrawn s
  | .accessWithdrawn => Sys2Proof.Machine.execAccessWithdrawn s
  | .lockedWriteHalfPresented c => Sys2Proof.Machine.execLockedWriteHalfPresented c s
  | .lockNegated o => Sys2Proof.Machine.execLockNegated o s
  | .procReadGroup => Sys2Proof.Machine.execProcReadGroup s
  | .procPlainWriteGroup => Sys2Proof.Machine.execProcPlainWriteGroup s
  | .procAgreedWriteGroup => Sys2Proof.Machine.execProcAgreedWriteGroup s
  | .procByteWriteGroup => Sys2Proof.Machine.execProcByteWriteGroup s
  | .lockedReadHalfGroup => Sys2Proof.Machine.execLockedReadHalfGroup s
  | .lockedWriteHalfGroup => Sys2Proof.Machine.execLockedWriteHalfGroup s
  | .copyWordRead => Sys2Proof.Machine.execCopyWordRead s
  | .copyWordWrite => Sys2Proof.Machine.execCopyWordWrite s
  | .restoreWordRead => Sys2Proof.Machine.execRestoreWordRead s
  | .restoreWordWrite => Sys2Proof.Machine.execRestoreWordWrite s
  | .retireWordRead => Sys2Proof.Machine.execRetireWordRead s
  | .retireWordWrite => Sys2Proof.Machine.execRetireWordWrite s
  | .clearWrite => Sys2Proof.Machine.execClearWrite s
  | .scrubWordCheck => Sys2Proof.Machine.execScrubWordCheck s
  | .diagnosticRead => Sys2Proof.Machine.execDiagnosticRead s
  | .retireTake => Sys2Proof.Machine.execRetireTake s
  | .scrubTimerExpiry => Sys2Proof.Machine.execScrubTimerExpiry s
  | .fixLocalKind => Sys2Proof.Machine.execFixLocalKind s
  | .verdictWordWrite => Sys2Proof.Machine.execVerdictWordWrite s
  | .agreementTimerExpiry => Sys2Proof.Machine.execAgreementTimerExpiry s
  | .cycleDeadlineExpiry => Sys2Proof.Machine.execCycleDeadlineExpiry s
  | .twinFrameReceived us => Sys2Proof.Machine.execTwinFrameReceived us s
  | .twinLineIdleTimeout => Sys2Proof.Machine.execTwinLineIdleTimeout s
  | .linkTimerExpiry => Sys2Proof.Machine.execLinkTimerExpiry s
  | .idleFrameTimerExpiry => Sys2Proof.Machine.execIdleFrameTimerExpiry s
  | .transmitFrameEnd => Sys2Proof.Machine.execTransmitFrameEnd s
  | .chipSelectAssert => Sys2Proof.Machine.execChipSelectAssert s
  | .chipSelectNegate => Sys2Proof.Machine.execChipSelectNegate s
  | .unknownCommand code => Sys2Proof.Machine.execUnknownCommand code s
  | .getStatus => Sys2Proof.Machine.execGetStatus s
  | .selectRegion e => Sys2Proof.Machine.execSelectRegion e s
  | .regionField v => Sys2Proof.Machine.execRegionField v s
  | .readRegion e => Sys2Proof.Machine.execReadRegion e s
  | .setParam sel v => Sys2Proof.Machine.execSetParam sel v s
  | .readParam sel => Sys2Proof.Machine.execReadParam sel s
  | .loadRemap n es => Sys2Proof.Machine.execLoadRemap n es s
  | .readRemap => Sys2Proof.Machine.execReadRemap s
  | .start => Sys2Proof.Machine.execStart s
  | .reinit => Sys2Proof.Machine.execReinit s
  | .hold => Sys2Proof.Machine.execHold s
  | .release => Sys2Proof.Machine.execRelease s
  | .popFault => Sys2Proof.Machine.execPopFault s
  | .peekFault => Sys2Proof.Machine.execPeekFault s
  | .readCounters => Sys2Proof.Machine.execReadCounters s
  | .clearCounters => Sys2Proof.Machine.execClearCounters s
  | .setAlarmMask m => Sys2Proof.Machine.execSetAlarmMask m s
  | .ackAlarm m => Sys2Proof.Machine.execAckAlarm m s
  | .enableVital => Sys2Proof.Machine.execEnableVital s
  | .requestRollback => Sys2Proof.Machine.execRequestRollback s
  | .retireBlock b => Sys2Proof.Machine.execRetireBlock b s
  | .readWordRequest w => Sys2Proof.Machine.execReadWordRequest w s
  | .readWordCollection => Sys2Proof.Machine.execReadWordCollection s
  | .readEngine => Sys2Proof.Machine.execReadEngine s

end Sys2Proof.Machine
end

