-- ==== Sys2Proof/Safety.lean ====
section
/-!
DEFINITION. What it means for a state of the part to be sound, and how a step's effect on memory is told; the terms the
statements use.
-/
namespace Sys2Proof.Machine

/-! ### Memory -/

/-- Both planes are in the canonical form. -/
def State.canonical (s : State) : Prop := s.planeP.wf = true ∧ s.planeQ.wf = true

/-- The two planes hold the pair (p, q) at a physical word. -/
def State.holds (s : State) (pw : Nat) (p : Word) (q : Code) : Prop :=
  readPlaneP s.planeP pw = p ∧ readPlaneQ s.planeQ pw = q

/-- Every byte of both planes reads the same in the two states, but for the bytes of one physical word. -/
def sameButWord (s t : State) (pw : Nat) : Prop :=
  (∀ a, a / 2 ≠ pw → t.planeP.read a = s.planeP.read a) ∧ (∀ a, a / 4 ≠ pw → t.planeQ.read a = s.planeQ.read a)

/-- Every byte of both planes reads the same in the two states. -/
def sameMemory (s t : State) : Prop :=
  (∀ a, t.planeP.read a = s.planeP.read a) ∧ (∀ a, t.planeQ.read a = s.planeQ.read a)

/-! ### Who may make a group -/

/-- The current access is `a`, at the port under this grant, and its word lies in the memory fitted. -/
def State.portFor (s : State) (a : Access) (g : Grant) : Prop :=
  s.hbi.access = some a ∧ a.phase = .atPort ∧ s.mpt.grant = g ∧ s.physWord a.word < s.memWords

/-- The engine holds the grant with this kind ACTIVE. -/
def State.engineOn (s : State) (k : EngineKind) : Prop := s.mpt.grant = .engine ∧ s.txe.active = some k

/-- The part is ready to take the presented access `c`, which decodes to `x` (R41, R31). -/
def State.takes (s : State) (c : BusCycle) (x : Decoded) : Prop :=
  s.inReset = false ∧ s.mli.control = .run ∧ s.hbi.access = none ∧ s.hbi.presented = some c ∧
  decodeAccess s.rgd.table s.rgd.loadOpen s.mli.params.marker (cycleOp c).kind (cycleWord c) = x

/-! ### The vital enable (R166 to R168) -/

/-- What always holds of VEN, its latch and the two flags: VEN is HIGH only in RUN or HOLD and with no vital fault taken in
the current epoch, the latch is not SET beside VEN HIGH, and the qualification is SET only after a COMMITTED verdict and
with no vital fault since. -/
def State.vitalLegal (s : State) : Prop :=
  (s.fau.ven = true → (s.mli.control = .run ∨ s.mli.control = .hold) ∧ s.fau.epochFlag = false ∧ s.fau.latch = false) ∧
  (s.fau.qualified = true → s.cau.lastVerdict = .committed ∧ s.fau.epochFlag = false)

/-! ### Capacities -/

/-- The queue, counters, history, retire queue and FIFO stay within their sizes (R161, R163, R147, R149, R69), the history
and the retire queue without duplicates; a receive frame that is open holds fewer units than the length its header gives it: 2
for an IDLE frame, 7 for a MARK, none for another header or a first unit without the flag (R126, R184). -/
def State.withinCapacity (s : State) : Prop :=
  s.fau.queue.length ≤ 16 ∧ (∀ i, s.fau.counters.get i ≤ 65535) ∧
  s.sru.history.length ≤ 8 ∧ (s.sru.history.map (·.word)).Nodup ∧
  s.sru.retireQueue.length ≤ 4 ∧ s.sru.retireQueue.Nodup ∧
  s.txe.fifo.length ≤ 32 ∧ (s.txe.fifoMode ≠ .draining → s.txe.fifo.length < 32) ∧
  ∀ us ∈ s.twl.rx, us ≠ [] ∧ ∀ u ∈ us.head?, u.first = true →
    (u.data = 0xA501 → us.length < 2) ∧ (u.data = 0xA502 → us.length < 7)

/-- What always holds of the remap table (R151): at most 8 entries, at most one LIVE entry a block, no spare named twice, every
spare below NS; a retire copy's target spare is free (R152), and there is none in CONFIG. -/
def State.remapSound (s : State) : Prop :=
  s.sru.remap.length ≤ 8 ∧ ((s.sru.remap.filter (·.live)).map (·.block)).Nodup ∧ (s.sru.remap.map (·.spare)).Nodup ∧
  s.mli.params.spareCount ≤ 8 ∧ (∀ e ∈ s.sru.remap, e.spare < s.mli.params.spareCount) ∧
  (∀ o ∈ s.txe.retire, o.spare < s.mli.params.spareCount ∧ ∀ e ∈ s.sru.remap, e.spare ≠ o.spare) ∧
  (s.mli.control = .config → s.txe.retire = none)

/-! ### The region table and the parameters -/

/-- The ranges of R21, the attributes clamped and a shadow with CHECKPOINT alone (R25). -/
def Descriptor.inRange (d : Descriptor) : Prop :=
  d.base ≤ 32767 ∧ 1 ≤ d.span ∧ d.span ≤ 4096 ∧ 1 ≤ d.len ∧ d.len ≤ d.span ∧ d.key ≤ 65520 ∧
  clampAttrs d.cls d.attrs = d.attrs ∧ d.shadow.isSome = d.attrs.checkpoint ∧ ∀ sb ∈ d.shadow, sb ≤ 32767

/-- The fields loaded into the staging descriptor so far are in the ranges of R21, in the order of R28. -/
def Rgd.stagedInRange (g : Rgd) : Prop :=
  (1 < g.phase.val → g.staging.base ≤ 32767) ∧ (2 < g.phase.val → 1 ≤ g.staging.span ∧ g.staging.span ≤ 4096) ∧
  (3 < g.phase.val → 1 ≤ g.staging.len ∧ g.staging.len ≤ g.staging.span) ∧
  (5 < g.phase.val → g.staging.key ≤ 65520)

/-- The values R174 lets the parameters hold. -/
def Params.inRange (p : Params) : Prop :=
  16 ≤ p.exponent ∧ p.exponent ≤ 22 ∧ p.spareBase ≤ 32767 ∧ p.spareCount ≤ 8 ∧ p.marker ≤ 8388607 ∧
  1 ≤ p.burst ∧ p.burst ≤ 32 ∧ p.scrubInterval ≤ 65535 ∧ 1 ≤ p.agreementTimeout ∧ p.agreementTimeout ≤ 255 ∧
  p.deadline ≤ 255

/-- What always holds of the region table: every descriptor, the staged fields and the parameters in range, the tag that of the
table (R34), and outside CONFIG a table that passes validation (R36); a START clear is made in INIT alone (R176, R177). -/
def State.tableSound (s : State) : Prop :=
  (∀ r, ∀ d ∈ s.rgd.table.get r, d.inRange) ∧ s.rgd.stagedInRange ∧ s.mli.params.inRange ∧
  s.rgd.layoutTag = layoutTagOf s.rgd.table ∧
  (s.mli.control ≠ .config → validateTable s.rgd.table s.mli.params = none) ∧
  ∀ o ∈ s.txe.clear, o.atStart = true → s.mli.control = .init

/-! ### The marker in hand (R124, R125, R136) -/

/-- What always holds of a marker in hand: while it is held, a local MARK is kept or a verdict word is due, the current access is the
marker write in HELD_MARKER; and once the verdict word is due, the verdict has let go of the marker and of the local MARK. -/
def State.markerSound (s : State) : Prop :=
  (s.cau.held ≠ none ∨ s.cau.localMark ≠ none ∨ s.cau.verdictDue = true →
    ∃ a, s.hbi.access = some a ∧ a.phase = .heldMarker) ∧
  (s.cau.verdictDue = true → s.cau.held = none ∧ s.cau.localMark = none)

/-! ### The sets D, S and R (R81, R82) -/

/-- The block is an authorised block of a present region that carries CHECKPOINT and is in such a checkpoint state. -/
def State.inRegion (s : State) (b : Nat) (p : CkState → Bool) : Prop :=
  ∃ r, ∃ d ∈ s.rgd.table.get r, d.attrs.checkpoint = true ∧ d.authorised b = true ∧ p (s.ckc.ckState.get r) = true

/-- The binding of the sets to the checkpoint states: blocks of S in COPYING regions, blocks of R in D and in RESTORING regions,
blocks of D in regions whose state is not NONE, no region COPYING beside one RESTORING. -/
def State.setsBound (s : State) : Prop :=
  s.ckc.dirty.Pairwise (· < ·) ∧ s.ckc.pass.Pairwise (· < ·) ∧ s.ckc.restore.Pairwise (· < ·) ∧
  (∀ b ∈ s.ckc.dirty, s.inRegion b (· != .none)) ∧ (∀ b ∈ s.ckc.pass, s.inRegion b (· == .copying)) ∧
  (∀ b ∈ s.ckc.restore, b ∈ s.ckc.dirty ∧ s.inRegion b (· == .restoring)) ∧
  (∀ r, hasAttr (·.checkpoint) s.rgd.table r = true → s.ckc.ckState.get r ≠ .none) ∧
  (s.copyPassInFlight = false ∨ s.restorePassInFlight = false)

/-- Where the work on the sets stands: a PRIORITY_BLOCK and a pass's kept place name blocks of their set (R72, R91, R109), the
ACTIVE pass is not on a PRIORITY_BLOCK's block nor on a place it must discard. -/
def State.placesBound (s : State) : Prop :=
  (∀ o ∈ s.txe.priority, o.block ∈ s.ckc.setOf o.move) ∧
  (∀ m, ∀ o ∈ s.txe.passSlot m, ∀ p ∈ o.pos, o.stale = false → p.block ∈ s.ckc.setOf m) ∧
  (∀ m, s.txe.active = some m.passKind → ∀ o ∈ s.txe.passSlot m,
    o.stale = false ∧ ∀ p ∈ o.pos, ∀ q ∈ s.txe.priority, q.move = m → p.block ≠ q.block)

/-- When the sets can be filled: a local MARK is fixed with no pass in flight (R125); in CONFIG and INIT no access, marker or pass
is in hand, in CONFIG the sets and the engine are empty (R64, R81); the START clear is made in INIT. -/
def State.setsQuiet (s : State) : Prop :=
  (s.cau.localMark ≠ none → s.passInFlight = false) ∧
  (s.mli.control = .config ∨ s.mli.control = .init →
    s.hbi.access = none ∧ s.cau.held = none ∧ s.cau.localMark = none ∧ s.passInFlight = false) ∧
  (s.mli.control = .config →
    s.ckc.dirty = [] ∧ s.txe.active = none ∧ s.txe.highest = none ∧ s.sru.scrubTimer = none) ∧
  ∀ o ∈ s.txe.clear, o.atStart = true → s.mli.control = .init

/-- What always holds of the sets D, S and R. -/
def State.setsSound (s : State) : Prop := s.setsBound ∧ s.placesBound ∧ s.setsQuiet

/-! ### How a group leaves memory, the bus and the port -/

/-- Physical word `pw` now holds data `d` in both planes under signature `sig` (R4), and every other word is as it was. -/
def wroteWord (s t : State) (pw : Nat) (d : Word) (sig : Nat) : Prop :=
  t.holds pw d (encode d sig) ∧ sameButWord s t pw

/-- The bus interface after the part ended access `a`: with this end on the bus, or silently when it was withdrawn (R54,
R55). -/
def State.ended (s : State) (a : Access) (e : BusEnd) : Hbi :=
  { access := none, presented := s.hbi.presented, busEnd := if a.withdrawn then s.hbi.busEnd else some e }

/-- The port after a processor group: granted afresh to an engine that has an operation ACTIVE, else idle (R61 to R63). -/
def portReleased (s t : State) : Prop :=
  (s.txe.active ≠ none → t.txe = s.txe ∧ t.mpt = { grant := .engine, count := 0, limit := s.mli.params.burst }) ∧
  (s.txe.active = none → s.txe.highest = none → s.cau.verdictDue = false →
    t.txe = s.txe ∧ t.mpt = { s.mpt with grant := .none })

/-- The port after an engine group whose operation goes on: one more group counted, or the end of the burst, at which the
processor side is granted if it asks and the engine otherwise (R62). -/
def State.afterGroup (s : State) : Mpt :=
  if s.mpt.count + 1 < s.mpt.limit then { s.mpt with count := s.mpt.count + 1 }
  else if s.procAsking then { s.mpt with grant := s.procGrant, count := s.mpt.count + 1 }
  else { grant := .engine, count := 0, limit := s.mli.params.burst }

/-! ### What a check leads to -/

/-- The state with the repair a check with repair performs at logical word `w` reported (R11). -/
def State.withRepair (s : State) (w : Nat) (rep : CheckReport) : State :=
  match rep.cls with
  | .pRepair => s.reportRepair w .p
  | .qRepair => s.reportRepair w .q
  | .clean | .uncorrectable | .stale => s

/-- A good word `w` was read by a check with repair: it now reads CLEAN, a CLEAN one was not written, nothing else in memory
changed, and the repair, if there was one, is reported (R7, R10, R11). -/
def readWell (s t : State) (w : Nat) (terms : Terms) (rep : CheckReport) (d : Word) : Prop :=
  wroteWord s t (s.physWord w) d (signature w terms s.cau.epoch) ∧
  (rep.cls = .clean → t.planeP = s.planeP ∧ t.planeQ = s.planeQ) ∧
  t.fau = (s.withRepair w rep).fau ∧ t.sru = (s.withRepair w rep).sru

/-- The record of a processor access's bad word (R47, R51, R159). -/
def State.badWordRecord (s : State) (a : Access) (src : Source) (rep : CheckReport) : FaultRecord :=
  { kind := if rep.cls = .stale then .stale else .uncorrectable
    also := none, source := src, word := some a.word, region := some a.record.region
    findings := some ⟨rep.qFinding, rep.pFinding, rep.distance⟩
    position := none, vital := hasAttr (·.vital) s.rgd.table a.record.region, epoch := s.cau.epoch
    cycle := s.cau.cycle }

/-- The Checkpoint Controller after the access's block was marked dirty, as a written or a suspect block (R83, R84). -/
def State.marked (s : State) (c : Bool) (a : Access) : Ckc :=
  if c then (s.addDirty a.record.block).ckc else s.ckc

/-! ### The engine's block moves -/

/-- The command that reads a word of a move. -/
def readOf : Move → Instr
  | .copy => .copyWordRead
  | .restore => .restoreWordRead

/-- The command that writes a word of a move. -/
def writeOf : Move → Instr
  | .copy => .copyWordWrite
  | .restore => .restoreWordWrite

/-- The engine holds the grant and moves block `p.block` of region `p.region`, reading block `src` and writing block `dst`:
working block to shadow block for a copy, the other way for a restore (R70, R71). -/
def State.moves (s : State) (m : Move) (p : PassPos) (d : Descriptor) (src dst : Nat) : Prop :=
  s.mpt.grant = .engine ∧ s.movePos m = some p ∧ s.rgd.table.get p.region = some d ∧
  ∃ sb, d.shadow = some sb ∧
    (m = .copy → src = p.block ∧ dst = sb + (p.block - d.base)) ∧
    (m = .restore → src = sb + (p.block - d.base) ∧ dst = p.block)

/-- Every access now held in this phase and meeting `p` is one that goes straight to the port when it is released: not to
a block whose retire copy is in flight, and not to the marker word. -/
def State.heldIsPlain (s : State) (ph : Phase) (p : Access → Prop) : Prop :=
  ∀ a, s.hbi.access = some a → a.phase = ph → p a → s.retiring a.record.block = false ∧ a.record.marker = false

/-- The frame of the maintenance link takes a command: out of reset, RECEIVING, no command code in it yet (R170). -/
def State.listens (s : State) : Prop := s.inReset = false ∧ s.mli.frame = .receiving ∧ s.mli.code = none

/-- The maintenance link after a command of this code and these operand units was answered with these units (R170, R185). -/
def State.replied (s : State) (code : Nat) (operands response : List Unit16) : Mli :=
  { s.mli with frame := .responding, code := some (unit code), operands := operands, response := response }

/-! ### Validation (R35) -/

/-- The block lies in the spare pool (R26). -/
def Params.inSpares (p : Params) (b : Nat) : Prop := p.spareBase ≤ b ∧ b < p.spareBase + p.spareCount

/-- Descriptor r breaks the condition of R35 that this reason names. -/
def breaksRow (t : Table) (p : Params) (k : Reason) (r : Region) : Prop :=
  ∃ d ∈ t.get r, match k with
    | .windowRange => p.blocks < d.base + d.span
    | .shadowRange => ∃ sb ∈ d.shadow, p.blocks < sb + d.span
    | .windowOverlap => ∃ r' > r, ∃ d' ∈ t.get r', ∃ b, d.inWindow b = true ∧ d'.inWindow b = true
    | .spareOverlap => ∃ b, p.inSpares b ∧ d.inWindow b = true
    | .shadowOverlap => ∃ b, d.inShadow b = true ∧
        (p.inSpares b ∨ ∃ r', ∃ d' ∈ t.get r', d'.inWindow b = true ∨ r' ≠ r ∧ d'.inShadow b = true)
    | _ => False

/-- The condition of R35 that this reason names fails. -/
def failsRow (t : Table) (p : Params) (k : Reason) : Prop :=
  match k with
  | .spareRange => p.spareCount ≠ 0 ∧ p.blocks < p.spareBase + p.spareCount
  | .markerPlace => ¬∃ r, ∃ d ∈ t.get r, d.cls = .work ∧ d.attrs.checkpoint = false ∧ d.attrs.agreed = false ∧
      d.authorised (p.marker / 128) = true
  | k => ∃ r, breaksRow t p k r

/-- The conditions 2 to 8 of R35 in the order they are taken. -/
def tableRows : List Reason :=
  [.windowRange, .shadowRange, .spareRange, .windowOverlap, .spareOverlap, .shadowOverlap, .markerPlace]

/-! ### Passes -/

/-- A block that may be named next to a pass of move `m`, by the sets and states `c`: in the move's set, of a region in flight,
and not the block of a PRIORITY_BLOCK of that move (R88, R105). -/
def State.passCandidate (s : State) (c : Ckc) (m : Move) (r : Region) (b : Nat) : Prop :=
  (∃ d ∈ s.rgd.table.get r, d.authorised b = true) ∧ c.ckState.get r = m.inFlight ∧ b ∈ c.setOf m ∧
  ∀ o ∈ s.txe.priority, o.move = m → o.block ≠ b

/-- Slot `k`, made ACTIVE, goes on from the place it keeps: it is no pass, or a pass with a kept place that it need not discard. -/
def State.goesOn (s : State) (k : EngineKind) : Prop :=
  ∀ m : Move, k = m.passKind → ∃ o p, s.txe.passSlot m = some o ∧ o.pos = some p ∧ o.stale = false

/-- The engine's work but the scrub burst goes on: every slot stays occupied, or EMPTY, with the place it keeps, whether it has begun
or not; a pass that has a block to ask for may ask, and keeps its slot while there is one (R68, R70, R71, R178). -/
def workKept (s t : State) : Prop :=
  t.txe.clear.map ({ · with begun := false }) = s.txe.clear.map ({ · with begun := false }) ∧
  t.txe.priority.map ({ · with begun := false }) = s.txe.priority.map ({ · with begun := false }) ∧
  t.txe.readWord.map ({ · with begun := false }) = s.txe.readWord.map ({ · with begun := false }) ∧
  t.txe.retire.map ({ · with begun := false }) = s.txe.retire.map ({ · with begun := false }) ∧
  ∀ m, (s.txe.passSlot m = none → t.txe.passSlot m = none) ∧
    ((∃ r b, s.passCandidate s.ckc m r b) → s.txe.passSlot m ≠ none → t.txe.passSlot m ≠ none) ∧
    ∀ o p, s.txe.passSlot m = some o → o.pos = some p → o.stale = false →
      ∃ begun, t.txe.passSlot m = some { o with begun := begun }

/-- What becomes of the slots when a block move ends its block: a PRIORITY_BLOCK frees its slot (R72, R73); a pass takes the block
named next, of the lowest-numbered region and first in that region's direction, or ends (R70, R71, R88, R105). -/
def passAnswered (s t : State) (m : Move) : Prop :=
  (s.txe.active = some .priorityBlock → t.txe.priority = none) ∧
  (s.txe.active = some m.passKind →
    ((∀ r b, ¬s.passCandidate t.ckc m r b) → t.txe.passSlot m = none) ∧
    ∀ r b d, s.rgd.table.get r = some d → s.passCandidate t.ckc m r b → (∀ r' < r, ∀ x, ¬s.passCandidate t.ckc m r' x) →
      (∀ x, s.passCandidate t.ckc m r x → match d.dir with
        | .up => b ≤ x
        | .down => x ≤ b) →
      ∃ begun, t.txe.passSlot m = some ⟨some ⟨r, b, 0⟩, false, begun⟩)

/-- The working block of a retire copy: its block, or the one its shadow block corresponds to (R75). -/
def State.retireWorking (s : State) (o : RetireOp) : Nat :=
  match o.part, s.rgd.table.get o.region with
  | .shadow, some d => d.base + (o.block - d.shadow.getD 0)
  | _, _ => o.block

/-- What a verdict that starts the passes of a move makes of the operation table: a pass of that move is requested when a region
entered it, unless its slot is occupied (R87, R103); a retire copy is abandoned exactly when its block, or its working block, is
now in the move's set (R75). -/
def passRequested (s t : State) (m : Move) : Prop :=
  ((∃ r, t.ckc.ckState.get r = m.inFlight) → t.txe.passSlot m ≠ none) ∧
  ((∀ r, t.ckc.ckState.get r ≠ m.inFlight) → s.txe.passSlot m = none → t.txe.passSlot m = none) ∧
  (s.txe.retire = none → t.txe.retire = none) ∧
  ∀ o, s.txe.retire = some o →
    (s.retireWorking o ∈ t.ckc.setOf m → t.txe.retire = none ∧
      (s.txe.active = some .retire → t.txe.fifo = [] ∧ t.txe.fifoMode = .empty)) ∧
    (s.retireWorking o ∉ t.ckc.setOf m → (∃ begun, t.txe.retire = some { o with begun := begun }) ∧
      t.txe.fifo = s.txe.fifo ∧ t.txe.fifoMode = s.txe.fifoMode)

/-- Every region authorises a block, and no two regions one and the same, as in a table that passes validation (R21, R35). -/
def State.tableApart (s : State) : Prop :=
  (∀ r d, s.rgd.table.get r = some d → 1 ≤ d.len) ∧
  ∀ r r' d d' x, s.rgd.table.get r = some d → s.rgd.table.get r' = some d' → d.authorised x = true →
    d'.authorised x = true → r = r'

/-- What a COMMITTED verdict makes of the sets, the checkpoint states and the operation table: the dirty blocks of VALID regions and
all blocks of BROKEN ones go into S, D keeps none of either, their regions are COPYING, and the checkpoint pass is requested (R86,
R87, R75). -/
def copiesStarted (s t : State) : Prop :=
  (∀ x, x ∈ t.ckc.pass ↔ x ∈ s.ckc.pass ∨ ∃ r d, s.rgd.table.get r = some d ∧ d.attrs.checkpoint = true ∧
    d.authorised x = true ∧ (s.ckc.ckState.get r = .valid ∧ x ∈ s.ckc.dirty ∨ s.ckc.ckState.get r = .broken)) ∧
  (∀ x, x ∈ t.ckc.dirty ↔ x ∈ s.ckc.dirty ∧ ¬∃ r d, s.rgd.table.get r = some d ∧ d.attrs.checkpoint = true ∧
    d.authorised x = true ∧ (s.ckc.ckState.get r = .valid ∨ s.ckc.ckState.get r = .broken)) ∧
  t.ckc.restore = s.ckc.restore ∧
  (∀ r d, s.rgd.table.get r = some d → d.attrs.checkpoint = true →
    ((s.ckc.ckState.get r = .valid ∧ ∃ x ∈ s.ckc.dirty, d.authorised x = true) ∨ s.ckc.ckState.get r = .broken) →
    t.ckc.ckState.get r = .copying) ∧
  (∀ r, s.ckc.ckState.get r = .valid →
    (∀ d, s.rgd.table.get r = some d → ∀ x ∈ s.ckc.dirty, d.authorised x = false) → t.ckc.ckState.get r = .valid) ∧
  passRequested s t .copy

/-- What a ROLLED_BACK or FAILED verdict makes of them: the dirty blocks of VALID regions go into R and stay in D, their regions are
RESTORING, a BROKEN region stays BROKEN, and the restore pass is requested (R101 to R103, R75). -/
def restoresStarted (s t : State) : Prop :=
  t.ckc.pass = s.ckc.pass ∧ t.ckc.dirty = s.ckc.dirty ∧
  (∀ x, x ∈ t.ckc.restore ↔ x ∈ s.ckc.restore ∨ ∃ r d, s.rgd.table.get r = some d ∧ d.attrs.checkpoint = true ∧
    d.authorised x = true ∧ s.ckc.ckState.get r = .valid ∧ x ∈ s.ckc.dirty) ∧
  (∀ r d, s.rgd.table.get r = some d → d.attrs.checkpoint = true → s.ckc.ckState.get r = .valid →
    (∃ x ∈ s.ckc.dirty, d.authorised x = true) → t.ckc.ckState.get r = .restoring) ∧
  (∀ r, s.ckc.ckState.get r = .valid →
    (∀ d, s.rgd.table.get r = some d → ∀ x ∈ s.ckc.dirty, d.authorised x = false) → t.ckc.ckState.get r = .valid) ∧
  (∀ r, s.ckc.ckState.get r = .broken → t.ckc.ckState.get r = .broken) ∧
  passRequested s t .restore

/-- The passes a verdict starts (R134 step 3). At every verdict no pass is in flight and no PRIORITY_BLOCK waits, and the table is
valid (CapacitiesKept). -/
def passesStarted (s t : State) (v : Verdict) : Prop :=
  s.passInFlight = false → s.txe.priority = none →
    (v = .committed → s.tableApart → copiesStarted s t) ∧ (v ≠ .committed → restoresStarted s t)

/-- The Fault and Alarm Unit after it took, from `f`, one RESTORE_FAILED for each BROKEN region in ascending entry number, in the
epoch the verdict opens (R102). -/
def State.brokenTaken (s : State) (f : Fau) : Fau :=
  (allRegions.filter fun r => hasAttr (·.checkpoint) s.rgd.table r && s.ckc.ckState.get r == .broken).foldl
    (fun g r => g.take
      { kind := .restoreFailed, also := none, source := .marker, word := some s.mli.params.marker, region := some r
        findings := none, position := none, vital := hasAttr (·.vital) s.rgd.table r, epoch := s.cau.epoch + 1
        cycle := s.cau.cycle }) f

/-- The Cycle and Agreement Unit after a verdict (R134 to R136, R117, R121). -/
def Cau.decided (c : Cau) (v : Verdict) : Cau :=
  { c with
    epoch := c.epoch + 1, cycle := if v = .committed then c.cycle + 1 else c.cycle, lastVerdict := v, digest := 0
    taint := c.carry, carry := TaintSet.empty, slot := none, agreementTimer := none, held := none, localMark := none
    verdictDue := true }

/-- The Fault and Alarm Unit after a verdict that is not COMMITTED, with the fault a FAILED one records (R102, R135, R167). -/
def State.verdictFaults (s : State) (k : Option FaultKind) (r : Region) : Fau :=
  match k with
  | none => s.brokenTaken { s.fau with qualified := false, epochFlag := false }
  | some k => (s.brokenTaken { s.fau with qualified := false, epochFlag := false }).take
      { kind := k, also := none, source := .marker, word := some s.mli.params.marker, region := some r, findings := none
        position := none, vital := true, epoch := s.cau.epoch + 1, cycle := s.cau.cycle }

/-- The load period and the Fault and Alarm Unit after a verdict, with the fault a FAILED one records: a COMMITTED one closes the load
period and qualifies (R24, R102, R135, R167). -/
def verdictSettled (s t : State) (v : Verdict) (k : Option FaultKind) (r : Region) : Prop :=
  (v = .committed → t.rgd = { s.rgd with loadOpen := false } ∧
    t.fau = { s.fau with qualified := !s.fau.epochFlag, epochFlag := false }) ∧
  (v ≠ .committed → t.rgd = s.rgd ∧ t.fau = s.verdictFaults k r)

/-! ### Writes released from a retire copy -/

/-- What becomes of a write held in HELD_RETIRE when it is released, from the faults `f` and the cycle state `c` of that moment: it goes
to the port; to the marker word, a word write is taken as a marker, and a byte write is refused (R44, R45, R118, R119, R124). -/
def writeReleased (s t : State) (c : Cau) (f : Fau) (a : Access) : Prop :=
  (a.record.marker = false →
    t.hbi = { s.hbi with access := some { a with phase := .atPort } } ∧ t.cau = c ∧ t.fau = f) ∧
  (a.record.marker = true →
    (∀ v : Word, a.op = .wordWrite v →
      t.hbi = { s.hbi with access := some { a with phase := .heldMarker } } ∧
      t.cau = { c with
        deadlineTimer := none, marker := .draining
        held := some ⟨if v.toNat / 256 = 195 then .commit else .rollback, BitVec.ofNat 8 (v.toNat % 256)⟩ } ∧
      t.fau = (if v.toNat / 256 = 195 ∨ v.toNat / 256 = 60 then f
        else f.take
          { kind := .markerForm, also := none, source := .marker, word := some a.word, region := some a.record.region
            findings := none, position := none, vital := false, epoch := s.cau.epoch, cycle := s.cau.cycle }) ∧
      t.txe.scrub = none) ∧
    ∀ (l : Lane) (b : BitVec 8), a.op = .byteWrite l b →
      t.hbi = s.ended a .berr ∧ t.cau = c ∧
      t.fau = f.take
        { kind := .markerForm, also := none, source := .procWrite, word := some a.word, region := some a.record.region
          findings := none, position := none, vital := false, epoch := s.cau.epoch, cycle := s.cau.cycle })

/-! ### The retire queue -/

/-- No pass of the region of block b is in flight, and b, or its working block, is in neither S nor R; and no write to b has passed
the retire hold check without being performed (R152). -/
def State.headFree (s : State) (b : Nat) : Prop :=
  (∀ r part d wb, ownerOf s.rgd.table b = some (r, part) → s.rgd.table.get r = some d →
    wb = (match part with
      | .working => b
      | .shadow => d.base + (b - d.shadow.getD 0)) →
    s.ckc.ckState.get r ≠ .copying ∧ s.ckc.ckState.get r ≠ .restoring ∧ wb ∉ s.ckc.pass ∧ wb ∉ s.ckc.restore) ∧
  ∀ a, s.hbi.access = some a → a.record.block = b →
    (a.op.kind = .wordWrite ∨ a.op.kind = .byteWrite ∨ a.op.kind = .locked) →
    a.phase = .heldBlock ∨ a.phase = .heldRetire

/-! ### Groups and commands -/

/-- The commands that make word operations (R59). -/
def isGroup : Instr → Bool
  | .procReadGroup | .procPlainWriteGroup | .procAgreedWriteGroup | .procByteWriteGroup | .lockedReadHalfGroup
  | .lockedWriteHalfGroup | .verdictWordWrite | .copyWordRead | .copyWordWrite | .restoreWordRead | .restoreWordWrite
  | .retireWordRead | .retireWordWrite | .clearWrite | .scrubWordCheck | .diagnosticRead => true
  | _ => false

/-- The command that makes the processor side's group for an access at the port, or for a marker whose verdict is due (R46 to R52,
R136). -/
def Access.group (a : Access) : Option Instr :=
  match a.phase, a.op with
  | .heldMarker, _ => some .verdictWordWrite
  | .atPort, .wordRead | .atPort, .fetch | .atPort, .byteRead _ => some .procReadGroup
  | .atPort, .wordWrite _ => some (if a.record.attrs.agreed then .procAgreedWriteGroup else .procPlainWriteGroup)
  | .atPort, .byteWrite _ _ => some .procByteWriteGroup
  | .atPort, .locked none => some .lockedReadHalfGroup
  | .atPort, .locked (some _) => some .lockedWriteHalfGroup
  | _, _ => none

/-- The command that makes the engine's next group for the ACTIVE kind: of a copy, restore or retire a write while the FIFO drains,
else a read (R69). -/
def State.engineCommand (s : State) : Option Instr :=
  let next (m : Move) := if s.txe.fifoMode = .draining then writeOf m else readOf m
  match s.txe.active with
  | some .clear => some .clearWrite
  | some .priorityBlock => s.txe.priority.map fun o => next o.move
  | some .readWord => some .diagnosticRead
  | some .restorePass => some (next .restore)
  | some .checkpointPass => some (next .copy)
  | some .retire => some (if s.txe.fifoMode = .draining then .retireWordWrite else .retireWordRead)
  | some .scrubBurst => some .scrubWordCheck
  | none => none

/-- The memory, the faults and the remap table of u are those a REINIT finds when the group in hand at s was carried through (R58,
R80, R169). The processor side's group is made as of a withdrawn access. The engine's is made with no access to release: a scrub
word check and the last write of a retire copy report what they find or complete; a word read reports its repair but no failure (a
read that fails flushes the FIFO); nothing else is reported. -/
def State.carried (s u : State) : Prop :=
  match s.mpt.grant with
  | .none => False
  | .processor | .locked => ∃ a g, s.hbi.access = some a ∧ a.group = some g ∧
      exec g { s with hbi := { s.hbi with access := some { a with withdrawn := true } } } = .next u
  | .engine => ∃ g v, s.engineCommand = some g ∧
      exec g { s with hbi := { s.hbi with access := none } } = .next v ∧ u.planeP = v.planeP ∧ u.planeQ = v.planeQ ∧
      match g with
      | .scrubWordCheck | .retireWordWrite => u.fau = v.fau ∧ u.sru.remap = v.sru.remap
      | .copyWordRead | .restoreWordRead | .retireWordRead =>
        u.fau = (if v.txe.fifo = [] then s.fau else v.fau) ∧ u.sru.remap = s.sru.remap
      | _ => u.fau = s.fau ∧ u.sru.remap = s.sru.remap

/-- The blocks of a run of clears, range by range. -/
def clearedBlocks (l : List ClearRange) : List Nat := l.flatMap fun c => List.range' c.lo c.count

/-- A set of flags as one unit, the first in bit 0 (R185). -/
def flagUnit (bs : List Bool) : Unit16 := BitVec.ofNat 16 (bs.foldr (fun b n => b.toNat + 2 * n) 0)

end Sys2Proof.Machine
end

