-- ==== Sys2Proof/Certificates/Slice0/Obligations.lean ====
section
/-! DEFINITION. The statements for the provers. Each says which rules of spec/ it formalises in OBLIGATIONS.json. -/

open Sys2Proof Sys2Proof.Machine

/-! ### The protected word (Chapter 1) -/

/-- R4, R5, R7, R8: the pair (d, code word of d) is CLEAN in every class and epoch, the code word being 65,521 × d + s. -/
def Obligations.CodeWordRoundTrip : Prop :=
  ∀ (withRepair : Bool) (w : Nat) (t : Terms) (e : Count8) (d : Word),
    (encode d (signature w t e)).toNat = 65521 * d.toNat + signature w t e ∧
    (encode d (signature w t e)).toNat ≤ 4293984255 ∧
    checkPair withRepair w t e d (encode d (signature w t e)) =
      { cls := .clean, data := some d, rawP := d, rawQ := encode d (signature w t e), qFinding := .valid
        pFinding := .agrees, distance := none, repair := .none }

/-- R16: what the code detects of damage confined to one plane. -/
def Obligations.DamageInOnePlane : Prop :=
  ∀ (w : Nat) (t : Terms) (e : Count8) (d : Word),
    (∀ p : Word, p ≠ d →
      (checkPair true w t e p (encode d (signature w t e))).cls = .pRepair ∧
      (checkPair true w t e p (encode d (signature w t e))).data = some d ∧
      (checkPair true w t e p (encode d (signature w t e))).qFinding = .valid) ∧
    (∀ i < 32,
      (checkPair true w t e d (encode d (signature w t e) ^^^ BitVec.twoPow 32 i)).qFinding ≠ .valid ∧
      (t.cyclic = false →
        (checkPair true w t e d (encode d (signature w t e) ^^^ BitVec.twoPow 32 i)).cls = .qRepair ∧
        (checkPair true w t e d (encode d (signature w t e) ^^^ BitVec.twoPow 32 i)).data = some d ∧
        (checkPair true w t e d (encode d (signature w t e) ^^^ BitVec.twoPow 32 i)).distance = some 1) ∧
      (t.cyclic = true →
        (checkPair true w t e d (encode d (signature w t e) ^^^ BitVec.twoPow 32 i)).cls = .uncorrectable)) ∧
    (∀ i < 32, ∀ j < 32, i ≠ j →
      (checkPair true w t e d (encode d (signature w t e) ^^^ BitVec.twoPow 32 i ^^^ BitVec.twoPow 32 j)).qFinding ≠
        .valid ∧
      (t.cyclic = false →
        (checkPair true w t e d (encode d (signature w t e) ^^^ BitVec.twoPow 32 i ^^^ BitVec.twoPow 32 j)).cls = .qRepair ∧
        (checkPair true w t e d (encode d (signature w t e) ^^^ BitVec.twoPow 32 i ^^^ BitVec.twoPow 32 j)).data = some d ∧
        (checkPair true w t e d (encode d (signature w t e) ^^^ BitVec.twoPow 32 i ^^^ BitVec.twoPow 32 j)).distance =
          some 2) ∧
      (t.cyclic = true →
        (checkPair true w t e d (encode d (signature w t e) ^^^ BitVec.twoPow 32 i ^^^ BitVec.twoPow 32 j)).cls =
          .uncorrectable))

/-- R8, R19: a word of a CYCLIC region written in epoch `written` and checked in epoch `now` is CLEAN in the same epoch, STALE
in the next one, and UNCORRECTABLE in every other. -/
def Obligations.EpochWheel : Prop :=
  ∀ (withRepair : Bool) (w key : Nat) (d : Word) (written now : Count8),
    (checkPair withRepair w ⟨key, true⟩ now d (encode d (signature w ⟨key, true⟩ written))).cls =
      if now = written then .clean
      else if now = written + 1 then .stale
      else .uncorrectable

/-- R18: two words of one region share a signature exactly when their indices differ by a multiple of 65,521; a read that
reaches another word of the region through one wrong address bit never finds a valid plane Q. -/
def Obligations.WrongLocationIsSeen : Prop :=
  (∀ (w v : Nat) (t : Terms) (e : Count8), signature w t e = signature v t e ↔ w % 65521 = v % 65521) ∧
  (∀ (withRepair : Bool) (w v i : Nat) (t : Terms) (e : Count8) (p d : Word),
    i < 23 → (v = w + 2 ^ i ∨ w = v + 2 ^ i) →
    (checkPair withRepair w t e p (encode d (signature v t e))).qFinding ≠ .valid)

/-! ### The whole machine -/

/-- A step carries out the command at the front of the queue on the state with the queue's rest; with none it idles (the
model's choice, log 4). -/
def Obligations.StepRunsFrontCommand : Prop :=
  (∀ (c : Instr) (rest : List Instr) (s : State), step { s with pending := c :: rest } = exec c { s with pending := rest }) ∧
  (∀ s : State, s.pending = [] → step s = .next s)

/-- A command never touches the queue of waiting commands. The queue is the model's own (log 11, log 34). -/
def Obligations.QueueUntouched : Prop :=
  ∀ (c : Instr) (s t : State), exec c s = .next t → t.pending = s.pending

/-- R1, R58, R59, R66: only a word operation group changes a memory plane, a reset that cuts one short (PowerAndResetCommands), or a
REINIT that carries one through (ControlCommands). No command is refused, and only a group can stop: where its word lies beyond the
memory fitted (the model's choice, log 12), told here of a read. -/
def Obligations.OnlyGroupsTouchMemory : Prop :=
  (∀ (c : Instr) (s t : State), isGroup c = false → c ≠ .powerOn → c ≠ .systemResetAssert → c ≠ .reinit →
    exec c s = .next t →
    t.planeP = s.planeP ∧ t.planeQ = s.planeQ) ∧
  (∀ (c : Instr) (s : State), isGroup c = false → ∃ t, exec c s = .next t) ∧
  (∀ (c : Instr) (s : State) (r : Refusal), exec c s ≠ .refused r) ∧
  (∀ (s : State) (a : Access), s.hbi.access = some a → a.phase = .atPort → s.mpt.grant = .processor →
    a.op.isRead = true → s.memWords ≤ s.physWord a.word → exec .procReadGroup s = .fault .addressBeyondMemory)

/-- Every step keeps both planes in their canonical form, the model's way of holding memory (log 1, log 20). -/
def Obligations.PlanesStayCanonical : Prop :=
  ∀ s t : State, s.canonical → step s = .next t → t.canonical

/-- R166 to R168: every step keeps the vital enable legal. -/
def Obligations.VitalEnableStaysLegal : Prop :=
  ∀ s t : State, s.vitalLegal → step s = .next t → t.vitalLegal

/-- R21, R34, R36, R69, R81, R82, R124, R125, R136, R147, R149, R151, R161, R163, R174, R177, R184: every step keeps the queues,
lists, counters and the FIFO within their sizes; the remap table within R151; the region table, the staged fields and the
parameters in range, and the table valid outside CONFIG; an open receive frame shorter than its length; the sets D, S and R
bound to the checkpoint states; and a marker held, a local MARK kept or a verdict word due only while the current access is the
held marker write. -/
def Obligations.CapacitiesKept : Prop :=
  (∀ s t : State, s.withinCapacity → step s = .next t → t.withinCapacity) ∧
  (∀ s t : State, s.remapSound → step s = .next t → t.remapSound) ∧
  (∀ s t : State, s.tableSound → step s = .next t → t.tableSound) ∧
  (∀ s t : State, s.setsSound → step s = .next t → t.setsSound) ∧
  (∀ s t : State, s.markerSound → step s = .next t → t.markerSound)

/-- The state after reset meets the invariants above. -/
def Obligations.ResetMeetsInvariants : Prop :=
  State.reset.canonical ∧ State.reset.vitalLegal ∧ State.reset.withinCapacity ∧ State.reset.remapSound ∧
  State.reset.tableSound ∧ State.reset.setsSound ∧ State.reset.markerSound

/-- R175, R181: the control state changes only at the events of its table. The clear-done report makes RUN out of INIT, in every
state where, as always, a START clear is made in INIT alone (CapacitiesKept). HRESET is asserted in reset, in CONFIG and in
INIT, and released in RUN and HOLD. -/
def Obligations.ControlStateChanges : Prop :=
  (∀ (c : Instr) (s t : State), exec c s = .next t →
    t.mli.control = s.mli.control ∨
    (c = .start ∧ s.mli.control = .config ∧ t.mli.control = .init) ∨
    (c = .clearWrite ∧ (∃ o, s.txe.clear = some o ∧ o.atStart = true) ∧ t.mli.control = .run ∧
      ((∀ o ∈ s.txe.clear, o.atStart = true → s.mli.control = .init) → s.mli.control = .init)) ∨
    (c = .hold ∧ s.mli.control = .run ∧ t.mli.control = .hold) ∨
    (c = .release ∧ s.mli.control = .hold ∧ t.mli.control = .run) ∨
    (c = .reinit ∧ t.mli.control = .config) ∨
    ((c = .powerOn ∨ c = .systemResetAssert ∨ c = .internalResetEnd) ∧ t.mli.control = .config)) ∧
  ∀ s : State,
    (s.inReset = true ∨ s.mli.control = .config ∨ s.mli.control = .init → s.hreset = true) ∧
    (s.inReset = false → s.mli.control = .run ∨ s.mli.control = .hold → s.hreset = false)

/-- R117, R24: E advances by one at a verdict, and C with it only when the verdict is COMMITTED, which alone closes the load
period; otherwise only REINIT and reset change them: to 0, NONE and open. -/
def Obligations.EpochCountsVerdicts : Prop :=
  ∀ (c : Instr) (s t : State), exec c s = .next t →
    (t.cau.epoch = s.cau.epoch ∧ t.cau.cycle = s.cau.cycle ∧ t.cau.lastVerdict = s.cau.lastVerdict ∧
      t.rgd.loadOpen = s.rgd.loadOpen) ∨
    ((c = .fixLocalKind ∨ c = .agreementTimerExpiry ∨ c = .twinLineIdleTimeout ∨ ∃ us, c = .twinFrameReceived us) ∧
      t.cau.epoch = s.cau.epoch + 1 ∧ t.cau.lastVerdict ≠ .none ∧
      t.cau.cycle = (if t.cau.lastVerdict = .committed then s.cau.cycle + 1 else s.cau.cycle) ∧
      t.rgd.loadOpen = (if t.cau.lastVerdict = .committed then false else s.rgd.loadOpen)) ∨
    ((c = .reinit ∨ c = .powerOn ∨ c = .systemResetAssert ∨ c = .internalResetEnd) ∧
      t.cau.epoch = 0 ∧ t.cau.cycle = 0 ∧ t.cau.lastVerdict = .none ∧ t.rgd.loadOpen = true)

/-- R181: while the part is held in reset every command but the end of the internal reset leaves it as it is. -/
def Obligations.HeldInReset : Prop :=
  ∀ (c : Instr) (p q : Memory) (n : Nat) (rest : List Instr), c ≠ .internalResetEnd →
    exec c (State.powerOnValue true p q n rest) = .next (State.powerOnValue true p q n rest)

/-! ### Power-on and reset (R181) -/

/-- POWER_ON, SYSTEM_RESET_ASSERT and INTERNAL_RESET_END (R181, R1, R66): every block at its power-on value, HRESET asserted, VEN low
and ALM negated while the reset lasts, and CONFIG entered when it ends. Memory is kept, but for a group in hand: that is cut
short before its first write, after its last, or between the two repairs of a scrub word check. That the blocks have their
power-on values while the reset still lasts is the model's choice (log 17), as are the burst limit of an idle port (log 18) and
the count of resets that met a group (log 35). -/
def Obligations.PowerAndResetCommands : Prop :=
  ∀ s : State,
    (∀ c : Instr, c = .powerOn ∨ c = .systemResetAssert →
      ∃ p q n, exec c s = .next (State.powerOnValue true p q n s.pending) ∧
        (s.mpt.grant = .none → p = s.planeP ∧ q = s.planeQ ∧ n = s.cuts) ∧
        (p = s.planeP ∧ q = s.planeQ ∨
          (∃ g u, isGroup g = true ∧ exec g s = .next u ∧ p = u.planeP ∧ q = u.planeQ) ∨
          ∃ k w u, s.engineOn .scrubBurst ∧ s.sru.cursor = some k ∧ w = k.block * 128 + k.offset ∧
            u = s.repair w (s.terms w) (s.check true w (s.terms w)) ∧ p = u.planeP ∧ q = u.planeQ)) ∧
    (s.inReset = true →
      exec .internalResetEnd s = .next (State.powerOnValue false s.planeP s.planeQ s.cuts s.pending)) ∧
    (∀ (r : Bool) (p q : Memory) (n : Nat) (l : List Instr),
      (State.powerOnValue r p q n l).hreset = true ∧ (State.powerOnValue r p q n l).ven = false ∧
      (State.powerOnValue r p q n l).alm = false ∧ (∀ i, (State.powerOnValue r p q n l).transmitLine i = true))

/-- The values of R181 and the rules it gathers, in the state after reset. -/
def Obligations.ResetValues : Prop :=
  State.reset.inReset = false ∧ State.reset.mli.control = .config ∧ State.reset.mli.frame = .idle ∧
  State.reset.mli.params =
    { exponent := 16, spareBase := 0, spareCount := 0, marker := 0, twinMode := .single, burst := 8, scrubInterval := 0
      agreementTimeout := 50, deadline := 0 } ∧
  State.reset.mli.readResult = .none ∧
  (∀ r, State.reset.rgd.table.get r = none) ∧ State.reset.rgd.pointer = 0 ∧ State.reset.rgd.phase = 0 ∧
  State.reset.rgd.loadOpen = true ∧ State.reset.rgd.layoutTag = 0 ∧
  State.reset.hbi.access = none ∧ State.reset.hbi.presented = none ∧ State.reset.cdu.latch = none ∧
  State.reset.mpt.grant = .none ∧ State.reset.mpt.count = 0 ∧ State.reset.txe.active = none ∧
  State.reset.txe.highest = none ∧ State.reset.txe.fifo = [] ∧ State.reset.txe.fifoMode = .empty ∧
  State.reset.ckc.dirty = [] ∧ State.reset.ckc.pass = [] ∧ State.reset.ckc.restore = [] ∧
  (∀ r, State.reset.ckc.ckState.get r = .none) ∧
  State.reset.cau.cycle = 0 ∧ State.reset.cau.epoch = 0 ∧ State.reset.cau.lastVerdict = .none ∧
  State.reset.cau.digest = 0 ∧ State.reset.cau.taint = TaintSet.empty ∧ State.reset.cau.carry = TaintSet.empty ∧
  State.reset.cau.marker = .opened ∧ State.reset.cau.slot = none ∧ State.reset.cau.agreementTimer = none ∧
  State.reset.cau.deadlineTimer = none ∧ State.reset.twl.linkUp = false ∧ State.reset.twl.sending = none ∧
  State.reset.twl.waiting = none ∧ State.reset.twl.idleTimer = true ∧ State.reset.sru.cursor = none ∧
  State.reset.sru.scrubTimer = none ∧ State.reset.sru.history = [] ∧ State.reset.sru.retireQueue = [] ∧
  State.reset.sru.remap = [] ∧ State.reset.fau.queue = [] ∧ (∀ i, State.reset.fau.counters.get i = 0) ∧
  State.reset.fau.pending = AlarmSet.none ∧ State.reset.fau.mask = AlarmSet.all ∧ State.reset.fau.ven = false ∧
  State.reset.fau.latch = false ∧ State.reset.fau.epochFlag = false ∧ State.reset.fau.qualified = false

/-! ### The processor bus (Chapter 3) -/

/-- R41, R52, R53, R55, R56: an access presented waits, its bus cycle without an end; withdrawn before it is taken, it leaves
nothing; a taken one is marked withdrawn and nothing else changes; in LOCKED_OPEN the sequence ends with nothing written and the
LOCKED grant is released. An access presented in LOCKED_OPEN is the write half, or ends the sequence and waits. -/
def Obligations.AccessPresentedAndWithdrawn : Prop :=
  ∀ s : State,
    (∀ c : BusCycle, s.hreset = false → s.hbi.presented = none →
      (s.hbi.access = none ∨ ∃ a, s.hbi.access = some a ∧ a.withdrawn = true ∧ a.phase ≠ .lockedOpen) →
      exec (.accessPresented c) s = .next { s with hbi := { s.hbi with presented := some c, busEnd := none } }) ∧
    (∀ (c : BusCycle) (a : Access), s.hreset = false → s.hbi.presented = none → s.hbi.access = some a →
      a.phase = .lockedOpen →
      (∀ h : WriteHalf, c.lock = true → c.addr.toNat / 2 = a.word →
        c.transfer = (match h with
          | .word d => .wordWrite d
          | .byte l b => .byteWrite l b) →
        exec (.accessPresented c) s =
          .next { s with hbi :=
            { access := some { a with op := .locked (some h), phase := .atPort }, presented := none, busEnd := none } }) ∧
      (¬(c.lock = true ∧ c.addr.toNat / 2 = a.word ∧ c.transfer.isWrite = true) →
        ∃ t, exec (.accessPresented c) s = .next t ∧ t.mpt.grant ≠ .locked ∧
          { t with mpt := s.mpt, txe := s.txe } =
            { s with hbi := { access := none, presented := some c, busEnd := none } })) ∧
    exec .presentedAccessWithdrawn s = .next { s with hbi := { s.hbi with presented := none } } ∧
    (s.hbi.access = none → exec .accessWithdrawn s = .next s) ∧
    (∀ a, s.hbi.access = some a → a.phase ≠ .lockedOpen →
      exec .accessWithdrawn s = .next { s with hbi := { s.hbi with access := some { a with withdrawn := true } } }) ∧
    (∀ a, s.hbi.access = some a → a.phase = .lockedOpen →
      ∃ t, exec .accessWithdrawn s = .next t ∧ t.mpt.grant ≠ .locked ∧
        { t with mpt := s.mpt, txe := s.txe } = { s with hbi := { s.hbi with access := none } })

/-- R52, R53: in LOCKED_OPEN a write to the same word with the lock line asserted is taken as the write half, the port kept; any
other access presented, or the lock line negated, ends the sequence with nothing written and the port released. That LOCK_NEGATED
carries the access presented, where there is one, is the model's choice (log 19). -/
def Obligations.LockedOpenCycles : Prop :=
  ∀ (s : State) (a : Access), s.hbi.access = some a → a.phase = .lockedOpen → s.hreset = false → s.hbi.presented = none →
    (∀ (c : BusCycle) (h : WriteHalf), c.lock = true → c.addr.toNat / 2 = a.word →
      (c.transfer = (match h with
        | .word d => .wordWrite d
        | .byte l b => .byteWrite l b)) →
      exec (.lockedWriteHalfPresented c) s =
        .next { s with hbi :=
          { access := some { a with op := .locked (some h), phase := .atPort }, presented := none, busEnd := none } }) ∧
    (∀ c : BusCycle, ¬(c.lock = true ∧ c.addr.toNat / 2 = a.word ∧ c.transfer.isWrite = true) →
      ∃ t, exec (.lockNegated (some c)) s = .next t ∧ t.mpt.grant ≠ .locked ∧
        { t with mpt := s.mpt, txe := s.txe } =
          { s with hbi := { access := none, presented := some c, busEnd := none } }) ∧
    (∃ t, exec (.lockNegated none) s = .next t ∧ t.mpt.grant ≠ .locked ∧
      { t with mpt := s.mpt, txe := s.txe } = { s with hbi := { s.hbi with access := none } })

/-- R3, R22, R23, R24, R31, R32, R60: the permissions of each class; the blocks of a window, of its authorised end and of its
shadow; the judgement of an access in a table in which no two windows share a block: UNMAPPED outside every window, LENGTH
outside the authorised blocks, with CLASS as also-kind where the class check fails too, CLASS where it alone fails, and else the
decode record; the signature terms of a word by its location; and the physical address of a word. -/
def Obligations.DecodeInOrder : Prop :=
  (∀ (loadOpen : Bool) (k : AccessKind),
    classCheck .closed k loadOpen = false ∧
    classCheck .code k loadOpen =
      (k == .wordRead || k == .byteRead || k == .fetch ||
        (loadOpen && (k == .wordWrite || k == .byteWrite || k == .locked))) ∧
    classCheck .const k loadOpen =
      (k == .wordRead || k == .byteRead || (loadOpen && (k == .wordWrite || k == .byteWrite || k == .locked))) ∧
    classCheck .work k loadOpen = (k != .fetch) ∧ classCheck .cyclic k loadOpen = (k != .fetch)) ∧
  (∀ (d : Descriptor) (b : Nat), 1 ≤ d.len → d.len ≤ d.span →
    (d.inWindow b = true ↔ d.base ≤ b ∧ b ≤ d.base + d.span - 1) ∧
    (d.authorised b = true ↔ match d.dir with
      | .up => d.base ≤ b ∧ b ≤ d.base + d.len - 1
      | .down => d.base + d.span ≤ b + d.len ∧ b ≤ d.base + d.span - 1) ∧
    (d.inShadow b = true ↔ ∃ sb, d.shadow = some sb ∧ sb ≤ b ∧ b ≤ sb + d.span - 1)) ∧
  (∀ (t : Table) (loadOpen : Bool) (marker : Nat) (k : AccessKind) (w : Nat),
    (∀ r r' d d', t.get r = some d → t.get r' = some d' → d.inWindow (w / 128) = true → d'.inWindow (w / 128) = true →
      r = r') →
    ((∀ r d, t.get r = some d → d.inWindow (w / 128) = false) →
      decodeAccess t loadOpen marker k w = .refused .unmapped none none) ∧
    (∀ r d, t.get r = some d → d.inWindow (w / 128) = true →
      (d.authorised (w / 128) = false →
        decodeAccess t loadOpen marker k w =
          .refused .length (if classCheck d.cls k loadOpen then none else some .cls) (some r)) ∧
      (d.authorised (w / 128) = true → classCheck d.cls k loadOpen = false →
        decodeAccess t loadOpen marker k w = .refused .cls none (some r)) ∧
      (d.authorised (w / 128) = true → classCheck d.cls k loadOpen = true →
        decodeAccess t loadOpen marker k w = .permitted
          { region := r, cls := d.cls, key := d.key, attrs := d.attrs, dir := d.dir, block := w / 128, offset := w % 128
            shadow := if d.attrs.checkpoint then d.shadow.map (· + (w / 128 - d.base)) else none
            marker := decide (w = marker) }))) ∧
  (∀ (s : State) (w : Nat),
    (∀ r d, s.rgd.table.get r = some d → d.authorised (w / 128) = true →
      (∀ r' d', s.rgd.table.get r' = some d' → d'.authorised (w / 128) = true → r' = r) →
      s.terms w = { key := d.key, cyclic := d.cls == .cyclic }) ∧
    (∀ r d, s.rgd.table.get r = some d → d.inShadow (w / 128) = true →
      (∀ r' d', s.rgd.table.get r' = some d' →
        d'.authorised (w / 128) = false ∧ (d'.inShadow (w / 128) = true → r' = r)) →
      s.terms w = { key := d.key, cyclic := false }) ∧
    ((∀ r d, s.rgd.table.get r = some d → d.authorised (w / 128) = false ∧ d.inShadow (w / 128) = false) →
      s.terms w = { key := 0, cyclic := false })) ∧
  (∀ (s : State) (w : Nat),
    (∀ e ∈ s.sru.remap, e.live = true → e.block = w / 128 →
      (∀ e' ∈ s.sru.remap, e'.live = true → e'.block = w / 128 → e' = e) →
      s.physWord w = (s.mli.params.spareBase + e.spare) * 128 + w % 128) ∧
    ((∀ e ∈ s.sru.remap, e.live = true → e.block ≠ w / 128) → s.physWord w = w))

/-- R31, R33, R40 to R42, R44: how a bus cycle's lines give its kind, which kinds write, and the source of each; and a refused
access is ended with BERR and its fault recorded, and nothing else changes: no memory operation, no set, no digest, no taint. A
LOCKED sequence to the marker word is refused so, with MARKER_FORM. That a byte read or a fetch with the lock line asserted is
the read half of a LOCKED sequence is the model's choice (log 13). -/
def Obligations.TakeAccessRefused : Prop :=
  (∀ (addr : BitVec 24) (lock : Bool) (l : Lane) (d : Word) (b : BitVec 8),
    cycleOp ⟨addr, .wordRead, lock⟩ = (if lock then .locked none else .wordRead) ∧
    cycleOp ⟨addr, .fetch, lock⟩ = (if lock then .locked none else .fetch) ∧
    cycleOp ⟨addr, .byteRead l, lock⟩ = (if lock then .locked none else .byteRead l) ∧
    cycleOp ⟨addr, .wordWrite d, lock⟩ = .wordWrite d ∧ cycleOp ⟨addr, .byteWrite l b, lock⟩ = .byteWrite l b) ∧
  (∀ k : AccessKind,
    k.source = (if k = .fetch then .procFetch else if k = .wordWrite ∨ k = .byteWrite then .procWrite else .procRead) ∧
    k.writes = decide (k = .wordWrite ∨ k = .byteWrite ∨ k = .locked)) ∧
  (∀ (s : State) (c : BusCycle) (k : FaultKind) (also : Option FaultKind) (r : Option Region),
    s.takes c (.refused k also r) →
    exec .takeAccess s = .next
      { s with
        hbi := { access := none, presented := none, busEnd := some .berr }
        fau := s.fau.take
          { kind := k, also := also, source := (cycleOp c).kind.source, word := some (c.addr.toNat / 2), region := r
            findings := none, position := none, vital := faultVital s.rgd.table k r, epoch := s.cau.epoch
            cycle := s.cau.cycle } }) ∧
  (∀ (s : State) (c : BusCycle) (d : DecodeRecord),
    s.takes c (.permitted d) → d.marker = true → (cycleOp c).kind = .locked →
    exec .takeAccess s = .next
      { s with
        hbi := { access := none, presented := none, busEnd := some .berr }
        fau := s.fau.take
          { kind := .markerForm, also := none, source := .procRead, word := some (c.addr.toNat / 2), region := some d.region
            findings := none, position := none, vital := false, epoch := s.cau.epoch, cycle := s.cau.cycle } })

/-- R40 to R45, R61: a permitted access that no check holds goes to the port, and an idle port is granted to it at once. -/
def Obligations.TakeAccessToPort : Prop :=
  ∀ (s : State) (c : BusCycle) (d : DecodeRecord), s.takes c (.permitted d) →
    (d.attrs.checkpoint = true →
      d.block ∉ s.ckc.restore ∧ (d.block ∈ s.ckc.pass → (cycleOp c).kind.writes = false)) →
    ((cycleOp c).kind.writes = true → s.retiring d.block = false ∧ d.marker = false) →
    ∃ t, exec .takeAccess s = .next t ∧
      t.hbi =
        { access := some { op := cycleOp c, word := c.addr.toNat / 2, record := d, phase := .atPort, withdrawn := false }
          presented := none, busEnd := s.hbi.busEnd } ∧
      { t with hbi := s.hbi, mpt := s.mpt, txe := s.txe } = s ∧
      (s.mpt.grant = .none → s.txe.active = none → s.txe.highest = none →
        t.mpt.grant = (if (cycleOp c).kind = .locked then .locked else .processor))

/-- R43, R44, R90, R91, R108, R109: an access held for its block, with the PRIORITY_BLOCK its block needs; a write held for a
retire copy. -/
def Obligations.TakeAccessHeld : Prop :=
  ∀ (s : State) (c : BusCycle) (d : DecodeRecord), s.takes c (.permitted d) →
    ¬(d.marker = true ∧ (cycleOp c).kind = .locked) →
    (∀ m : Move, d.attrs.checkpoint = true →
      (d.block ∈ s.ckc.restore ∧ m = .restore ∨
        d.block ∉ s.ckc.restore ∧ d.block ∈ s.ckc.pass ∧ (cycleOp c).kind.writes = true ∧ m = .copy) →
      ∃ t, exec .takeAccess s = .next t ∧
        t.hbi =
          { access := some
              { op := cycleOp c, word := c.addr.toNat / 2, record := d, phase := .heldBlock, withdrawn := false }
            presented := none, busEnd := s.hbi.busEnd } ∧
        { t with hbi := s.hbi, mpt := s.mpt, txe := s.txe } = s ∧
        (s.passIsOn m d.block = false → s.txe.priority = none →
          ∃ begun, t.txe.priority = some ⟨m, d.region, d.block, 0, begun⟩) ∧
        (s.passIsOn m d.block = true → t.txe = s.txe)) ∧
    ((d.attrs.checkpoint = true → d.block ∉ s.ckc.restore ∧ d.block ∉ s.ckc.pass) →
      (cycleOp c).kind.writes = true → s.retiring d.block = true →
      ∃ t, exec .takeAccess s = .next t ∧
        t.hbi =
          { access := some
              { op := cycleOp c, word := c.addr.toNat / 2, record := d, phase := .heldRetire, withdrawn := false }
            presented := none, busEnd := s.hbi.busEnd } ∧
        { t with hbi := s.hbi, mpt := s.mpt, txe := s.txe } = s)

/-- R45, R118, R119, R124, R143, R182: a word write to the marker word is held as a marker; a byte write to it is refused. -/
def Obligations.MarkerTaken : Prop :=
  ∀ (s : State) (c : BusCycle) (d : DecodeRecord), s.takes c (.permitted d) → d.marker = true →
    (d.attrs.checkpoint = true → d.block ∉ s.ckc.restore ∧ d.block ∉ s.ckc.pass) → s.retiring d.block = false →
    (∀ v : Word, c.transfer = .wordWrite v →
      ∃ t, exec .takeAccess s = .next t ∧
        t.hbi =
          { access := some
              { op := .wordWrite v, word := c.addr.toNat / 2, record := d, phase := .heldMarker, withdrawn := false }
            presented := none, busEnd := s.hbi.busEnd } ∧
        t.cau = { s.cau with
          deadlineTimer := none, marker := .draining
          held := some ⟨if v.toNat / 256 = 195 then .commit else .rollback, BitVec.ofNat 8 (v.toNat % 256)⟩ } ∧
        t.fau = (if v.toNat / 256 = 195 ∨ v.toNat / 256 = 60 then s.fau
          else s.fau.take
            { kind := .markerForm, also := none, source := .marker, word := some (c.addr.toNat / 2), region := some d.region
              findings := none, position := none, vital := false, epoch := s.cau.epoch, cycle := s.cau.cycle }) ∧
        t.txe.scrub = none ∧
        { t with hbi := s.hbi, cau := s.cau, fau := s.fau, mpt := s.mpt, txe := s.txe } = s) ∧
    (∀ (l : Lane) (b : BitVec 8), c.transfer = .byteWrite l b →
      ∃ t, exec .takeAccess s = .next t ∧
        t.hbi = { access := none, presented := none, busEnd := some .berr } ∧
        t.fau = s.fau.take
          { kind := .markerForm, also := none, source := .procWrite, word := some (c.addr.toNat / 2)
            region := some d.region, findings := none, position := none, vital := false, epoch := s.cau.epoch
            cycle := s.cau.cycle } ∧
        { t with hbi := s.hbi, fau := s.fau, mpt := s.mpt, txe := s.txe } = s)

/-! ### The processor's groups (Chapter 3) -/

/-- R46, R47, R10 to R12: a read checks and repairs its word and is acknowledged with the word, or the lane's byte; a bad word
ends it with BERR, is recorded under its classification and source, marks its block suspect when it is UNCORRECTABLE in a
CHECKPOINT region, and taints the cycle in an AGREED one. -/
def Obligations.ReadGroup : Prop :=
  ∀ (s : State) (a : Access) (rep : CheckReport), s.canonical → s.portFor a .processor → a.op.isRead = true →
    rep = s.check true a.word a.terms →
    (∀ d, rep.data = some d →
      ∃ t, exec .procReadGroup s = .next t ∧ readWell s t a.word a.terms rep d ∧
        t.hbi = s.ended a (match a.op with
          | .byteRead .upper => .ackByte (hiByte d)
          | .byteRead .lower => .ackByte (loByte d)
          | _ => .ackWord d) ∧
        t.cdu.latch = some ⟨rep.cls, some d⟩ ∧ portReleased s t ∧
        { t with planeP := s.planeP, planeQ := s.planeQ, hbi := s.hbi, cdu := s.cdu, fau := s.fau, sru := s.sru
                 mpt := s.mpt, txe := s.txe } = s) ∧
    (rep.data = none →
      ∃ t, exec .procReadGroup s = .next t ∧ t.hbi = s.ended a .berr ∧ t.cdu.latch = some ⟨rep.cls, none⟩ ∧
        t.fau = s.fau.take (s.badWordRecord a (if a.op.kind = .fetch then .procFetch else .procRead) rep) ∧
        t.ckc = s.marked (a.record.attrs.checkpoint && rep.cls == .uncorrectable) a ∧
        t.cau = s.cau.raise
          { unreadableOld := false, suspectBlock := a.record.attrs.checkpoint && rep.cls == .uncorrectable
            hostUncorrectableAgreed := hasAttr (·.agreed) s.rgd.table a.record.region, maint := false } ∧
        portReleased s t ∧
        { t with hbi := s.hbi, cdu := s.cdu, fau := s.fau, ckc := s.ckc, cau := s.cau, mpt := s.mpt, txe := s.txe } = s)

/-- R48, R54, R83: a WORD_WRITE into a region without AGREED is one pair write of the word and its code word, marks its block
dirty in a CHECKPOINT region, and is acknowledged. -/
def Obligations.PlainWriteGroup : Prop :=
  ∀ (s : State) (a : Access) (d : Word), s.canonical → s.portFor a .processor → a.op = .wordWrite d →
    a.record.attrs.agreed = false →
    ∃ t, exec .procPlainWriteGroup s = .next t ∧
      wroteWord s t (s.physWord a.word) d (signature a.word a.terms s.cau.epoch) ∧
      t.hbi = s.ended a .ackWrite ∧ t.ckc = s.marked a.record.attrs.checkpoint a ∧ portReleased s t ∧
      { t with planeP := s.planeP, planeQ := s.planeQ, hbi := s.hbi, ckc := s.ckc, mpt := s.mpt, txe := s.txe } = s

/-- R49, R50, R14: a WORD_WRITE into an AGREED region checks the old word, writes the new one whole, and adds
(2w + 1) × (new − old) to the digest; a bad old word counts as 0, and an UNCORRECTABLE one is recorded and taints. -/
def Obligations.AgreedWriteGroup : Prop :=
  ∀ (s : State) (a : Access) (d : Word) (rep : CheckReport), s.canonical → s.portFor a .processor →
    a.op = .wordWrite d → a.record.attrs.agreed = true → rep = s.check true a.word a.terms →
    ∃ t, exec .procAgreedWriteGroup s = .next t ∧
      wroteWord s t (s.physWord a.word) d (signature a.word a.terms s.cau.epoch) ∧
      t.hbi = s.ended a .ackWrite ∧ t.cdu.latch = some ⟨rep.cls, rep.data⟩ ∧
      t.ckc = s.marked a.record.attrs.checkpoint a ∧ portReleased s t ∧
      (∀ old, rep.data = some old →
        t.cau = { s.cau with
          digest := s.cau.digest + BitVec.ofNat 32 (2 * a.word + 1) * (d.setWidth 32 - old.setWidth 32) } ∧
        t.fau = (s.withRepair a.word rep).fau ∧ t.sru = (s.withRepair a.word rep).sru) ∧
      (rep.data = none →
        t.cau.digest = s.cau.digest + BitVec.ofNat 32 (2 * a.word + 1) * d.setWidth 32 ∧ t.sru = s.sru ∧
        (rep.cls = .stale → t.fau = s.fau ∧ { t.cau with digest := s.cau.digest } = s.cau) ∧
        (rep.cls = .uncorrectable →
          t.fau = s.fau.take (s.badWordRecord a .procWrite rep) ∧
          { t.cau with digest := s.cau.digest } = s.cau.raise
            { unreadableOld := hasAttr (·.agreed) s.rgd.table a.record.region
              suspectBlock := a.record.attrs.checkpoint, hostUncorrectableAgreed := false, maint := false })) ∧
      { t with planeP := s.planeP, planeQ := s.planeQ, hbi := s.hbi, cdu := s.cdu, ckc := s.ckc, cau := s.cau, fau := s.fau
               sru := s.sru, mpt := s.mpt, txe := s.txe } = s

/-- R51, R13, R14: a BYTE_WRITE merges its byte into the checked old word and writes the whole word, with the digest term in an
AGREED region; a bad old word ends it with BERR, nothing written, a fault recorded. -/
def Obligations.ByteWriteGroup : Prop :=
  ∀ (s : State) (a : Access) (l : Lane) (b : BitVec 8) (rep : CheckReport), s.canonical → s.portFor a .processor →
    a.op = .byteWrite l b → rep = s.check true a.word a.terms →
    (∀ old new : Word, rep.data = some old →
      new.toNat = (match l with
        | .upper => 256 * b.toNat + old.toNat % 256
        | .lower => 256 * (old.toNat / 256) + b.toNat) →
      ∃ t, exec .procByteWriteGroup s = .next t ∧
        wroteWord s t (s.physWord a.word) new (signature a.word a.terms s.cau.epoch) ∧
        t.hbi = s.ended a .ackWrite ∧ t.cdu.latch = some ⟨rep.cls, some old⟩ ∧
        t.ckc = s.marked a.record.attrs.checkpoint a ∧
        t.cau = { s.cau with digest := if a.record.attrs.agreed
          then s.cau.digest + BitVec.ofNat 32 (2 * a.word + 1) * (new.setWidth 32 - old.setWidth 32)
          else s.cau.digest } ∧
        t.fau = (s.withRepair a.word rep).fau ∧ t.sru = (s.withRepair a.word rep).sru ∧ portReleased s t ∧
        { t with planeP := s.planeP, planeQ := s.planeQ, hbi := s.hbi, cdu := s.cdu, ckc := s.ckc, cau := s.cau
                 fau := s.fau, sru := s.sru, mpt := s.mpt, txe := s.txe } = s) ∧
    (rep.data = none →
      ∃ t, exec .procByteWriteGroup s = .next t ∧ t.hbi = s.ended a .berr ∧ t.cdu.latch = some ⟨rep.cls, none⟩ ∧
        t.fau = s.fau.take (s.badWordRecord a .procWrite rep) ∧
        t.ckc = s.marked (a.record.attrs.checkpoint && rep.cls == .uncorrectable) a ∧
        t.cau = s.cau.raise
          { unreadableOld := false, suspectBlock := a.record.attrs.checkpoint && rep.cls == .uncorrectable
            hostUncorrectableAgreed := hasAttr (·.agreed) s.rgd.table a.record.region, maint := false } ∧
        portReleased s t ∧
        { t with hbi := s.hbi, cdu := s.cdu, fau := s.fau, ckc := s.ckc, cau := s.cau, mpt := s.mpt, txe := s.txe } = s)

/-- R52, R55, R65: the read half of a LOCKED sequence is acknowledged with the word and keeps the port in LOCKED_OPEN; one that
was withdrawn ends there, nothing written and the port released; a bad word ends it with BERR as for a read. -/
def Obligations.LockedReadHalf : Prop :=
  ∀ (s : State) (a : Access) (rep : CheckReport), s.canonical → s.portFor a .locked → a.op = .locked none →
    rep = s.check true a.word a.terms →
    (∀ d, rep.data = some d →
      ∃ t, exec .lockedReadHalfGroup s = .next t ∧ readWell s t a.word a.terms rep d ∧
        t.cdu.latch = some ⟨rep.cls, some d⟩ ∧
        (a.withdrawn = false →
          t.hbi = { access := some { a with phase := .lockedOpen }, presented := s.hbi.presented
                    busEnd := some (.ackWord d) } ∧ t.mpt = s.mpt ∧ t.txe = s.txe) ∧
        (a.withdrawn = true →
          t.hbi = { access := none, presented := s.hbi.presented, busEnd := s.hbi.busEnd } ∧ portReleased s t) ∧
        { t with planeP := s.planeP, planeQ := s.planeQ, hbi := s.hbi, cdu := s.cdu, fau := s.fau, sru := s.sru
                 mpt := s.mpt, txe := s.txe } = s) ∧
    (rep.data = none →
      ∃ t, exec .lockedReadHalfGroup s = .next t ∧ t.hbi = s.ended a .berr ∧ t.cdu.latch = some ⟨rep.cls, none⟩ ∧
        t.fau = s.fau.take (s.badWordRecord a .procRead rep) ∧
        t.ckc = s.marked (a.record.attrs.checkpoint && rep.cls == .uncorrectable) a ∧
        t.cau = s.cau.raise
          { unreadableOld := false, suspectBlock := a.record.attrs.checkpoint && rep.cls == .uncorrectable
            hostUncorrectableAgreed := hasAttr (·.agreed) s.rgd.table a.record.region, maint := false } ∧
        portReleased s t ∧
        { t with hbi := s.hbi, cdu := s.cdu, fau := s.fau, ckc := s.ckc, cau := s.cau, mpt := s.mpt, txe := s.txe } = s)

/-- R52, R13, R54, R65: the write half writes its word, or its byte merged into the checked data the coding latch holds, against
that data as old value for the digest, without a second read, and releases the port. -/
def Obligations.LockedWriteHalf : Prop :=
  ∀ (s : State) (a : Access) (h : WriteHalf) (cls : Classification) (old new : Word), s.canonical → s.portFor a .locked →
    a.op = .locked (some h) → s.cdu.latch = some ⟨cls, some old⟩ →
    new.toNat = (match h with
      | .word d => d.toNat
      | .byte .upper b => 256 * b.toNat + old.toNat % 256
      | .byte .lower b => 256 * (old.toNat / 256) + b.toNat) →
    ∃ t, exec .lockedWriteHalfGroup s = .next t ∧
      wroteWord s t (s.physWord a.word) new (signature a.word a.terms s.cau.epoch) ∧
      t.hbi = s.ended a .ackWrite ∧ t.ckc = s.marked a.record.attrs.checkpoint a ∧
      t.cau = { s.cau with digest := if a.record.attrs.agreed
        then s.cau.digest + BitVec.ofNat 32 (2 * a.word + 1) * (new.setWidth 32 - old.setWidth 32)
        else s.cau.digest } ∧ portReleased s t ∧
      { t with planeP := s.planeP, planeQ := s.planeQ, hbi := s.hbi, ckc := s.ckc, cau := s.cau, mpt := s.mpt
               txe := s.txe } = s

/-! ### Repairs and the dirty map -/

/-- R11, R147 to R149, R163: a repair reported adds one to its plane's counter; a word not in the history goes to its front, and
the oldest of eight leaves; a word in it leaves it, and its block is queued for retirement, or RETIRE_QUEUE_FULL recorded. -/
def Obligations.RepairReported : Prop :=
  ∀ (s : State) (w : Nat) (pl : Plane), (∀ i, s.fau.counters.get i ≤ 65535) →
    (s.reportRepair w pl).fau.counters.get (match pl with
      | .p => 20
      | .q => 21) = min 65535 (s.fau.counters.get (match pl with
        | .p => 20
        | .q => 21) + 1) ∧
    ((∀ e ∈ s.sru.history, e.word ≠ w) →
      (s.reportRepair w pl).sru = { s.sru with history := (⟨w, pl⟩ :: s.sru.history).take 8 } ∧
      (s.reportRepair w pl).fau.queue = s.fau.queue) ∧
    ((∃ e ∈ s.sru.history, e.word = w) →
      (s.reportRepair w pl).sru.history = s.sru.history.filter (fun e => decide (e.word ≠ w)) ∧
      (w / 128 ∈ s.sru.retireQueue → (s.reportRepair w pl).sru.retireQueue = s.sru.retireQueue) ∧
      (w / 128 ∉ s.sru.retireQueue → s.sru.retireQueue.length < 4 →
        (s.reportRepair w pl).sru.retireQueue = s.sru.retireQueue ++ [w / 128]) ∧
      (w / 128 ∉ s.sru.retireQueue → s.sru.retireQueue.length = 4 → s.fau.queue.length < 16 →
        (s.reportRepair w pl).sru.retireQueue = s.sru.retireQueue ∧
        ∃ r, (s.reportRepair w pl).fau.queue = s.fau.queue ++ [r] ∧ r.kind = .retireQueueFull ∧
          r.source = .engineRetire ∧ r.word = some w ∧ r.vital = false))

/-- R81, R83, R84: a block marked dirty joins D exactly when it is an authorised block of a CHECKPOINT region whose state is not
NONE; any other block is refused. -/
def Obligations.DirtyMapMarked : Prop :=
  (∀ (s : State) (b : Nat) (r : Region) (d : Descriptor),
    s.rgd.table.get r = some d → d.attrs.checkpoint = true → d.authorised b = true →
    (∀ r' d', s.rgd.table.get r' = some d' → d'.attrs.checkpoint = true → d'.authorised b = true → r' = r) →
    (s.ckc.ckState.get r = .none → s.addDirty b = s) ∧
    (s.ckc.ckState.get r ≠ .none →
      (∀ x, x ∈ (s.addDirty b).ckc.dirty ↔ x = b ∨ x ∈ s.ckc.dirty) ∧
      { s.addDirty b with ckc := { (s.addDirty b).ckc with dirty := s.ckc.dirty } } = s)) ∧
  (∀ (s : State) (b : Nat),
    (∀ r d, s.rgd.table.get r = some d → d.attrs.checkpoint = true → d.authorised b = false) → s.addDirty b = s)

/-! ### The Transfer Engine (Chapters 4 to 6) -/

/-- R70, R71, R69, R62: a block move reads its next word with check and repair, in COPY from the working block and in RESTORE
from the shadow, and puts the checked data in the FIFO with its offset and the epoch in force; 32 entries make it drain. -/
def Obligations.BlockMoveReads : Prop :=
  ∀ (s : State) (m : Move) (p : PassPos) (d : Descriptor) (src dst : Nat) (rep : CheckReport) (data : Word),
    s.canonical → s.moves m p d src dst → s.txe.fifoMode ≠ .draining →
    s.physWord (src * 128 + p.offset) < s.memWords →
    rep = s.check true (src * 128 + p.offset) (s.terms (src * 128 + p.offset)) → rep.data = some data →
    ∃ t, exec (readOf m) s = .next t ∧
      readWell s t (src * 128 + p.offset) (s.terms (src * 128 + p.offset)) rep data ∧
      t.txe.fifo = s.txe.fifo ++ [⟨data, p.offset, s.cau.epoch⟩] ∧
      t.txe.fifoMode = (if s.txe.fifo.length + 1 < 32 then .filling else .draining) ∧
      t.movePos m = some { p with offset := p.offset + 1 } ∧ t.mpt = s.afterGroup ∧
      { t.txe with fifo := s.txe.fifo, fifoMode := s.txe.fifoMode, priority := s.txe.priority
                   checkpointPass := s.txe.checkpointPass, restorePass := s.txe.restorePass } = s.txe ∧
      { t with planeP := s.planeP, planeQ := s.planeQ, fau := s.fau, sru := s.sru, mpt := s.mpt, txe := s.txe } = s

/-- R62, R68 to R71, R95: a draining FIFO's oldest entry is written under the target's signature in the epoch in force; the last
entry of a chunk that does not end the block leaves the FIFO EMPTY and every slot at its place, and is a selection point: the
highest-ranked occupied slot becomes ACTIVE and the burst goes on, told here where it is no pass that must ask for a block; the
pass in hand, where its place is one to discard, asks for its next block. -/
def Obligations.BlockMoveWrites : Prop :=
  ∀ (s : State) (m : Move) (p : PassPos) (d : Descriptor) (src dst : Nat) (e : FifoEntry) (rest : List FifoEntry),
    s.canonical → s.moves m p d src dst → s.txe.fifoMode = .draining → s.txe.fifo = e :: rest →
    s.physWord (dst * 128 + e.offset) < s.memWords →
    (rest ≠ [] →
      ∃ t, exec (writeOf m) s = .next t ∧
        wroteWord s t (s.physWord (dst * 128 + e.offset)) e.data
          (signature (dst * 128 + e.offset) (s.terms (dst * 128 + e.offset)) s.cau.epoch) ∧
        t.txe = { s.txe with fifo := rest } ∧ t.mpt = s.afterGroup ∧
        { t with planeP := s.planeP, planeQ := s.planeQ, mpt := s.mpt, txe := s.txe } = s) ∧
    (rest = [] → p.offset < 128 →
      ∃ t, exec (writeOf m) s = .next t ∧
        wroteWord s t (s.physWord (dst * 128 + e.offset)) e.data
          (signature (dst * 128 + e.offset) (s.terms (dst * 128 + e.offset)) s.cau.epoch) ∧
        t.txe.fifo = [] ∧ t.txe.fifoMode = .empty ∧ workKept s t ∧
        t.txe.scrub.map (·.left) = s.txe.scrub.map (·.left) ∧
        (∀ k, s.txe.highest = some k → s.goesOn k → t.txe.active = some k ∧ t.mpt = s.afterGroup) ∧
        (s.txe.active = some m.passKind → s.txe.highest = some m.passKind → ¬s.goesOn m.passKind →
          (s.ckc.setOf m).Pairwise (· < ·) → passAnswered s t m) ∧
        { t with planeP := s.planeP, planeQ := s.planeQ, mpt := s.mpt, txe := s.txe } = s)

/-- R70 to R72, R88, R89, R92, R105, R106, R110: the last write of a block's fourth chunk reports the block moved: copied, it leaves
S; restored, it leaves R and D together; the region of the last block becomes VALID; an access held for the block goes on; the FIFO
is EMPTY, a PRIORITY_BLOCK frees its slot, and a pass takes the block named next or ends. -/
def Obligations.BlockMoved : Prop :=
  ∀ (s : State) (m : Move) (p : PassPos) (d : Descriptor) (src dst : Nat) (e : FifoEntry),
    s.canonical → s.moves m p d src dst → s.txe.fifoMode = .draining → s.txe.fifo = [e] → p.offset = 128 →
    s.physWord (dst * 128 + e.offset) < s.memWords → s.ckc.ckState.get p.region = m.inFlight → p.block ∈ s.ckc.setOf m →
    s.heldIsPlain .heldBlock (fun a => a.record.block = p.block) →
    ∃ t, exec (writeOf m) s = .next t ∧
      wroteWord s t (s.physWord (dst * 128 + e.offset)) e.data
        (signature (dst * 128 + e.offset) (s.terms (dst * 128 + e.offset)) s.cau.epoch) ∧
      (∀ x, x ∈ t.ckc.pass ↔ x ∈ s.ckc.pass ∧ (m = .copy → x ≠ p.block)) ∧
      (∀ x, x ∈ t.ckc.restore ↔ x ∈ s.ckc.restore ∧ (m = .restore → x ≠ p.block)) ∧
      (∀ x, x ∈ t.ckc.dirty ↔ x ∈ s.ckc.dirty ∧ (m = .restore → x ≠ p.block)) ∧
      ((∀ x ∈ s.ckc.setOf m, d.authorised x = true → x = p.block) →
        t.ckc.ckState = s.ckc.ckState.set p.region .valid) ∧
      ((∃ x ∈ s.ckc.setOf m, d.authorised x = true ∧ x ≠ p.block) → t.ckc.ckState = s.ckc.ckState) ∧
      (∀ a, s.hbi.access = some a → a.phase = .heldBlock → a.record.block = p.block →
        t.hbi = { s.hbi with access := some { a with phase := .atPort } }) ∧
      ((∀ a, s.hbi.access = some a → a.phase = .heldBlock → a.record.block ≠ p.block) → t.hbi = s.hbi) ∧
      t.txe.fifo = [] ∧ t.txe.fifoMode = .empty ∧
      ((s.ckc.setOf m).Pairwise (· < ·) → passAnswered s t m) ∧
      { t with planeP := s.planeP, planeQ := s.planeQ, hbi := s.hbi, ckc := s.ckc, mpt := s.mpt, txe := s.txe } = s

/-- R70 to R73, R88, R93, R94, R105, R111, R112: a word of a block move that cannot be read flushes the FIFO, breaks the region, and
is recorded: a copy failure returns the region's blocks of S to D with the failing block; a restore failure leaves D as it is. A
PRIORITY_BLOCK ends; a pass takes the block named next or ends. -/
def Obligations.BlockMoveFails : Prop :=
  ∀ (s : State) (m : Move) (p : PassPos) (d : Descriptor) (src dst : Nat) (rep : CheckReport),
    s.moves m p d src dst → s.txe.fifoMode ≠ .draining → s.physWord (src * 128 + p.offset) < s.memWords →
    rep = s.check true (src * 128 + p.offset) (s.terms (src * 128 + p.offset)) → rep.data = none →
    s.ckc.ckState.get p.region = m.inFlight → d.attrs.checkpoint = true → d.authorised p.block = true →
    (∀ r' d', s.rgd.table.get r' = some d' → d'.attrs.checkpoint = true → d'.authorised p.block = true → r' = p.region) →
    s.heldIsPlain .heldBlock (fun a => a.record.region = p.region) →
    ∃ t, exec (readOf m) s = .next t ∧ t.txe.fifo = [] ∧ t.txe.fifoMode = .empty ∧
      ((s.ckc.setOf m).Pairwise (· < ·) → passAnswered s t m) ∧
      t.ckc.ckState = s.ckc.ckState.set p.region .broken ∧
      (∀ x, x ∈ t.ckc.pass ↔ x ∈ s.ckc.pass ∧ (m = .copy → d.authorised x = false)) ∧
      (∀ x, x ∈ t.ckc.restore ↔ x ∈ s.ckc.restore ∧ (m = .restore → d.authorised x = false)) ∧
      (∀ x, x ∈ t.ckc.dirty ↔ x ∈ s.ckc.dirty ∨
        m = .copy ∧ (x = p.block ∨ x ∈ s.ckc.pass ∧ d.authorised x = true)) ∧
      t.fau = s.fau.take
        { kind := (match m with
            | .copy => .checkpointFailed
            | .restore => .restoreFailed)
          also := some .uncorrectable
          source := (match m with
            | .copy => .engineCheckpoint
            | .restore => .engineRestore)
          word := some (src * 128 + p.offset), region := some p.region
          findings := some ⟨rep.qFinding, rep.pFinding, rep.distance⟩
          position := some ⟨p.region, (match m with
            | .copy => .working
            | .restore => .shadow), src, p.offset⟩
          vital := decide (m = .restore) && d.attrs.vital, epoch := s.cau.epoch, cycle := s.cau.cycle } ∧
      t.cau = s.cau.raise { TaintSet.empty with suspectBlock := decide (m = .copy) } ∧
      (∀ a, s.hbi.access = some a → a.phase = .heldBlock → a.record.region = p.region →
        t.hbi = { s.hbi with access := some { a with phase := .atPort } }) ∧
      ((∀ a, s.hbi.access = some a → a.phase = .heldBlock → a.record.region ≠ p.region) → t.hbi = s.hbi) ∧
      { t with hbi := s.hbi, cau := s.cau, fau := s.fau, ckc := s.ckc, mpt := s.mpt, txe := s.txe } = s

/-- R74, R68, R69, R62: a retire copy reads its block's words as a block move does, and writes each to the target spare under
the logical word's signature in the epoch its read was made in; the last write of a chunk that does not end the block leaves the
FIFO EMPTY and every slot at its place, and is a selection point: the highest-ranked occupied slot becomes ACTIVE and the burst
goes on, told here where it is no pass that must ask for a block. -/
def Obligations.RetireCopies : Prop :=
  (∀ (s : State) (o : RetireOp) (rep : CheckReport) (data : Word),
    s.canonical → s.engineOn .retire → s.txe.retire = some o → s.txe.fifoMode ≠ .draining →
    s.physWord (o.block * 128 + o.offset) < s.memWords →
    rep = s.check true (o.block * 128 + o.offset) (s.terms (o.block * 128 + o.offset)) → rep.data = some data →
    ∃ t, exec .retireWordRead s = .next t ∧
      readWell s t (o.block * 128 + o.offset) (s.terms (o.block * 128 + o.offset)) rep data ∧
      t.txe = { s.txe with
        fifo := s.txe.fifo ++ [⟨data, o.offset, s.cau.epoch⟩]
        fifoMode := if s.txe.fifo.length + 1 < 32 then .filling else .draining
        retire := some { o with offset := o.offset + 1 } } ∧
      t.mpt = s.afterGroup ∧
      { t with planeP := s.planeP, planeQ := s.planeQ, fau := s.fau, sru := s.sru, mpt := s.mpt, txe := s.txe } = s) ∧
  (∀ (s : State) (o : RetireOp) (e : FifoEntry) (rest : List FifoEntry),
    s.canonical → s.engineOn .retire → s.txe.retire = some o → s.txe.fifoMode = .draining → s.txe.fifo = e :: rest →
    rest ≠ [] → (s.mli.params.spareBase + o.spare) * 128 + e.offset < s.memWords →
    ∃ t, exec .retireWordWrite s = .next t ∧
      wroteWord s t ((s.mli.params.spareBase + o.spare) * 128 + e.offset) e.data
        (signature (o.block * 128 + e.offset) (s.terms (o.block * 128 + e.offset)) e.epoch) ∧
      t.txe = { s.txe with fifo := rest } ∧ t.mpt = s.afterGroup ∧
      { t with planeP := s.planeP, planeQ := s.planeQ, mpt := s.mpt, txe := s.txe } = s) ∧
  (∀ (s : State) (o : RetireOp) (e : FifoEntry),
    s.canonical → s.engineOn .retire → s.txe.retire = some o → s.txe.fifoMode = .draining → s.txe.fifo = [e] →
    o.offset < 128 → (s.mli.params.spareBase + o.spare) * 128 + e.offset < s.memWords →
    ∃ t, exec .retireWordWrite s = .next t ∧
      wroteWord s t ((s.mli.params.spareBase + o.spare) * 128 + e.offset) e.data
        (signature (o.block * 128 + e.offset) (s.terms (o.block * 128 + e.offset)) e.epoch) ∧
      t.txe.fifo = [] ∧ t.txe.fifoMode = .empty ∧ (∃ begun, t.txe.retire = some { o with begun := begun }) ∧
      workKept s t ∧ t.txe.scrub.map (·.left) = s.txe.scrub.map (·.left) ∧
      (∀ k, s.txe.highest = some k → s.goesOn k → t.txe.active = some k ∧ t.mpt = s.afterGroup) ∧
      { t with planeP := s.planeP, planeQ := s.planeQ, mpt := s.mpt, txe := s.txe } = s)

/-- R155, R44, R118, R119, R124: the last write of a retire copy installs the spare: the block's LIVE entry becomes DEAD, a new LIVE one
ends the remap table, the block's repairs leave the history, the queue's head is taken off, RETIRED is pending, and a held write
goes on: to the port, or, to the marker word, taken as a marker or refused. The block is at the spare from here on, and no spare
named in the table is chosen again. -/
def Obligations.RetireCompletes : Prop :=
  ∀ (s : State) (o : RetireOp) (e : FifoEntry) (f : Fau),
    s.canonical → s.engineOn .retire → s.txe.retire = some o → s.txe.fifoMode = .draining → s.txe.fifo = [e] →
    o.offset = 128 → (s.mli.params.spareBase + o.spare) * 128 + e.offset < s.memWords →
    f = { s.fau with pending := { s.fau.pending with retired := true } } →
    ∃ t, exec .retireWordWrite s = .next t ∧
      wroteWord s t ((s.mli.params.spareBase + o.spare) * 128 + e.offset) e.data
        (signature (o.block * 128 + e.offset) (s.terms (o.block * 128 + e.offset)) e.epoch) ∧
      t.sru = { s.sru with
        remap := s.sru.remap.map (fun r => if r.live = true ∧ r.block = o.block then { r with live := false } else r) ++
          [⟨o.block, o.spare, true⟩]
        history := s.sru.history.filter fun h => decide (h.word / 128 ≠ o.block)
        retireQueue := if s.sru.retireQueue.head? = some o.block then s.sru.retireQueue.tail else s.sru.retireQueue } ∧
      t.physBlock o.block = s.mli.params.spareBase + o.spare ∧ (∀ r ∈ t.sru.remap, t.freeSpare ≠ some r.spare) ∧
      t.txe.retire = none ∧ t.txe.fifo = [] ∧ t.txe.fifoMode = .empty ∧
      (∀ a, s.hbi.access = some a → a.phase = .heldRetire → a.record.block = o.block → writeReleased s t s.cau f a) ∧
      ((∀ a, s.hbi.access = some a → a.phase = .heldRetire → a.record.block ≠ o.block) →
        t.hbi = s.hbi ∧ t.cau = s.cau ∧ t.fau = f) ∧
      { t with planeP := s.planeP, planeQ := s.planeQ, hbi := s.hbi, cau := s.cau, fau := s.fau, sru := s.sru
               mpt := s.mpt, txe := s.txe } = s

/-- R74, R85, R95, R104, R113, R156, R44, R118, R119, R124: a retire copy that cannot read a word ends: RETIRE_FAILED is
recorded with the classification as also-kind, a working block of a CHECKPOINT region is suspect, also while its region is
COPYING or RESTORING; a shadow's region breaks: VALID, or out of a pass, its blocks of S going back to D and its blocks of R
staying there; the remap table and the block stay as they are, and a write held for the copy goes on, to the port or, to the
marker word, taken as a marker or refused, as does an access held for a block of the broken pass, which is never the marker word
(R35). A mark that meets a verdict at hand taints the epoch the verdict closes, as every reason raised before the fixing (R121),
and the one it opens (R104; the two together: log 41). -/
def Obligations.RetireFails : Prop :=
  (∀ s : State, s.verdictAtHand = true ↔
    s.cau.marker = .draining ∧ s.cau.held ≠ none ∧ s.cau.localMark = none ∧ s.passInFlight = false ∧
      (s.mli.params.twinMode = .single ∨ s.twl.linkUp = false ∨ s.cau.slot ≠ none)) ∧
  ∀ (s : State) (o : RetireOp) (rep : CheckReport) (x : CkState) (c : Cau) (f : Fau),
    s.engineOn .retire → s.txe.retire = some o → s.txe.fifoMode ≠ .draining →
    s.physWord (o.block * 128 + o.offset) < s.memWords →
    rep = s.check true (o.block * 128 + o.offset) (s.terms (o.block * 128 + o.offset)) → rep.data = none →
    x = s.ckc.ckState.get o.region →
    (∀ a, s.hbi.access = some a → a.phase = .heldBlock → a.record.region = o.region → a.record.marker = false) →
    c = (match o.part with
      | .working =>
        if s.verdictAtHand = true then
          { s.cau with
            taint := { s.cau.taint with suspectBlock := s.cau.taint.suspectBlock || checkpointed s.rgd.table o.block }
            carry := { s.cau.carry with suspectBlock := s.cau.carry.suspectBlock || checkpointed s.rgd.table o.block } }
        else s.cau.raise { TaintSet.empty with suspectBlock := checkpointed s.rgd.table o.block }
      | .shadow => s.cau) →
    f = s.fau.take
      { kind := .retireFailed, also := some (if rep.cls = .stale then .stale else .uncorrectable)
        source := .engineRetire, word := some (o.block * 128 + o.offset), region := some o.region
        findings := some ⟨rep.qFinding, rep.pFinding, rep.distance⟩
        position := some ⟨o.region, o.part, o.block, o.offset⟩, vital := false, epoch := s.cau.epoch
        cycle := s.cau.cycle } →
    ∃ t, exec .retireWordRead s = .next t ∧ t.txe.retire = none ∧ t.txe.fifo = [] ∧ t.txe.fifoMode = .empty ∧
      t.sru = { s.sru with
        retireQueue := if s.sru.retireQueue.head? = some o.block then s.sru.retireQueue.tail else s.sru.retireQueue } ∧
      (o.part = .working →
        t.ckc = (if checkpointed s.rgd.table o.block then (s.addDirty o.block).ckc else s.ckc)) ∧
      (o.part = .shadow →
        t.ckc.ckState = (if x = .valid ∨ x = .copying ∨ x = .restoring then s.ckc.ckState.set o.region .broken
          else s.ckc.ckState) ∧
        ∀ d, s.rgd.table.get o.region = some d → ∀ b,
          (b ∈ t.ckc.pass ↔ b ∈ s.ckc.pass ∧ (x = .copying → d.authorised b = false)) ∧
          (b ∈ t.ckc.restore ↔ b ∈ s.ckc.restore ∧ (x = .restoring → d.authorised b = false)) ∧
          (b ∈ t.ckc.dirty ↔ b ∈ s.ckc.dirty ∨ x = .copying ∧ b ∈ s.ckc.pass ∧ d.authorised b = true)) ∧
      (∀ a, s.hbi.access = some a → a.phase = .heldRetire → a.record.block = o.block → writeReleased s t c f a) ∧
      (∀ a, s.hbi.access = some a → ¬(a.phase = .heldRetire ∧ a.record.block = o.block) →
        t.cau = c ∧ t.fau = f ∧
        t.hbi = (if a.phase = .heldBlock ∧ a.record.region = o.region ∧ o.part = .shadow ∧
            (x = .copying ∨ x = .restoring) then { s.hbi with access := some { a with phase := .atPort } }
          else s.hbi)) ∧
      (s.hbi.access = none → t.hbi = s.hbi ∧ t.cau = c ∧ t.fau = f) ∧
      { t with hbi := s.hbi, cau := s.cau, fau := s.fau, ckc := s.ckc, sru := s.sru, mpt := s.mpt, txe := s.txe } = s

/-- R78, R79, R177: a clear writes coded zero word by word, block by block in direction order, range by range; after the last
word of the START clear the CHECKPOINT regions are VALID with D, S and R empty, START_DONE is pending, and RUN is entered. -/
def Obligations.ClearWrites : Prop :=
  ∀ (s : State) (o : ClearOp) (c : ClearRange) (cs : List ClearRange) (b w : Nat),
    s.canonical → s.engineOn .clear → s.txe.clear = some o → o.begun = true → o.ranges = c :: cs →
    b = (match c.dir with
      | .up => c.lo + o.done
      | .down => c.lo + c.count - 1 - o.done) → w = b * 128 + o.offset → s.physWord w < s.memWords →
    (∀ o' : ClearOp,
      (if o.offset + 1 < 128 then some { o with offset := o.offset + 1 }
        else if o.done + 1 < c.count then some { o with done := o.done + 1, offset := 0 }
        else if cs ≠ [] then some { o with ranges := cs, done := 0, offset := 0 }
        else none) = some o' →
      ∃ t, exec .clearWrite s = .next t ∧
        wroteWord s t (s.physWord w) 0 (signature w (s.terms w) s.cau.epoch) ∧
        t.txe = { s.txe with clear := some o' } ∧ t.mpt = s.afterGroup ∧
        { t with planeP := s.planeP, planeQ := s.planeQ, mpt := s.mpt, txe := s.txe } = s) ∧
    (o.offset + 1 = 128 → c.count ≤ o.done + 1 → cs = [] →
      ∃ t, exec .clearWrite s = .next t ∧
        wroteWord s t (s.physWord w) 0 (signature w (s.terms w) s.cau.epoch) ∧ t.txe.clear = none ∧
        (o.atStart = true →
          t.mli = { s.mli with control := .run } ∧
          t.fau = { s.fau with pending := { s.fau.pending with startDone := true } } ∧
          t.cau = { s.cau with
            deadlineTimer := if s.mli.params.deadline = 0 then none else some s.mli.params.deadline } ∧
          t.ckc.dirty = [] ∧ t.ckc.pass = [] ∧ t.ckc.restore = [] ∧
          (∀ r, t.ckc.ckState.get r = if hasAttr (·.checkpoint) s.rgd.table r then .valid else .none)) ∧
        (o.atStart = false → t.mli = s.mli ∧ t.fau = s.fau ∧ t.cau = s.cau ∧ t.ckc = s.ckc) ∧
        { t with planeP := s.planeP, planeQ := s.planeQ, cau := s.cau, fau := s.fau, ckc := s.ckc, mli := s.mli
                 mpt := s.mpt, txe := s.txe } = s)

/-- R77, R140, R141, R144: the scrub order, the cursor's first word from an entry on, and its adjustment at an installation; a scrub
word check checks and repairs the word the cursor names and moves the cursor on; an UNCORRECTABLE word is recorded and, in a
CHECKPOINT region, suspect. That with the cursor at NONE the slot is emptied without a group is the model's choice (log 23). -/
def Obligations.ScrubWordCheck : Prop :=
  (∀ (t : Table) (n : Nat),
    ((∀ r d, t.get r = some d → d.attrs.scrub = false) → scrubFrom t n = none) ∧
    (∀ (r : Region) (d : Descriptor), n ≤ 16 → t.get r = some d → d.attrs.scrub = true → 1 ≤ d.len → d.len ≤ d.span →
      (∀ r' d', t.get r' = some d' → d'.attrs.scrub = true → (r.val + 16 - n) % 16 ≤ (r'.val + 16 - n) % 16) →
      scrubFrom t n = some ⟨r, (match d.dir with
        | .up => d.base
        | .down => d.base + d.span - 1), 0⟩)) ∧
  (∀ (t : Table) (c : Cursor),
    (c.offset < 127 → scrubNext t c = some { c with offset := c.offset + 1 }) ∧
    (∀ d, c.offset = 127 → t.get c.region = some d → d.authorised c.block = true → 1 ≤ d.len → d.len ≤ d.span →
      (d.dir = .up → c.block < d.base + d.len - 1 → scrubNext t c = some ⟨c.region, c.block + 1, 0⟩) ∧
      (d.dir = .up → c.block = d.base + d.len - 1 → scrubNext t c = scrubFrom t (c.region.val + 1)) ∧
      (d.dir = .down → d.base + d.span - d.len < c.block → scrubNext t c = some ⟨c.region, c.block - 1, 0⟩) ∧
      (d.dir = .down → c.block = d.base + d.span - d.len → scrubNext t c = scrubFrom t (c.region.val + 1)))) ∧
  (∀ t : Table, scrubAdjust t none = scrubFrom t 0 ∧
    ∀ c : Cursor,
      ((∃ d, t.get c.region = some d ∧ d.attrs.scrub = true ∧ d.authorised c.block = true) →
        scrubAdjust t (some c) = some c) ∧
      ((∀ d, t.get c.region = some d → d.attrs.scrub = false ∨ d.authorised c.block = false) →
        scrubAdjust t (some c) = scrubFrom t c.region.val)) ∧
  (∀ (s : State) (c : Cursor) (o : ScrubOp) (rep : CheckReport),
    s.canonical → s.engineOn .scrubBurst → s.sru.cursor = some c → s.txe.scrub = some o →
    s.physWord (c.block * 128 + c.offset) < s.memWords →
    rep = s.check true (c.block * 128 + c.offset) (s.terms (c.block * 128 + c.offset)) →
    (∀ d, rep.data = some d →
      (hasAttr (·.checkpoint) s.rgd.table c.region = false ∨
        s.ckc.ckState.get c.region ≠ .valid ∧ s.ckc.ckState.get c.region ≠ .copying ∨
        c.block ∈ s.ckc.dirty ∨ c.block ∈ s.ckc.pass) →
      ∃ t, exec .scrubWordCheck s = .next t ∧
        wroteWord s t (s.physWord (c.block * 128 + c.offset)) d
          (signature (c.block * 128 + c.offset) (s.terms (c.block * 128 + c.offset)) s.cau.epoch) ∧
        (rep.cls = .clean → t.planeP = s.planeP ∧ t.planeQ = s.planeQ) ∧
        t.sru = { (s.withRepair (c.block * 128 + c.offset) rep).sru with cursor := scrubNext s.rgd.table c } ∧
        t.fau = (s.withRepair (c.block * 128 + c.offset) rep).fau ∧
        t.txe.scrub.map (·.left) = (if 1 < o.left then some (o.left - 1) else none) ∧
        { t with planeP := s.planeP, planeQ := s.planeQ, fau := s.fau, sru := s.sru, mpt := s.mpt, txe := s.txe } = s) ∧
    (rep.cls = .uncorrectable →
      ∃ t, exec .scrubWordCheck s = .next t ∧
        t.sru = { s.sru with cursor := scrubNext s.rgd.table c } ∧
        t.fau = s.fau.take
          { kind := .uncorrectable, also := none, source := .engineScrub, word := some (c.block * 128 + c.offset)
            region := some c.region, findings := some ⟨rep.qFinding, rep.pFinding, rep.distance⟩
            position := some ⟨c.region, .working, c.block, c.offset⟩
            vital := hasAttr (·.vital) s.rgd.table c.region, epoch := s.cau.epoch, cycle := s.cau.cycle } ∧
        t.ckc = (if hasAttr (·.checkpoint) s.rgd.table c.region then (s.addDirty c.block).ckc else s.ckc) ∧
        t.cau = s.cau.raise
          { TaintSet.empty with suspectBlock := hasAttr (·.checkpoint) s.rgd.table c.region } ∧
        t.txe.scrub.map (·.left) = (if 1 < o.left then some (o.left - 1) else none) ∧
        { t with cau := s.cau, fau := s.fau, ckc := s.ckc, sru := s.sru, mpt := s.mpt, txe := s.txe } = s)) ∧
  (∀ s : State, s.engineOn .scrubBurst → s.sru.cursor = none →
    ∃ t, exec .scrubWordCheck s = .next t ∧ t.txe.scrub = none ∧ { t with mpt := s.mpt, txe := s.txe } = s)

/-- R95, R144 to R146: a good working word of a VALID or COPYING region, its block in neither D nor S, is repaired where it needs it
and then audited against its shadow word, which is checked with repair in its turn: equal, nothing more; unequal, AUDIT and a
suspect block; an unreadable shadow, CHECKPOINT_FAILED and the region BROKEN, a COPYING one with its blocks of S back in D and an
access held for one of them released. -/
def Obligations.ScrubAudit : Prop :=
  ∀ (s u : State) (c : Cursor) (d : Descriptor) (sb w v : Nat) (rep rep' : CheckReport) (data : Word),
    s.canonical → s.engineOn .scrubBurst → s.sru.cursor = some c → s.rgd.table.get c.region = some d →
    d.attrs.checkpoint = true → d.shadow = some sb →
    (s.ckc.ckState.get c.region = .valid ∨ s.ckc.ckState.get c.region = .copying) →
    c.block ∉ s.ckc.dirty → c.block ∉ s.ckc.pass →
    w = c.block * 128 + c.offset → v = (sb + (c.block - d.base)) * 128 + c.offset →
    s.physWord w < s.memWords → s.physWord v < s.memWords → c.offset < 128 →
    rep = s.check true w (s.terms w) → rep.data = some data → u = s.repair w (s.terms w) rep →
    rep' = u.check true v (s.terms v) → s.heldIsPlain .heldBlock (fun a => a.record.region = c.region) →
    readWell s u w (s.terms w) rep data ∧
    { u with planeP := s.planeP, planeQ := s.planeQ, fau := s.fau, sru := s.sru } = s ∧
    ∃ t, exec .scrubWordCheck s = .next t ∧
      t.sru = { (u.withRepair v rep').sru with cursor := scrubNext s.rgd.table c } ∧
      (∀ other, rep'.data = some other →
        wroteWord u t (s.physWord v) other (signature v (s.terms v) s.cau.epoch) ∧ t.hbi = s.hbi ∧
        (other = data →
          t.fau = (u.withRepair v rep').fau ∧ t.ckc = s.ckc ∧ t.cau = s.cau) ∧
        (other ≠ data →
          t.ckc = (s.addDirty c.block).ckc ∧
          t.cau = s.cau.raise { TaintSet.empty with suspectBlock := true } ∧
          t.fau = (u.withRepair v rep').fau.take
            { kind := .audit, also := none, source := .engineScrub, word := some w, region := some c.region
              findings := some ⟨rep'.qFinding, rep'.pFinding, rep'.distance⟩
              position := some ⟨c.region, .working, c.block, c.offset⟩, vital := d.attrs.vital, epoch := s.cau.epoch
              cycle := s.cau.cycle })) ∧
      (rep'.data = none →
        t.planeP = u.planeP ∧ t.planeQ = u.planeQ ∧ t.cau = s.cau ∧
        t.ckc.ckState = s.ckc.ckState.set c.region .broken ∧ t.ckc.restore = s.ckc.restore ∧
        (s.ckc.ckState.get c.region = .valid →
          t.ckc.dirty = s.ckc.dirty ∧ t.ckc.pass = s.ckc.pass ∧ t.hbi = s.hbi) ∧
        (s.ckc.ckState.get c.region = .copying →
          (∀ x, x ∈ t.ckc.pass ↔ x ∈ s.ckc.pass ∧ d.authorised x = false) ∧
          (∀ x, x ∈ t.ckc.dirty ↔ x ∈ s.ckc.dirty ∨ x ∈ s.ckc.pass ∧ d.authorised x = true) ∧
          (∀ a, s.hbi.access = some a → a.phase = .heldBlock → a.record.region = c.region →
            t.hbi = { s.hbi with access := some { a with phase := .atPort } }) ∧
          ((∀ a, s.hbi.access = some a → a.phase = .heldBlock → a.record.region ≠ c.region) → t.hbi = s.hbi)) ∧
        t.fau = u.fau.take
          { kind := .checkpointFailed, also := some .uncorrectable, source := .engineScrub, word := some v
            region := some c.region, findings := some ⟨rep'.qFinding, rep'.pFinding, rep'.distance⟩
            position := some ⟨c.region, .shadow, sb + (c.block - d.base), c.offset⟩, vital := false
            epoch := s.cau.epoch, cycle := s.cau.cycle }) ∧
      { t with planeP := s.planeP, planeQ := s.planeQ, hbi := s.hbi, cau := s.cau, fau := s.fau, ckc := s.ckc
               sru := s.sru, mpt := s.mpt, txe := s.txe } = s

/-- R76, R173: READ_WORD is accepted in RUN and HOLD and asks the engine for a diagnostic read, or is turned away, nothing changed:
in CONFIG and INIT, while one is PENDING, and for a word beyond the memory fitted; that read is checked without repair and writes
nothing, and its report is collected once. -/
def Obligations.DiagnosticReads : Prop :=
  (∀ (s : State) (w : BitVec 32), s.listens → (s.mli.control = .run ∨ s.mli.control = .hold) →
    s.mli.readResult ≠ .pending → w.toNat < s.memWords →
    ∃ t, exec (.readWordRequest w) s = .next t ∧
      t.mli = { s.replied 0x16 [w.extractLsb' 16 16, w.extractLsb' 0 16] [0] with readResult := .pending } ∧
      t.txe.readWord.map (·.word) = some w.toNat ∧ { t with mli := s.mli, mpt := s.mpt, txe := s.txe } = s) ∧
  (∀ (s : State) (w : BitVec 32), s.listens →
    ((s.mli.control = .config ∨ s.mli.control = .init) →
      exec (.readWordRequest w) s =
        .next { s with mli := s.replied 0x16 [w.extractLsb' 16 16, w.extractLsb' 0 16] [2] }) ∧
    ((s.mli.control = .run ∨ s.mli.control = .hold) → s.mli.readResult = .pending →
      exec (.readWordRequest w) s =
        .next { s with mli := s.replied 0x16 [w.extractLsb' 16 16, w.extractLsb' 0 16] [1] }) ∧
    ((s.mli.control = .run ∨ s.mli.control = .hold) → s.mli.readResult ≠ .pending → s.memWords ≤ w.toNat →
      exec (.readWordRequest w) s =
        .next { s with mli := s.replied 0x16 [w.extractLsb' 16 16, w.extractLsb' 0 16] [3, 0, 0xFFFF] })) ∧
  (∀ (s : State) (w : Nat), s.engineOn .readWord → s.txe.readWord.map (·.word) = some w → s.physWord w < s.memWords →
    ∃ t, exec .diagnosticRead s = .next t ∧
      t.mli = { s.mli with readResult := .ready (s.check false w (s.terms w)) } ∧ t.txe.readWord = none ∧
      { t with mli := s.mli, mpt := s.mpt, txe := s.txe } = s) ∧
  (∀ s : State, s.listens →
    (∀ rep, s.mli.readResult = .ready rep →
      exec .readWordCollection s =
        .next { s with mli := { s.replied 0x17 [] (0 :: rep.units) with readResult := .none } }) ∧
    (s.mli.readResult = .pending → exec .readWordCollection s = .next { s with mli := s.replied 0x17 [] [1] }) ∧
    (s.mli.readResult = .none → exec .readWordCollection s = .next { s with mli := s.replied 0x17 [] [4] }))

/-! ### Retirement and scrub scheduling (Chapter 8), the deadline (R138) -/

/-- R44, R149, R150, R152: which entry owns a block, as a working or as a shadow block; the request at the head of the retire queue,
when its conditions hold, becomes a RETIRE with the lowest free spare; with none free it is dropped with SPARES_EXHAUSTED, and a
block no longer owned is dropped silently; when a condition fails, it stays at the head and nothing changes. -/
def Obligations.RetireTaken : Prop :=
  (∀ (t : Table) (b : Nat),
    (∀ r d, t.get r = some d → d.authorised b = true →
      (∀ r' d', t.get r' = some d' → d'.authorised b = true → r' = r) → ownerOf t b = some (r, .working)) ∧
    (∀ r d sb, t.get r = some d → d.shadow = some sb → sb ≤ b → b < sb + d.span →
      d.authorised (d.base + (b - sb)) = true →
      (∀ r' d', t.get r' = some d' → d'.authorised b = false ∧ (d'.inShadow b = true → r' = r)) →
      ownerOf t b = some (r, .shadow)) ∧
    ((∀ r d, t.get r = some d → d.authorised b = false ∧
      ∀ sb, d.shadow = some sb → sb ≤ b → b < sb + d.span → d.authorised (d.base + (b - sb)) = false) →
      ownerOf t b = none)) ∧
  (∀ s : State, s.sru.retireQueue = [] → exec .retireTake s = .next s) ∧
  ∀ (s : State) (b : Nat) (rest : List Nat), s.sru.retireQueue = b :: rest →
    (s.mli.control = .config ∨ s.mli.control = .init ∨ s.txe.retire ≠ none ∨ ¬s.headFree b →
      exec .retireTake s = .next s) ∧
    ((s.mli.control = .run ∨ s.mli.control = .hold) → s.txe.retire = none → s.headFree b →
      (ownerOf s.rgd.table b = none →
        exec .retireTake s = .next { s with sru := { s.sru with retireQueue := rest } }) ∧
      (∀ (r : Region) (part : Part), ownerOf s.rgd.table b = some (r, part) →
        (∀ i, i < s.mli.params.spareCount → (∀ e ∈ s.sru.remap, e.spare ≠ i) →
          (∀ j < i, ∃ e ∈ s.sru.remap, e.spare = j) →
          ∃ t begun, exec .retireTake s = .next t ∧ t.txe.retire = some ⟨b, r, part, i, 0, begun⟩ ∧
            { t with mpt := s.mpt, txe := s.txe } = s) ∧
        ((∀ i < s.mli.params.spareCount, ∃ e ∈ s.sru.remap, e.spare = i) →
          exec .retireTake s = .next
            { s with
              sru := { s.sru with retireQueue := rest }
              fau := s.fau.take
                { kind := .sparesExhausted, also := none, source := .engineRetire, word := some (b * 128)
                  region := some r, findings := none, position := some ⟨r, part, b, 0⟩, vital := false
                  epoch := s.cau.epoch, cycle := s.cau.cycle } })))

/-- R142, R143, R138: at the scrub timer's expiry a burst of BURST checks is requested, unless scrub is suspended, off, or a burst
is in its slot; at the cycle deadline the timer stops and a vital CYCLE_OVERRUN is recorded. -/
def Obligations.TimersExpire : Prop :=
  ∀ s : State,
    (s.sru.scrubTimer ≠ none → s.mli.control = .run → s.cau.marker = .opened → s.txe.scrub = none →
      ∃ t, exec .scrubTimerExpiry s = .next t ∧ t.txe.scrub.map (·.left) = some s.mli.params.burst ∧
        { t with mpt := s.mpt, txe := s.txe } = s) ∧
    ((s.sru.scrubTimer = none ∨ s.mli.control = .init ∨ s.mli.control = .hold ∨ s.cau.marker ≠ .opened ∨
      s.txe.scrub ≠ none) → exec .scrubTimerExpiry s = .next s) ∧
    (s.cau.deadlineTimer ≠ none →
      exec .cycleDeadlineExpiry s = .next
        { s with
          cau := { s.cau with deadlineTimer := none }
          fau := s.fau.take
            { kind := .cycleOverrun, also := none, source := .marker, word := none, region := none, findings := none
              position := none, vital := true, epoch := s.cau.epoch, cycle := s.cau.cycle } }) ∧
    (s.cau.deadlineTimer = none → exec .cycleDeadlineExpiry s = .next s)

/-! ### Cycle and agreement (Chapter 7) -/

/-- R133: the verdict table, row by row; what a COMMITTED verdict needs; and that two channels deciding from each other's MARK
reach the same verdict, where row 1 applies to neither. -/
def Obligations.VerdictTable : Prop :=
  (∀ (mode : TwinMode) (c : Count8) (loc : Mark) (twin : Option Mark), loc.n ≠ c →
    decideVerdict mode c loc twin = (.failed, some .sequence)) ∧
  (∀ loc twin, decideVerdict .single loc.n loc twin =
    (if loc.kind = .commit then .committed else .rolledBack, none)) ∧
  (∀ loc twin, decideVerdict .paired loc.n loc (some twin) =
    if twin.n ≠ loc.n then (.failed, some .sequence)
    else if twin.tag ≠ loc.tag then (.failed, some .layout)
    else if loc.kind = .rollback ∨ twin.kind = .rollback then (.rolledBack, none)
    else if loc.digest ≠ twin.digest then (.failed, some .disagree)
    else (.committed, none)) ∧
  (∀ (c : Count8) (loc twin : Mark), (decideVerdict .paired c loc (some twin)).1 = .committed ↔
    loc.n = c ∧ twin.n = loc.n ∧ twin.tag = loc.tag ∧ twin.digest = loc.digest ∧ loc.kind = .commit ∧
      twin.kind = .commit) ∧
  (∀ (c c' : Count8) (a b : Mark), a.n = c → b.n = c' →
    decideVerdict .paired c a (some b) = decideVerdict .paired c' b (some a))

/-- R125, R133, R134, R24, R75, R86, R87, R167: in SINGLE mode a COMMIT marker of the current cycle with no taint commits: the whole
effect of the verdict on the counts, sets, load period, qualification and the checkpoint passes, the pass requested of the engine,
and the retire copy it abandons. No PRIORITY_BLOCK waits at a verdict, since no pass is in flight (CapacitiesKept). -/
def Obligations.CycleCommitted : Prop :=
  ∀ (s : State) (a : Access) (h : HeldMarker),
    s.cau.marker = .draining → s.cau.held = some h → s.cau.localMark = none → s.passInFlight = false →
    s.mli.params.twinMode = .single → s.hbi.access = some a → a.phase = .heldMarker →
    h.kind = .commit → h.n = s.cau.cycle → s.cau.taint = TaintSet.empty → s.txe.priority = none →
    s.tableApart →
    ∃ t, exec .fixLocalKind s = .next t ∧
      t.cau = s.cau.decided .committed ∧
      t.rgd = { s.rgd with loadOpen := false } ∧
      t.fau = { s.fau with qualified := !s.fau.epochFlag, epochFlag := false } ∧
      copiesStarted s t ∧
      { t with cau := s.cau, rgd := s.rgd, fau := s.fau, ckc := s.ckc, mpt := s.mpt, txe := s.txe } = s

/-- R125, R133 to R135, R75, R101 to R103, R167: in SINGLE mode a ROLLBACK marker, or a tainted cycle, rolls back, and a wrong cycle
number fails with SEQUENCE; either starts the restore passes, records RESTORE_FAILED for each BROKEN region, which stays BROKEN,
requests the pass of the engine, abandons a retire copy of a block to restore, and leaves the load period and C as they are. -/
def Obligations.CycleRolledBackOrFailed : Prop :=
  ∀ (s : State) (a : Access) (h : HeldMarker),
    s.cau.marker = .draining → s.cau.held = some h → s.cau.localMark = none → s.passInFlight = false →
    s.mli.params.twinMode = .single → s.hbi.access = some a → a.phase = .heldMarker →
    (h.kind = .rollback ∨ s.cau.taint ≠ TaintSet.empty ∨ h.n ≠ s.cau.cycle) → s.txe.priority = none →
    ∃ t, exec .fixLocalKind s = .next t ∧
      t.cau = s.cau.decided (if h.n = s.cau.cycle then .rolledBack else .failed) ∧
      t.fau = s.verdictFaults (if h.n = s.cau.cycle then none else some .sequence) a.record.region ∧
      restoresStarted s t ∧
      { t with cau := s.cau, fau := s.fau, ckc := s.ckc, mpt := s.mpt, txe := s.txe } = s

/-- R75, R86, R87, R101 to R103, R125, R127, R132 to R135: in PAIRED mode with the link UP the local MARK is placed in the transmitter;
with no twin MARK yet the agreement timer starts, with one in the slot the verdict is issued at once; with the link DOWN, or when the
timer expires, the verdict is FAILED, TWIN_TIMEOUT or SEQUENCE; and each verdict starts its passes as in SINGLE mode. That the local
MARK takes the place of one that still waits behind a frame being sent is the model's choice (log 28). -/
def Obligations.PairedMarker : Prop :=
  ∀ s : State,
    (∀ (h : HeldMarker) (m : Mark) (x : Twl), s.cau.marker = .draining → s.cau.held = some h → s.cau.localMark = none →
      s.passInFlight = false → s.mli.params.twinMode = .paired →
      m = { epoch := s.cau.epoch, n := h.n
            kind := if h.kind = .commit ∧ s.cau.taint = TaintSet.empty then .commit else .rollback
            digest := s.cau.digest, tag := s.rgd.layoutTag } →
      x = (if s.twl.sending = none then { s.twl with sending := some (.mark m), idleTimer := false }
        else { s.twl with waiting := some m }) →
      (s.twl.linkUp = true → s.cau.slot = none →
        exec .fixLocalKind s = .next
          { s with
            twl := x
            cau := { s.cau with
              localMark := some m, agreementTimer := some s.mli.params.agreementTimeout
              marker := .awaitingTwin } }) ∧
      (s.twl.linkUp = true → ∀ twin v k a, s.cau.slot = some twin → s.hbi.access = some a → a.phase = .heldMarker →
        (v, k) = decideVerdict .paired s.cau.cycle m (some twin) →
        ∃ t, exec .fixLocalKind s = .next t ∧ t.twl = x ∧
          t.cau = { s.cau.decided v with marker := .awaitingTwin } ∧
          verdictSettled s t v k a.record.region ∧ passesStarted s t v ∧
          { t with twl := s.twl, cau := s.cau, rgd := s.rgd, fau := s.fau, ckc := s.ckc, mpt := s.mpt, txe := s.txe } = s) ∧
      (s.twl.linkUp = false → ∀ a, s.hbi.access = some a → a.phase = .heldMarker →
        ∃ t, exec .fixLocalKind s = .next t ∧ t.cau = s.cau.decided .failed ∧
          t.fau = s.verdictFaults (some (if h.n = s.cau.cycle then .twinTimeout else .sequence)) a.record.region ∧
          passesStarted s t .failed ∧
          { t with cau := s.cau, fau := s.fau, ckc := s.ckc, mpt := s.mpt, txe := s.txe } = s)) ∧
    (∀ (m : Mark) (a : Access), s.cau.localMark = some m → s.cau.agreementTimer ≠ none → s.cau.slot = none →
      s.cau.marker = .awaitingTwin → s.hbi.access = some a → a.phase = .heldMarker →
      ∃ t, exec .agreementTimerExpiry s = .next t ∧ t.cau = s.cau.decided .failed ∧
        t.fau = s.verdictFaults (some (if m.n = s.cau.cycle then .twinTimeout else .sequence)) a.record.region ∧
        passesStarted s t .failed ∧
        { t with cau := s.cau, fau := s.fau, ckc := s.ckc, mpt := s.mpt, txe := s.txe } = s) ∧
    ((s.cau.localMark = none ∨ s.cau.agreementTimer = none ∨ s.cau.slot ≠ none ∨ s.cau.marker ≠ .awaitingTwin) →
      exec .agreementTimerExpiry s = .next s)

/-- R136 to R138, R182, R54, R55: the verdict word, 256 × verdict code + C, is written into the marker word, the marker write
acknowledged unless it was withdrawn, the marker state becomes OPEN, and the deadline starts unless it is off. -/
def Obligations.VerdictWordWritten : Prop :=
  ∀ (s : State) (a : Access) (v : Word), s.canonical → s.cau.verdictDue = true → s.hbi.access = some a →
    a.phase = .heldMarker → s.mpt.grant = .processor → s.physWord a.word < s.memWords →
    v.toNat = 256 * (match s.cau.lastVerdict with
      | .none => 0
      | .committed => 1
      | .rolledBack => 2
      | .failed => 3) + s.cau.cycle.toNat →
    ∃ t, exec .verdictWordWrite s = .next t ∧
      wroteWord s t (s.physWord a.word) v (signature a.word a.terms s.cau.epoch) ∧ t.hbi = s.ended a .ackWrite ∧
      t.cau = { s.cau with
        marker := .opened, verdictDue := false
        deadlineTimer := if s.mli.params.deadline = 0 then none else some s.mli.params.deadline } ∧
      (s.txe.active ≠ none → t.mpt = { grant := .engine, count := 0, limit := s.mli.params.burst }) ∧
      (s.txe.active = none → s.txe.highest = none → t.mpt = { s.mpt with grant := .none }) ∧
      { t with planeP := s.planeP, planeQ := s.planeQ, hbi := s.hbi, cau := s.cau, mpt := s.mpt, txe := s.txe } = s

/-! ### The twin link (sections 7.5 and 11.2) -/

/-- R126, R183, R184: a frame received as it was sent is valid and gives back its fields; with the data of one of its units
changed it is not; a unit is 19 bits, and sampled from them it is the unit sent; and the transmit line idles at 1 and carries the
frame being sent without a gap, so that a receiver on it samples the frame's units and nothing else. That a line is told as one
level for each bit time is the model's choice (log 14). -/
def Obligations.TwinFramesOnTheLine : Prop :=
  (∀ f : TwinFrame, judgeFrame f.received = some f) ∧
  (∀ (f : TwinFrame) (i : Nat) (u : RxUnit) (d : Unit16), f.received[i]? = some u → d ≠ u.data →
    judgeFrame (f.received.set i { u with data := d }) = none) ∧
  (∀ (first : Bool) (d : Unit16), (lineBits first d).length = 19 ∧ sampleUnit (lineBits first d) = some ⟨first, d, true⟩) ∧
  (∀ (s : State) (i : Nat), s.twl.sending = none → s.transmitLine i = true) ∧
  (∀ (s : State) (f : TwinFrame) (i n : Nat), s.twl.sending = some f →
    f.bits.length = 19 * f.units.length ∧ (f.bits.length ≤ n → s.transmitLine n = true) ∧
    sampleLine (i + f.bits.length + n)
      (List.replicate i true ++ (List.range (f.bits.length + n)).map s.transmitLine) = f.received)

/-- R75, R86, R87, R101 to R103, R128 to R131, R133 to R135, R184: the units of a valid frame arriving with no frame open bring
the link UP or restart its timer; a MARK of this epoch is kept in an EMPTY slot, and in AWAITING_TWIN decides the verdict, with
its whole effect; any other is discarded with its fault. That one of the new epoch, between a verdict and its verdict word, is
kept and decides nothing yet is the model's choice (log 42). -/
def Obligations.FramesReceived : Prop :=
  ∀ (s l : State), s.inReset = false → s.twl.rx = none →
    l = { s with
      twl := { s.twl with linkUp := true, linkTimer := true }
      fau := { s.fau with pending := { s.fau.pending with
        linkChange := s.fau.pending.linkChange || !s.twl.linkUp } } } →
    exec (.twinFrameReceived TwinFrame.idle.received) s = .next l ∧
    (∀ m : Mark,
      (s.mli.control = .config → exec (.twinFrameReceived (TwinFrame.mark m).received) s = .next l) ∧
      (s.mli.control ≠ .config → s.mli.params.twinMode = .paired → m.epoch = s.cau.epoch → s.cau.slot = none →
        s.cau.localMark = none →
        exec (.twinFrameReceived (TwinFrame.mark m).received) s =
          .next { l with cau := { s.cau with slot := some m } }) ∧
      (s.mli.control ≠ .config → s.mli.params.twinMode = .paired → m.epoch = s.cau.epoch → s.cau.slot = none →
        ∀ loc v k a, s.cau.localMark = some loc → s.hbi.access = some a → a.phase = .heldMarker →
        (v, k) = decideVerdict .paired s.cau.cycle loc (some m) →
        ∃ t, exec (.twinFrameReceived (TwinFrame.mark m).received) s = .next t ∧ t.twl = l.twl ∧ t.cau = s.cau.decided v ∧
          verdictSettled l t v k a.record.region ∧ passesStarted s t v ∧
          { t with twl := s.twl, cau := s.cau, rgd := s.rgd, fau := s.fau, ckc := s.ckc, mpt := s.mpt, txe := s.txe } = s) ∧
      (∀ (k : FaultKind) (vital : Bool), s.mli.control ≠ .config →
        (s.mli.params.twinMode = .single ∧ k = .linkProtocol ∧ vital = true ∨
          s.mli.params.twinMode = .paired ∧
            (m.epoch = s.cau.epoch ∧ s.cau.slot ≠ none ∧ k = .linkProtocol ∧ vital = true ∨
              m.epoch + 1 = s.cau.epoch ∧ k = .linkLate ∧ vital = false ∨
              m.epoch ≠ s.cau.epoch ∧ m.epoch + 1 ≠ s.cau.epoch ∧ k = .sequence ∧ vital = true)) →
        exec (.twinFrameReceived (TwinFrame.mark m).received) s = .next
          { l with
            fau := l.fau.take
              { kind := k, also := none, source := .twinLink, word := none, region := none, findings := none
                position := none, vital := vital, epoch := s.cau.epoch, cycle := s.cau.cycle } }))

/-- R127 to R129, R184: an idle line completes an open frame, and a frame that fails its judgement is LINK_FRAME and leaves the
link alone; so does a bad frame that its last unit, or the flagged unit of the next frame, completes; other units open a frame or
join the open one; the link timer's expiry brings the link DOWN; the transmitter sends a waiting MARK next, else IDLE after
100 µs. -/
def Obligations.LinkTimers : Prop :=
  ∀ (s : State) (bad : Option (List RxUnit) → State),
    bad = (fun rx =>
      { s with
        twl := { s.twl with rx := rx }
        fau := s.fau.take
          { kind := .linkFrame, also := none, source := .twinLink, word := none, region := none, findings := none
            position := none, vital := false, epoch := s.cau.epoch, cycle := s.cau.cycle } }) →
    (s.twl.rx = none → exec .twinLineIdleTimeout s = .next s) ∧
    (∀ us, s.twl.rx = some us → judgeFrame us = none → exec .twinLineIdleTimeout s = .next (bad none)) ∧
    (s.inReset = false →
      (∀ u : RxUnit, s.twl.rx = none →
        exec (.twinFrameReceived [u]) s = .next { s with twl := { s.twl with rx := some [u] } }) ∧
      (∀ (u : RxUnit) us, s.twl.rx = some us → judgeFrame us = none → u.first = true →
        exec (.twinFrameReceived [u]) s = .next (bad (some [u]))) ∧
      ∀ (u v : RxUnit) us, s.twl.rx = some (u :: us) → v.first = false →
        (u.first = true ∧ (u.data = 0xA501 ∧ us.length + 2 = 2 ∨ u.data = 0xA502 ∧ us.length + 2 = 7) →
          judgeFrame (u :: us ++ [v]) = none → exec (.twinFrameReceived [v]) s = .next (bad none)) ∧
        (¬(u.first = true ∧ (u.data = 0xA501 ∧ us.length + 2 = 2 ∨ u.data = 0xA502 ∧ us.length + 2 = 7)) →
          exec (.twinFrameReceived [v]) s = .next { s with twl := { s.twl with rx := some (u :: us ++ [v]) } })) ∧
    (s.twl.linkUp = true → s.twl.linkTimer = true →
      exec .linkTimerExpiry s = .next
        { s with
          twl := { s.twl with linkUp := false, linkTimer := false }
          fau := { s.fau with pending := { s.fau.pending with linkChange := true } } }) ∧
    (s.twl.idleTimer = true → s.twl.sending = none → s.twl.waiting = none →
      exec .idleFrameTimerExpiry s = .next { s with twl := { s.twl with sending := some .idle, idleTimer := false } }) ∧
    ((s.twl.sending ≠ none ∨ s.twl.waiting ≠ none) → exec .idleFrameTimerExpiry s = .next s) ∧
    (∀ m, s.twl.sending ≠ none → s.twl.waiting = some m →
      exec .transmitFrameEnd s = .next
        { s with twl := { s.twl with sending := some (.mark m), waiting := none, idleTimer := false } }) ∧
    (s.twl.sending ≠ none → s.twl.waiting = none →
      exec .transmitFrameEnd s = .next { s with twl := { s.twl with sending := none, idleTimer := true } })

/-! ### Faults (Chapter 9) -/

/-- R158, R160, R161, R163, R166, R167: a record taken is counted and queued, or lost with QUEUE_FULL; a vital one drops VEN,
SETs the latch and VITAL_DOWN with it, SETs the epoch flag and clears the qualification; which faults are vital, by primary kind
and region alone; the record carries that judgement, E and C; and the VEN output is the VEN state. -/
def Obligations.FaultTaken : Prop :=
  (∀ (f : Fau) (r : FaultRecord), (∀ i, f.counters.get i ≤ 65535) →
    (f.take r).counters = f.counters.set r.kind.counter (min 65535 (f.counters.get r.kind.counter + 1)) ∧
    (f.queue.length < 16 → (f.take r).queue = f.queue ++ [r] ∧ (f.take r).pending.faultQueued = true ∧
      (f.take r).pending.queueFull = f.pending.queueFull) ∧
    (f.queue.length = 16 → (f.take r).queue = f.queue ∧ (f.take r).pending.queueFull = true ∧
      (f.take r).pending.faultQueued = f.pending.faultQueued) ∧
    (f.take r).mask = f.mask ∧
    (r.vital = false → (f.take r).ven = f.ven ∧ (f.take r).latch = f.latch ∧ (f.take r).epochFlag = f.epochFlag ∧
      (f.take r).qualified = f.qualified ∧ (f.take r).pending.vitalDown = f.pending.vitalDown) ∧
    (r.vital = true → (f.take r).ven = false ∧ (f.take r).epochFlag = true ∧ (f.take r).qualified = false ∧
      (f.take r).latch = (f.latch || f.ven) ∧ (f.take r).pending.vitalDown = (f.pending.vitalDown || f.ven))) ∧
  (∀ (t : Table) (k : FaultKind) (r : Option Region), faultVital t k r =
    if k ∈ [.unmapped, .sequence, .layout, .disagree, .twinTimeout, .linkProtocol, .cycleOverrun] then true
    else if k ∈ [.length, .cls, .uncorrectable, .stale, .audit, .restoreFailed] then
      r.any fun x => hasAttr (·.vital) t x
    else false) ∧
  (∀ s : State, s.ven = s.fau.ven) ∧
  (∀ (s : State) (f : FaultReport), (s.takeFault f).fau = s.fau.take
    { kind := f.kind, also := f.also, source := f.source, word := f.word, region := f.region, findings := f.findings
      position := f.position, vital := faultVital s.rgd.table f.kind f.region, epoch := s.cau.epoch, cycle := s.cau.cycle })

/-! ### The maintenance link (Chapter 10) -/

/-- R170, R171, R185: the chip select opens and closes a frame; the code and the operand units of a frame stand for one command,
which is complete at its last operand unit, whatever follows, and not before, and which the MLI then answers; an unknown code is
answered BAD_VALUE; what the master clocks out is 0xFFFF in RECEIVING, and in RESPONDING the response units in order and then
0xFFFF, each most significant bit first; and any maintenance command that finds no frame RECEIVING, one that has its
command, or the part held in reset, changes nothing (the model's choice, log 15). -/
def Obligations.LinkFraming : Prop :=
  (∀ (c : Instr) (us : List Unit16), c.wellFormed = true → commandUnits c = some us →
    (∀ extra, commandOfUnits (us ++ extra) = some c) ∧ (∀ n < us.length, commandOfUnits (us.take n) = none) ∧
    ∀ s : State, s.listens → ∃ t, exec c s = .next t ∧ t.mli.frame = .responding ∧ t.mli.code = us.head? ∧
      t.mli.operands = us.tail) ∧
  (∀ (s : State) (n : Nat),
    (s.mli.frame = .receiving →
      clockedUnits n ((List.range (16 * n)).map fun i => (s.dataOut i).getD false) = List.replicate n 0xFFFF) ∧
    (s.mli.frame = .responding →
      clockedUnits n ((List.range (16 * n)).map fun i => (s.dataOut i).getD false) =
        (s.mli.response ++ List.replicate n 0xFFFF).take n)) ∧
  ∀ s : State,
    (s.inReset = false → s.mli.frame = .idle →
      exec .chipSelectAssert s = .next
        { s with mli := { s.mli with frame := .receiving, code := none, operands := [], response := [] } }) ∧
    exec .chipSelectNegate s = .next
      { s with mli := { s.mli with frame := .idle, code := none, operands := [], response := [] } } ∧
    (∀ code : Unit16, s.listens → (code.toNat = 0 ∨ 24 < code.toNat) →
      exec (.unknownCommand code) s = .next { s with mli := s.replied code.toNat [] [3, 0, 0xFFFF] }) ∧
    (∀ (c : Instr) (us : List Unit16), commandUnits c = some us →
      (s.inReset = true ∨ s.mli.frame ≠ .receiving ∨ s.mli.code ≠ none) → exec c s = .next s)

/-- R20, R80, R161, R163, R172 to R174, R185: the codes and the layouts of the responses, and the commands that report state, which
change nothing but the frame and, for GET_STATUS, the staging descriptor (R27). Read by the model from the spec, not stated in it:
which word of a block move its position names (log 7), the position of a clear (log 8), the units of an absent entry (log 25), and
0xFFFF in position units and in the data unit that have no content (log 32). In which order READ_ENGINE lists the slots is the model's
choice (log 36) and not said here. -/
def Obligations.ReadCommands : Prop :=
  ([RegionClass.closed, .code, .const, .work, .cyclic].map RegionClass.number = [1, 2, 3, 4, 5] ∧
    [Direction.up, .down].map Direction.code = [0, 1] ∧
    [CkState.none, .valid, .copying, .restoring, .broken].map CkState.code = [0, 1, 2, 3, 4] ∧
    [Source.procRead, .procFetch, .procWrite, .engineCheckpoint, .engineRestore, .engineRetire, .engineScrub, .marker,
      .twinLink].map Source.code = [0, 1, 2, 3, 4, 5, 6, 7, 8] ∧
    [FaultKind.unmapped, .length, .cls, .markerForm, .uncorrectable, .stale, .audit, .checkpointFailed, .restoreFailed,
      .retireFailed, .sparesExhausted, .retireQueueFull, .sequence, .layout, .disagree, .twinTimeout, .linkProtocol,
      .linkLate, .linkFrame, .cycleOverrun].map FaultKind.code = List.range' 1 20 ∧
    (∀ k : FaultKind, k.counter.val + 1 = k.code) ∧ Plane.p.counter.val + 1 = 21 ∧ Plane.q.counter.val + 1 = 22 ∧
    [Classification.clean, .pRepair, .qRepair, .uncorrectable, .stale].map Classification.code = [0, 1, 2, 3, 4] ∧
    [RepairField.none, .pWritten, .qWritten, .withheld].map RepairField.code = [0, 1, 2, 3] ∧
    [QFinding.valid, .previousEpoch, .outOfRange, .wrongRemainder].map QFinding.code = [0, 1, 2, 3] ∧
    [PFinding.agrees, .differs, .notTested].map PFinding.code = [0, 1, 2] ∧
    [EngineKind.clear, .priorityBlock, .readWord, .restorePass, .checkpointPass, .retire, .scrubBurst].map EngineKind.code =
      [1, 2, 3, 4, 5, 6, 7] ∧
    [Part.working, .shadow].map Part.code = [0, 1] ∧
    [Grant.none, .processor, .locked, .engine].map Grant.code = [0, 1, 2, 3] ∧
    [FifoMode.empty, .filling, .draining].map FifoMode.code = [0, 1, 2] ∧
    [Control.config, .init, .run, .hold].map Control.code = [0, 1, 2, 3] ∧
    [MarkerState.opened, .draining, .awaitingTwin].map MarkerState.code = [0, 1, 2] ∧
    [Verdict.none, .committed, .rolledBack, .failed].map Verdict.code = [0, 1, 2, 3] ∧
    (∀ rep, [ReadResult.none, .pending, .ready rep].map ReadResult.code = [0, 1, 2]) ∧
    phaseCode none = 0 ∧ (∀ a : Access, [Phase.heldBlock, .heldRetire, .heldMarker, .atPort, .lockedOpen].map
      (fun p => phaseCode (some { a with phase := p })) = [1, 2, 3, 4, 5]) ∧
    (∀ a : Attrs, unit a.code = flagUnit [a.checkpoint, a.agreed, a.scrub, a.vital]) ∧
    (∀ a : AlarmSet, a.code < 256 ∧
      unit a.code = flagUnit [a.faultQueued, a.queueFull, a.vitalDown, a.linkChange, a.retired, a.startDone]) ∧
    ∀ t : TaintSet, t.code < 256 ∧
      unit t.code = flagUnit [t.unreadableOld, t.suspectBlock, t.hostUncorrectableAgreed, t.maint]) ∧
  (∀ f : FaultRecord, f.units =
    [unit f.kind.code, unit (256 * (match f.also with
        | some k => k.code
        | none => 0)), unit (256 * f.source.code + f.vital.toNat)] ++
    (match f.word with
      | some w => [unit (w / 65536), unit w]
      | none => [0xFFFF, 0xFFFF]) ++
    [match f.region with
      | some r => unit r.val
      | none => 0xFFFF,
     match f.findings with
      | some x => unit (256 * x.qFinding.code + x.pFinding.code)
      | none => 0xFFFF,
     match f.findings with
      | some ⟨_, _, some n⟩ => unit n
      | _ => 0] ++
    (match f.position with
      | some p => [unit p.region.val, unit p.part.code, unit p.block, unit p.offset]
      | none => [0xFFFF, 0xFFFF, 0xFFFF, 0xFFFF]) ++
    [unit (256 * f.epoch.toNat + f.cycle.toNat)]) ∧
  (∀ r : CheckReport, r.units =
    [unit (256 * r.cls.code + r.repair.code), r.data.getD 0xFFFF, r.rawP, r.rawQ.extractLsb' 16 16,
     r.rawQ.extractLsb' 0 16, unit (256 * r.qFinding.code + r.pFinding.code), unit (r.distance.getD 0)]) ∧
  (∀ (s : State) (r : Region),
    (s.rgd.table.get r = none →
      s.regionUnits r = [0, 0xFFFF, 0xFFFF, 0xFFFF, 0xFFFF, 0xFFFF, 0xFFFF, 0xFFFF, unit (s.ckc.ckState.get r).code, 0, 0, 0]) ∧
    ∀ d, s.rgd.table.get r = some d →
      s.regionUnits r =
        [unit d.cls.number, unit d.base, unit d.span, unit d.len, unit d.dir.code, unit d.key, unit d.attrs.code,
         (match d.shadow with
          | some sb => unit sb
          | none => 0xFFFF), unit (s.ckc.ckState.get r).code, unit (s.ckc.dirty.filter d.authorised).length,
         unit (s.ckc.pass.filter d.authorised).length, unit (s.ckc.restore.filter d.authorised).length]) ∧
  (∀ s : State, s.remapUnits =
    [unit s.sru.remap.length] ++
    s.sru.remap.flatMap (fun e => [unit e.block, unit e.spare, if e.live then 0 else 1]) ++
    [unit s.sru.retireQueue.length] ++ s.sru.retireQueue.map unit ++
    [unit s.sru.history.length] ++
    s.sru.history.flatMap fun e => [unit (e.word / 65536), unit e.word, if e.plane = .p then 0 else 1]) ∧
  (∀ s : State, s.statusUnits =
    [unit s.mli.control.code,
     flagUnit [s.holdClearInFlight, s.rgd.loadOpen, s.copyPassInFlight, s.restorePassInFlight, s.twl.linkUp, s.fau.ven,
       s.fau.latch, s.fau.epochFlag, s.fau.qualified, (match s.hbi.access with
        | some a => a.withdrawn
        | none => false), s.hbi.presented.isSome],
     unit (256 * phaseCode s.hbi.access + s.mli.readResult.code),
     unit (256 * s.cau.epoch.toNat + s.cau.cycle.toNat),
     unit (256 * s.cau.lastVerdict.code + s.cau.marker.code), unit (256 * s.cau.taint.code + s.cau.carry.code),
     unit (s.cau.digest.toNat / 65536), unit s.cau.digest.toNat] ++
    (match s.sru.cursor with
      | some c => [unit c.region.val, unit c.block, unit c.offset]
      | none => [0xFFFF, 0xFFFF, 0xFFFF]) ++
    [unit (256 * s.fau.queue.length + s.fau.pending.code)]) ∧
  (∀ s : State,
    (∃ ks : List EngineKind, ks.Nodup ∧
      (∀ k, k ∈ ks ↔ s.txe.slotBegun k ≠ none ∧ s.txe.active ≠ some k) ∧
      s.engineUnits =
        [unit (256 * (match s.txe.active with
          | some k => k.code
          | none => 0) + s.mpt.grant.code)] ++
        (match s.txe.active with
          | some k => s.slotPosition k
          | none => [0xFFFF, 0xFFFF, 0xFFFF, 0xFFFF]) ++
        [unit (256 * s.txe.fifoMode.code + s.txe.fifo.length), unit ks.length] ++
        ks.flatMap fun k => [unit k.code, if s.txe.slotBegun k = some true then 2 else 1] ++ s.slotPosition k) ∧
    (∀ k, s.txe.slotBegun k = none → s.slotPosition k = [0xFFFF, 0xFFFF, 0xFFFF, 0xFFFF]) ∧
    (∀ o, s.txe.readWord = some o → s.slotPosition .readWord = [0xFFFF, 0xFFFF, unit (o.word / 65536), unit o.word]) ∧
    (∀ o, s.txe.scrub = some o → s.slotPosition .scrubBurst = [unit o.left, 0xFFFF, 0xFFFF, 0xFFFF]) ∧
    (∀ o c cs, s.txe.clear = some o → o.ranges = c :: cs →
      s.slotPosition .clear = [unit c.region.val, unit c.part.code, unit (match c.dir with
        | .up => c.lo + o.done
        | .down => c.lo + c.count - 1 - o.done), unit o.offset]) ∧
    (s.txe.fifoMode ≠ .draining →
      (∀ o, s.txe.retire = some o →
        s.slotPosition .retire = [unit o.region.val, unit o.part.code, unit o.block, unit o.offset]) ∧
      (∀ o d sb, s.txe.priority = some o → s.rgd.table.get o.region = some d → d.shadow = some sb →
        s.slotPosition .priorityBlock = match o.move with
          | .copy => [unit o.region.val, 0, unit o.block, unit o.offset]
          | .restore => [unit o.region.val, 1, unit (sb + (o.block - d.base)), unit o.offset]) ∧
      (∀ m o p d sb, s.txe.passSlot m = some o → o.pos = some p → s.rgd.table.get p.region = some d →
        d.shadow = some sb →
        s.slotPosition m.passKind = match m with
          | .copy => [unit p.region.val, 0, unit p.block, unit p.offset]
          | .restore => [unit p.region.val, 1, unit (sb + (p.block - d.base)), unit p.offset]))) ∧
  ∀ s : State, s.listens →
    exec .getStatus s = .next
      { s with
        rgd := { s.rgd with phase := 0, staging := Staging.empty }
        mli := s.replied 0x01 [] (0 :: s.statusUnits) } ∧
    (∀ n : Unit16, n.toNat < 16 →
      exec (.readRegion n) s =
        .next { s with mli := s.replied 0x04 [n] (0 :: s.regionUnits (Fin.ofNat 16 n.toNat)) }) ∧
    (∀ n : Unit16, 16 ≤ n.toNat →
      exec (.readRegion n) s = .next { s with mli := s.replied 0x04 [n] [3, 0, 0xFFFF] }) ∧
    (∀ (n : Unit16) (v : Nat), 1 ≤ n.toNat → n.toNat ≤ 9 →
      [s.mli.params.exponent, s.mli.params.spareBase, s.mli.params.spareCount, s.mli.params.marker,
        (if s.mli.params.twinMode = .single then 0 else 1), s.mli.params.burst, s.mli.params.scrubInterval,
        s.mli.params.agreementTimeout, s.mli.params.deadline][n.toNat - 1]? = some v →
      exec (.readParam n) s = .next { s with mli := s.replied 0x06 [n] [0, unit (v / 65536), unit v] }) ∧
    (∀ n : Unit16, n.toNat = 0 ∨ 9 < n.toNat →
      exec (.readParam n) s = .next { s with mli := s.replied 0x06 [n] [3, 0, 0xFFFF] }) ∧
    exec .readRemap s = .next { s with mli := s.replied 0x08 [] (0 :: s.remapUnits) } ∧
    exec .readCounters s = .next { s with mli := s.replied 0x0F [] (0 :: s.fau.counters.toList.map unit) } ∧
    (∀ r rest, s.fau.queue = r :: rest →
      exec .peekFault s = .next { s with mli := s.replied 0x0E [] (0 :: r.units) }) ∧
    (s.fau.queue = [] → exec .peekFault s = .next { s with mli := s.replied 0x0E [] [4] }) ∧
    exec .readEngine s = .next { s with mli := s.replied 0x18 [] (0 :: s.engineUnits) }

/-- R21, R27 to R30, R36, R57, R185: the region pointer and the staging descriptor load field by field in CONFIG and in an idle
HOLD, each value held to its range; values out of range, an engine or processor at work in HOLD (a pass, a retire copy or a
clear in flight, or an access not ended), and the states RUN and INIT turn a command away, nothing changed. -/
def Obligations.RegionLoading : Prop :=
  (∀ (g : Staging) (v : Unit16) (n : Nat), n = v.toNat →
    (∀ c : RegionClass, n = c.number → loadField g 0 v = some { g with cls := c }) ∧
    (n = 0 ∨ 5 < n → loadField g 0 v = none) ∧
    loadField g 1 v = (if n ≤ 32767 then some { g with base := n } else none) ∧
    loadField g 2 v = (if 1 ≤ n ∧ n ≤ 4096 then some { g with span := n } else none) ∧
    loadField g 3 v = (if 1 ≤ n ∧ n ≤ g.span then some { g with len := n } else none) ∧
    loadField g 4 v =
      (if n = 0 then some { g with dir := .up } else if n = 1 then some { g with dir := .down } else none) ∧
    loadField g 5 v = (if n ≤ 65520 then some { g with key := n } else none) ∧
    (∀ a : Attrs, v = flagUnit [a.checkpoint, a.agreed, a.scrub, a.vital] →
      loadField g 6 v = some { g with attrs := a }) ∧
    (16 ≤ n → loadField g 6 v = none) ∧
    loadField g 7 v = (if n ≤ 32767 then some { g with shadow := n } else none)) ∧
  (∀ s : State, s.installBusy = true ↔
    (∃ r, s.ckc.ckState.get r = .copying ∨ s.ckc.ckState.get r = .restoring) ∨ s.txe.retire ≠ none ∨ s.txe.clear ≠ none ∨
      s.hbi.access ≠ none) ∧
  ∀ s : State, s.listens →
    (s.mli.control = .config ∨ s.mli.control = .hold →
      ∀ n : Unit16,
        (n.toNat < 16 → exec (.selectRegion n) s = .next
          { s with
            rgd := { s.rgd with pointer := Fin.ofNat 16 n.toNat, phase := 0, staging := Staging.empty }
            mli := s.replied 0x02 [n] [0] }) ∧
        (16 ≤ n.toNat → exec (.selectRegion n) s = .next { s with mli := s.replied 0x02 [n] [3, 0, 0xFFFF] })) ∧
    (s.mli.control = .config ∨ s.mli.control = .hold ∧ s.installBusy = false →
      (∀ (v : Unit16) (g : Staging), s.rgd.phase ≠ 7 → (s.rgd.phase = 0 → v ≠ 0) →
        loadField s.rgd.staging s.rgd.phase v = some g →
        exec (.regionField v) s = .next
          { s with
            rgd := { s.rgd with staging := g, phase := s.rgd.phase + 1 }
            mli := s.replied 0x03 [v] [0] }) ∧
      (∀ v : Unit16, (s.rgd.phase = 0 → v ≠ 0) → loadField s.rgd.staging s.rgd.phase v = none →
        exec (.regionField v) s = .next { s with mli := s.replied 0x03 [v] [3, 0, 0xFFFF] })) ∧
    (s.mli.control = .hold → s.installBusy = true →
      ∀ v, exec (.regionField v) s = .next { s with mli := s.replied 0x03 [v] [1] }) ∧
    (s.mli.control = .run ∨ s.mli.control = .init →
      ∀ v, exec (.selectRegion v) s = .next { s with mli := s.replied 0x02 [v] [2] } ∧
        exec (.regionField v) s = .next { s with mli := s.replied 0x03 [v] [2] })

/-- R25, R29, R30, R34, R36 to R39, R141: the eighth field installs the staged descriptor whole, its attributes clamped to its
class, and a class field of 0 the absence of one: the tag, the checkpoint state, the scrub cursor, and in HOLD the trim of D and the
clear; the layout tag as a sum; the blocks an installation clears; and in HOLD a table that fails validation is refused with its
reason, the staged fields, the pointer and the phase kept. -/
def Obligations.RegionInstalled : Prop :=
  (∀ (s : State) (v : Unit16) (g : Staging) (new : Option Descriptor), s.listens →
    (s.rgd.phase = 7 ∧ v.toNat ≤ 32767 ∧ g = { s.rgd.staging with shadow := v.toNat } ∧ new = some g.toDescriptor ∨
      s.rgd.phase = 0 ∧ v = 0 ∧ g = s.rgd.staging ∧ new = none) →
    ((s.mli.control = .config ∨
      s.mli.control = .hold ∧ s.installBusy = false ∧
        validateTable (s.rgd.table.put s.rgd.pointer new) s.mli.params = none) →
    ∃ t, exec (.regionField v) s = .next t ∧ t.mli = s.replied 0x03 [v] [0] ∧
      t.rgd.pointer = s.rgd.pointer + 1 ∧ t.rgd.phase = 0 ∧ t.rgd.staging = Staging.empty ∧
      t.rgd.loadOpen = s.rgd.loadOpen ∧ t.rgd.layoutTag = layoutTagOf t.rgd.table ∧
      t.sru = { s.sru with cursor := scrubAdjust t.rgd.table s.sru.cursor } ∧
      (∀ r, r ≠ s.rgd.pointer → t.rgd.table.get r = s.rgd.table.get r ∧ t.ckc.ckState.get r = s.ckc.ckState.get r) ∧
      t.rgd.table.get s.rgd.pointer = new ∧
      t.ckc.ckState.get s.rgd.pointer = (if hasAttr (·.checkpoint) t.rgd.table s.rgd.pointer then .broken else .none) ∧
      (s.mli.control = .config → t.ckc.dirty = s.ckc.dirty ∧ t.txe = s.txe ∧ t.mpt = s.mpt) ∧
      (s.mli.control = .hold →
        (∀ x, x ∈ t.ckc.dirty ↔ x ∈ s.ckc.dirty ∧ checkpointed t.rgd.table x = true) ∧
        (installClears s.rgd.pointer (s.rgd.table.get s.rgd.pointer) new = [] → t.txe = s.txe ∧ t.mpt = s.mpt) ∧
        (installClears s.rgd.pointer (s.rgd.table.get s.rgd.pointer) new ≠ [] →
          ∃ begun, t.txe.clear =
            some ⟨false, installClears s.rgd.pointer (s.rgd.table.get s.rgd.pointer) new, 0, 0, begun⟩)) ∧
      { t with rgd := s.rgd, ckc := { t.ckc with ckState := s.ckc.ckState, dirty := s.ckc.dirty }, sru := s.sru
               mli := s.mli, mpt := s.mpt, txe := s.txe } = s) ∧
    (∀ reason r, s.mli.control = .hold → s.installBusy = false →
      validateTable (s.rgd.table.put s.rgd.pointer new) s.mli.params = some (reason, r) →
      exec (.regionField v) s = .next
        { s with
          rgd := { s.rgd with staging := g }
          mli := s.replied 0x03 [v] [3, unit reason.code, match r with
            | some x => unit x.val
            | none => 0xFFFF] }) ∧
    ∀ d, g.toDescriptor = d →
      d.cls = g.cls ∧ d.base = g.base ∧ d.span = g.span ∧ d.len = g.len ∧ d.dir = g.dir ∧ d.key = g.key ∧
      d.attrs.checkpoint = (g.attrs.checkpoint && g.cls == .work) ∧
      d.attrs.agreed = (g.attrs.agreed && (g.cls == .work || g.cls == .cyclic)) ∧
      d.attrs.scrub = (g.attrs.scrub && (g.cls == .code || g.cls == .const || g.cls == .work)) ∧
      d.attrs.vital = g.attrs.vital ∧ d.shadow = if d.attrs.checkpoint then some g.shadow else none) ∧
  (∀ t : Table, (∀ r d, t.get r = some d → d.attrs.agreed = false) → layoutTagOf t = 0) ∧
  (∀ (t : Table) (r : Region) (new : Option Descriptor), t.get r = none →
    layoutTagOf (t.put r new) = layoutTagOf t + (match new with
      | some d => if d.attrs.agreed then unit (d.base + d.len + d.key) else 0
      | none => 0)) ∧
  (∀ (r : Region) (old new : Option Descriptor),
    (∀ c ∈ installClears r old new, c.region = r ∧ c.part = .working ∧ ∃ d, new = some d ∧ c.dir = d.dir) ∧
    (new = none → installClears r old new = []) ∧
    ∀ d, new = some d → 1 ≤ d.len → d.len ≤ d.span →
      (old = none → ∀ b, b ∈ clearedBlocks (installClears r old new) ↔ d.authorised b = true) ∧
      ∀ o, old = some o → 1 ≤ o.len → o.len ≤ o.span →
        (d.cls ≠ o.cls ∨ d.key ≠ o.key ∨ d.base ≠ o.base ∨ d.dir ≠ o.dir ∨ d.span ≠ o.span ∧ d.dir = .down →
          ∀ b, b ∈ clearedBlocks (installClears r old new) ↔ d.authorised b = true) ∧
        (d.cls = o.cls → d.key = o.key → d.base = o.base → d.dir = o.dir → (d.dir = .down → d.span = o.span) →
          (o.len < d.len →
            ∀ b, b ∈ clearedBlocks (installClears r old new) ↔ d.authorised b = true ∧ o.authorised b = false) ∧
          (d.len ≤ o.len → installClears r old new = [])))

/-- R151, R161, R163 to R165, R174, R185: the commands that set the parameters, each with its range and the value held, the
remap table, the alarm, the counters and the fault queue; ALM, asserted while a member is both pending and enabled, in every
state and so after every change of either set; operands out of range and, outside CONFIG, SET_PARAM and LOAD_REMAP change
nothing. That a LOAD_REMAP with an entry count above 8 is answered BAD_VALUE at once (R170) in every control state is the
model's choice (log 24). -/
def Obligations.SettingCommands : Prop :=
  (∀ (p : Params) (v : Nat),
    p.set 1 v = (if 16 ≤ v ∧ v ≤ 22 then some { p with exponent := v } else none) ∧
    p.set 2 v = (if v ≤ 32767 then some { p with spareBase := v } else none) ∧
    p.set 3 v = (if v ≤ 8 then some { p with spareCount := v } else none) ∧
    p.set 4 v = (if v ≤ 8388607 then some { p with marker := v } else none) ∧
    p.set 5 v = (if v = 0 then some { p with twinMode := .single }
      else if v = 1 then some { p with twinMode := .paired } else none) ∧
    p.set 6 v = (if v ≤ 255 then some { p with burst := max 1 (min v 32) } else none) ∧
    p.set 7 v = (if v ≤ 65535 then some { p with scrubInterval := v } else none) ∧
    p.set 8 v = (if v ≤ 255 then some { p with agreementTimeout := max 1 v } else none) ∧
    p.set 9 v = (if v ≤ 255 then some { p with deadline := v } else none) ∧
    ∀ sel, sel = 0 ∨ 9 < sel → p.set sel v = none) ∧
  (∀ s : State, s.alm = true ↔
    s.fau.pending.faultQueued = true ∧ s.fau.mask.faultQueued = true ∨
    s.fau.pending.queueFull = true ∧ s.fau.mask.queueFull = true ∨
    s.fau.pending.vitalDown = true ∧ s.fau.mask.vitalDown = true ∨
    s.fau.pending.linkChange = true ∧ s.fau.mask.linkChange = true ∨
    s.fau.pending.retired = true ∧ s.fau.mask.retired = true ∨
    s.fau.pending.startDone = true ∧ s.fau.mask.startDone = true) ∧
  ∀ s : State, s.listens →
    (∀ (sel : Unit16) (v : BitVec 32) (p : Params), s.mli.control = .config →
      s.mli.params.set sel.toNat v.toNat = some p →
      exec (.setParam sel v) s = .next
        { s with
          sru := { s.sru with
            remap := if p.spareBase = s.mli.params.spareBase ∧ p.spareCount = s.mli.params.spareCount
              then s.sru.remap else [] }
          mli := { s.replied 0x05 [sel, v.extractLsb' 16 16, v.extractLsb' 0 16] [0] with params := p } }) ∧
    (∀ (sel : Unit16) (v : BitVec 32),
      (s.mli.control = .config → s.mli.params.set sel.toNat v.toNat = none →
        exec (.setParam sel v) s = .next
          { s with mli := s.replied 0x05 [sel, v.extractLsb' 16 16, v.extractLsb' 0 16] [3, 0, 0xFFFF] }) ∧
      (s.mli.control ≠ .config →
        exec (.setParam sel v) s = .next
          { s with mli := s.replied 0x05 [sel, v.extractLsb' 16 16, v.extractLsb' 0 16] [2] })) ∧
    (∀ (n : Unit16) (es : List RemapOperand), 8 < n.toNat →
      exec (.loadRemap n es) s = .next { s with mli := s.replied 0x07 [n] [3, 0, 0xFFFF] }) ∧
    (∀ (es : List RemapOperand) (units : List Unit16), es.length ≤ 8 →
      units = unit es.length :: es.flatMap (fun e => [e.block, e.spare, e.state]) →
      (s.mli.control ≠ .config →
        exec (.loadRemap (unit es.length) es) s = .next { s with mli := s.replied 0x07 units [2] }) ∧
      (s.mli.control = .config →
        (∃ e ∈ es, 1 < e.state.toNat ∨ s.mli.params.spareCount ≤ e.spare.toNat ∨
          s.mli.params.blocks ≤ e.block.toNat) ∨
        ¬es.Pairwise (fun a b => a.spare ≠ b.spare) ∨
        ¬es.Pairwise (fun a b => a.state = 0 → b.state = 0 → a.block ≠ b.block) →
        exec (.loadRemap (unit es.length) es) s = .next { s with mli := s.replied 0x07 units [3, 0, 0xFFFF] }) ∧
      (s.mli.control = .config → (∀ e ∈ es, e.state.toNat ≤ 1) →
        (∀ e ∈ es, e.spare.toNat < s.mli.params.spareCount ∧ e.block.toNat < s.mli.params.blocks) →
        es.Pairwise (fun a b => a.spare ≠ b.spare) →
        es.Pairwise (fun a b => a.state = 0 → b.state = 0 → a.block ≠ b.block) →
        exec (.loadRemap (unit es.length) es) s = .next
          { s with
            sru := { s.sru with
              remap := es.map fun e => ⟨e.block.toNat, e.spare.toNat, decide (e.state = 0)⟩ }
            mli := s.replied 0x07 units [0] })) ∧
    (∀ r rest, s.fau.queue = r :: rest →
      exec .popFault s = .next
        { s with fau := { s.fau with queue := rest }, mli := s.replied 0x0D [] (0 :: r.units) }) ∧
    (s.fau.queue = [] → exec .popFault s = .next { s with mli := s.replied 0x0D [] [4] }) ∧
    exec .clearCounters s = .next
      { s with fau := { s.fau with counters := Vector.replicate 22 0 }, mli := s.replied 0x10 [] [0] } ∧
    (∀ m : Unit16, 64 ≤ m.toNat →
      exec (.setAlarmMask m) s = .next { s with mli := s.replied 0x11 [m] [3, 0, 0xFFFF] } ∧
      exec (.ackAlarm m) s = .next { s with mli := s.replied 0x12 [m] [3, 0, 0xFFFF] }) ∧
    (∀ m : Unit16, m.toNat < 64 →
      exec (.setAlarmMask m) s = .next
        { s with
          fau := { s.fau with mask := ⟨m.getLsbD 0, m.getLsbD 1, m.getLsbD 2, m.getLsbD 3, m.getLsbD 4, m.getLsbD 5⟩ }
          mli := s.replied 0x11 [m] [0] } ∧
      exec (.ackAlarm m) s = .next
        { s with
          fau := { s.fau with pending :=
            ⟨s.fau.pending.faultQueued && !m.getLsbD 0, s.fau.pending.queueFull && !m.getLsbD 1,
              s.fau.pending.vitalDown && !m.getLsbD 2, s.fau.pending.linkChange && !m.getLsbD 3,
              s.fau.pending.retired && !m.getLsbD 4, s.fau.pending.startDone && !m.getLsbD 5⟩ }
          mli := s.replied 0x12 [m] [0] })

/-- R35, R36, R58, R66, R78, R80, R169, R175, R176, R178 to R180, R185: the conditions of validation, the first that fails and
the descriptor reported; what the START clear covers, and in which order; START validates and enters INIT with that clear
requested; HOLD and RELEASE go between RUN and HOLD, HOLD with a scrub burst withdrawn and all other work of the engine going
on; REINIT enters CONFIG from any state, keeping the table, parameters, remap table, link, counters, queue and memory, after the
group in hand, where it has begun, is carried through without an end on the bus. Whether a group in hand has begun is a free
value (log 38); that the last write of a retire copy then completes it is the model's reading of R75 (log 39); that REINIT keeps
the twin receiver's open frame is the model's choice (log 33). -/
def Obligations.ControlCommands : Prop :=
  (∀ (t : Table) (p : Params), 16 ≤ p.exponent →
    p.blocks * 128 = 2 ^ p.exponent ∧
    (validateTable t p = none ↔ ∀ k ∈ tableRows, ¬failsRow t p k) ∧
    ∀ (pre post : List Reason) (k : Reason), tableRows = pre ++ k :: post → (∀ j ∈ pre, ¬failsRow t p j) →
      failsRow t p k →
      (k = .spareRange ∨ k = .markerPlace → validateTable t p = some (k, none)) ∧
      (k ≠ .spareRange → k ≠ .markerPlace → ∀ r, breaksRow t p k r → (∀ r' < r, ¬breaksRow t p k r') →
        validateTable t p = some (k, some r))) ∧
  (∀ (g : Rgd) (p : Params), (g.phase ≠ 0 → validateStart g p = some (.stagingPartial, none)) ∧
    (g.phase = 0 → validateStart g p = validateTable g.table p)) ∧
  [Reason.operand, .stagingPartial, .windowRange, .shadowRange, .spareRange, .windowOverlap, .spareOverlap, .shadowOverlap,
    .markerPlace].map Reason.code = [0, 1, 2, 3, 4, 5, 6, 7, 8] ∧
  (∀ t : Table,
    (startClears t).Pairwise (fun a b => a.region < b.region ∨
      a.region = b.region ∧ a.part = .working ∧ b.part = .shadow) ∧
    (∀ c ∈ startClears t, ∃ d, t.get c.region = some d ∧ c.dir = d.dir) ∧
    ∀ r b,
      (b ∈ clearedBlocks ((startClears t).filter fun c => c.region == r && c.part == .working) ↔
        ∃ d, t.get r = some d ∧ d.authorised b = true) ∧
      ((∀ d, t.get r = some d → 1 ≤ d.len ∧ d.len ≤ d.span) →
        (b ∈ clearedBlocks ((startClears t).filter fun c => c.region == r && c.part == .shadow) ↔
          ∃ d sb x, t.get r = some d ∧ d.shadow = some sb ∧ d.authorised x = true ∧ b = sb + (x - d.base)))) ∧
  ∀ s : State, s.listens →
    (s.mli.control = .config → (∀ x, validateStart s.rgd s.mli.params = some x →
        exec .start s = .next
          { s with mli := s.replied 0x09 [] [3, unit x.1.code, match x.2 with
            | some r => unit r.val
            | none => 0xFFFF] }) ∧
      (validateStart s.rgd s.mli.params = none →
        ∃ t begun, exec .start s = .next t ∧ t.mli = { s.replied 0x09 [] [0] with control := .init } ∧
          t.rgd = { s.rgd with layoutTag := layoutTagOf s.rgd.table } ∧
          t.cau = { s.cau with digest := 0, taint := TaintSet.empty, carry := TaintSet.empty, slot := none } ∧
          t.fau = { s.fau with epochFlag := false, qualified := false } ∧
          t.sru = { s.sru with
            cursor := scrubFrom s.rgd.table 0
            scrubTimer := if s.mli.params.scrubInterval = 0 then none else some s.mli.params.scrubInterval } ∧
          t.txe.clear = some ⟨true, startClears s.rgd.table, 0, 0, begun⟩ ∧
          { t with rgd := s.rgd, cau := s.cau, fau := s.fau, sru := s.sru, mli := s.mli, mpt := s.mpt, txe := s.txe } = s)) ∧
    (s.mli.control ≠ .config → exec .start s = .next { s with mli := s.replied 0x09 [] [2] }) ∧
    (s.mli.control = .run →
      ∃ t, exec .hold s = .next t ∧ t.mli = { s.replied 0x0B [] [0] with control := .hold } ∧ t.txe.scrub = none ∧
        t.txe.fifo = s.txe.fifo ∧ t.txe.fifoMode = s.txe.fifoMode ∧ workKept s t ∧
        (∀ k, s.txe.active = some k → k ≠ .scrubBurst →
          t.txe = { s.txe with scrub := none } ∧ (s.mpt.grant ≠ .none → t.mpt = s.mpt)) ∧
        (s.txe.active = none ∨ s.txe.active = some .scrubBurst →
          (∀ k, { s.txe with scrub := none }.highest = some k → s.goesOn k → t.txe.active = some k) ∧
          ({ s.txe with scrub := none }.highest = none → t.txe.active = none)) ∧
        { t with mli := s.mli, mpt := s.mpt, txe := s.txe } = s) ∧
    (s.mli.control = .hold → exec .hold s = .next { s with mli := s.replied 0x0B [] [0] }) ∧
    (s.mli.control = .config ∨ s.mli.control = .init → exec .hold s = .next { s with mli := s.replied 0x0B [] [2] }) ∧
    (s.mli.control = .hold →
      ((∀ o, s.txe.clear = some o → o.atStart = true) →
        exec .release s = .next { s with mli := { s.replied 0x0C [] [0] with control := .run } }) ∧
      (∀ o, s.txe.clear = some o → o.atStart = false →
        exec .release s = .next { s with mli := s.replied 0x0C [] [1] })) ∧
    (s.mli.control = .config ∨ s.mli.control = .init ∨ s.mli.control = .run →
      exec .release s = .next { s with mli := s.replied 0x0C [] [2] }) ∧
    (∃ t u, exec .reinit s = .next t ∧ (u = s ∨ s.carried u) ∧
      t.mli = { s.replied 0x0A [] [0] with control := .config, readResult := .none } ∧
      t.rgd = { s.rgd with pointer := 0, phase := 0, staging := Staging.empty, loadOpen := true } ∧
      t.hbi = { access := none, presented := none, busEnd := s.hbi.busEnd } ∧ t.cdu.latch = none ∧
      t.mpt.grant = .none ∧ t.mpt.count = 0 ∧ t.txe.highest = none ∧ t.txe.active = none ∧ t.txe.fifo = [] ∧
      t.txe.fifoMode = .empty ∧ t.ckc.dirty = [] ∧ t.ckc.pass = [] ∧ t.ckc.restore = [] ∧
      (∀ r, t.ckc.ckState.get r = if hasAttr (·.checkpoint) s.rgd.table r then .broken else .none) ∧
      t.cau = State.reset.cau ∧ t.twl = { s.twl with waiting := none } ∧
      t.sru = { State.reset.sru with remap := u.sru.remap } ∧
      t.fau = { u.fau with ven := false, epochFlag := false, qualified := false } ∧ t.planeP = u.planeP ∧
      t.planeQ = u.planeQ)

/-- R121, R122, R149, R150, R168: in RUN and HOLD a rollback and a retirement may be requested; in RUN, with the qualification SET,
VEN goes HIGH and the latch is cleared; otherwise WRONG_STATE, and nothing changes. A rollback requested while a local MARK is fixed
goes to the carry set; that one requested after the verdict, before its verdict word is written, goes to the taint set is the
model's choice (log 16). -/
def Obligations.RequestCommands : Prop :=
  ∀ s : State, s.listens →
    (s.mli.control = .run → s.fau.qualified = true →
      exec .enableVital s = .next
        { s with fau := { s.fau with ven := true, latch := false }, mli := s.replied 0x13 [] [0] }) ∧
    (s.mli.control ≠ .run ∨ s.fau.qualified = false →
      exec .enableVital s = .next { s with mli := s.replied 0x13 [] [2] }) ∧
    (s.mli.control = .run ∨ s.mli.control = .hold →
      (s.cau.localMark = none →
        exec .requestRollback s = .next
          { s with cau := { s.cau with taint := { s.cau.taint with maint := true } }, mli := s.replied 0x14 [] [0] }) ∧
      (s.cau.localMark ≠ none →
        exec .requestRollback s = .next
          { s with cau := { s.cau with carry := { s.cau.carry with maint := true } }, mli := s.replied 0x14 [] [0] })) ∧
    (s.mli.control = .config ∨ s.mli.control = .init →
      exec .requestRollback s = .next { s with mli := s.replied 0x14 [] [2] } ∧
      ∀ b, exec (.retireBlock b) s = .next { s with mli := s.replied 0x15 [b] [2] }) ∧
    (∀ b : Unit16, s.mli.control = .run ∨ s.mli.control = .hold →
      (ownerOf s.rgd.table b.toNat = none →
        exec (.retireBlock b) s = .next { s with mli := s.replied 0x15 [b] [3, 0, 0xFFFF] }) ∧
      (ownerOf s.rgd.table b.toNat ≠ none →
        (b.toNat ∈ s.sru.retireQueue → exec (.retireBlock b) s = .next { s with mli := s.replied 0x15 [b] [0] }) ∧
        (b.toNat ∉ s.sru.retireQueue → s.sru.retireQueue.length < 4 →
          exec (.retireBlock b) s = .next
            { s with
              sru := { s.sru with retireQueue := s.sru.retireQueue ++ [b.toNat] }, mli := s.replied 0x15 [b] [0] }) ∧
        (b.toNat ∉ s.sru.retireQueue → s.sru.retireQueue.length = 4 →
          ∃ t r, exec (.retireBlock b) s = .next t ∧ t.mli = s.replied 0x15 [b] [1] ∧ t.fau = s.fau.take r ∧
            r.kind = .retireQueueFull ∧ r.vital = false ∧ r.word = some (b.toNat * 128) ∧
            { t with fau := s.fau, mli := s.mli } = s)))
end

