-- ==== Sys2Proof/Laws/State.lean ====
section
/-!
SUPPORT. One lemma for each field of the state and each plain update of it, so that no later proof unfolds a record update.
-/
namespace Sys2Proof.Machine

/-! ### The fields an update leaves alone -/

@[simp] theorem putP_inReset (s : State) (pw : Nat) (p : Word) : (s.putP pw p).inReset = s.inReset := rfl
@[simp] theorem putP_hbi (s : State) (pw : Nat) (p : Word) : (s.putP pw p).hbi = s.hbi := rfl
@[simp] theorem putP_rgd (s : State) (pw : Nat) (p : Word) : (s.putP pw p).rgd = s.rgd := rfl
@[simp] theorem putP_cdu (s : State) (pw : Nat) (p : Word) : (s.putP pw p).cdu = s.cdu := rfl
@[simp] theorem putP_mpt (s : State) (pw : Nat) (p : Word) : (s.putP pw p).mpt = s.mpt := rfl
@[simp] theorem putP_txe (s : State) (pw : Nat) (p : Word) : (s.putP pw p).txe = s.txe := rfl
@[simp] theorem putP_ckc (s : State) (pw : Nat) (p : Word) : (s.putP pw p).ckc = s.ckc := rfl
@[simp] theorem putP_cau (s : State) (pw : Nat) (p : Word) : (s.putP pw p).cau = s.cau := rfl
@[simp] theorem putP_twl (s : State) (pw : Nat) (p : Word) : (s.putP pw p).twl = s.twl := rfl
@[simp] theorem putP_sru (s : State) (pw : Nat) (p : Word) : (s.putP pw p).sru = s.sru := rfl
@[simp] theorem putP_fau (s : State) (pw : Nat) (p : Word) : (s.putP pw p).fau = s.fau := rfl
@[simp] theorem putP_mli (s : State) (pw : Nat) (p : Word) : (s.putP pw p).mli = s.mli := rfl
@[simp] theorem putP_planeQ (s : State) (pw : Nat) (p : Word) : (s.putP pw p).planeQ = s.planeQ := rfl
@[simp] theorem putP_pending (s : State) (pw : Nat) (p : Word) : (s.putP pw p).pending = s.pending := rfl
@[simp] theorem putP_cuts (s : State) (pw : Nat) (p : Word) : (s.putP pw p).cuts = s.cuts := rfl

@[simp] theorem putQ_inReset (s : State) (pw : Nat) (q : Code) : (s.putQ pw q).inReset = s.inReset := rfl
@[simp] theorem putQ_hbi (s : State) (pw : Nat) (q : Code) : (s.putQ pw q).hbi = s.hbi := rfl
@[simp] theorem putQ_rgd (s : State) (pw : Nat) (q : Code) : (s.putQ pw q).rgd = s.rgd := rfl
@[simp] theorem putQ_cdu (s : State) (pw : Nat) (q : Code) : (s.putQ pw q).cdu = s.cdu := rfl
@[simp] theorem putQ_mpt (s : State) (pw : Nat) (q : Code) : (s.putQ pw q).mpt = s.mpt := rfl
@[simp] theorem putQ_txe (s : State) (pw : Nat) (q : Code) : (s.putQ pw q).txe = s.txe := rfl
@[simp] theorem putQ_ckc (s : State) (pw : Nat) (q : Code) : (s.putQ pw q).ckc = s.ckc := rfl
@[simp] theorem putQ_cau (s : State) (pw : Nat) (q : Code) : (s.putQ pw q).cau = s.cau := rfl
@[simp] theorem putQ_twl (s : State) (pw : Nat) (q : Code) : (s.putQ pw q).twl = s.twl := rfl
@[simp] theorem putQ_sru (s : State) (pw : Nat) (q : Code) : (s.putQ pw q).sru = s.sru := rfl
@[simp] theorem putQ_fau (s : State) (pw : Nat) (q : Code) : (s.putQ pw q).fau = s.fau := rfl
@[simp] theorem putQ_mli (s : State) (pw : Nat) (q : Code) : (s.putQ pw q).mli = s.mli := rfl
@[simp] theorem putQ_planeP (s : State) (pw : Nat) (q : Code) : (s.putQ pw q).planeP = s.planeP := rfl
@[simp] theorem putQ_pending (s : State) (pw : Nat) (q : Code) : (s.putQ pw q).pending = s.pending := rfl
@[simp] theorem putQ_cuts (s : State) (pw : Nat) (q : Code) : (s.putQ pw q).cuts = s.cuts := rfl

@[simp] theorem putPair_inReset (s : State) (pw : Nat) (p : Word) (q : Code) : (s.putPair pw p q).inReset = s.inReset := rfl
@[simp] theorem putPair_hbi (s : State) (pw : Nat) (p : Word) (q : Code) : (s.putPair pw p q).hbi = s.hbi := rfl
@[simp] theorem putPair_rgd (s : State) (pw : Nat) (p : Word) (q : Code) : (s.putPair pw p q).rgd = s.rgd := rfl
@[simp] theorem putPair_cdu (s : State) (pw : Nat) (p : Word) (q : Code) : (s.putPair pw p q).cdu = s.cdu := rfl
@[simp] theorem putPair_mpt (s : State) (pw : Nat) (p : Word) (q : Code) : (s.putPair pw p q).mpt = s.mpt := rfl
@[simp] theorem putPair_txe (s : State) (pw : Nat) (p : Word) (q : Code) : (s.putPair pw p q).txe = s.txe := rfl
@[simp] theorem putPair_ckc (s : State) (pw : Nat) (p : Word) (q : Code) : (s.putPair pw p q).ckc = s.ckc := rfl
@[simp] theorem putPair_cau (s : State) (pw : Nat) (p : Word) (q : Code) : (s.putPair pw p q).cau = s.cau := rfl
@[simp] theorem putPair_twl (s : State) (pw : Nat) (p : Word) (q : Code) : (s.putPair pw p q).twl = s.twl := rfl
@[simp] theorem putPair_sru (s : State) (pw : Nat) (p : Word) (q : Code) : (s.putPair pw p q).sru = s.sru := rfl
@[simp] theorem putPair_fau (s : State) (pw : Nat) (p : Word) (q : Code) : (s.putPair pw p q).fau = s.fau := rfl
@[simp] theorem putPair_mli (s : State) (pw : Nat) (p : Word) (q : Code) : (s.putPair pw p q).mli = s.mli := rfl
@[simp] theorem putPair_pending (s : State) (pw : Nat) (p : Word) (q : Code) : (s.putPair pw p q).pending = s.pending := rfl
@[simp] theorem putPair_cuts (s : State) (pw : Nat) (p : Word) (q : Code) : (s.putPair pw p q).cuts = s.cuts := rfl

@[simp] theorem writeWord_inReset (s : State) (w : Nat) (t : Terms) (d : Word) : (s.writeWord w t d).inReset = s.inReset := rfl
@[simp] theorem writeWord_hbi (s : State) (w : Nat) (t : Terms) (d : Word) : (s.writeWord w t d).hbi = s.hbi := rfl
@[simp] theorem writeWord_rgd (s : State) (w : Nat) (t : Terms) (d : Word) : (s.writeWord w t d).rgd = s.rgd := rfl
@[simp] theorem writeWord_cdu (s : State) (w : Nat) (t : Terms) (d : Word) : (s.writeWord w t d).cdu = s.cdu := rfl
@[simp] theorem writeWord_mpt (s : State) (w : Nat) (t : Terms) (d : Word) : (s.writeWord w t d).mpt = s.mpt := rfl
@[simp] theorem writeWord_txe (s : State) (w : Nat) (t : Terms) (d : Word) : (s.writeWord w t d).txe = s.txe := rfl
@[simp] theorem writeWord_ckc (s : State) (w : Nat) (t : Terms) (d : Word) : (s.writeWord w t d).ckc = s.ckc := rfl
@[simp] theorem writeWord_cau (s : State) (w : Nat) (t : Terms) (d : Word) : (s.writeWord w t d).cau = s.cau := rfl
@[simp] theorem writeWord_twl (s : State) (w : Nat) (t : Terms) (d : Word) : (s.writeWord w t d).twl = s.twl := rfl
@[simp] theorem writeWord_sru (s : State) (w : Nat) (t : Terms) (d : Word) : (s.writeWord w t d).sru = s.sru := rfl
@[simp] theorem writeWord_fau (s : State) (w : Nat) (t : Terms) (d : Word) : (s.writeWord w t d).fau = s.fau := rfl
@[simp] theorem writeWord_mli (s : State) (w : Nat) (t : Terms) (d : Word) : (s.writeWord w t d).mli = s.mli := rfl
@[simp] theorem writeWord_pending (s : State) (w : Nat) (t : Terms) (d : Word) : (s.writeWord w t d).pending = s.pending := rfl
@[simp] theorem writeWord_cuts (s : State) (w : Nat) (t : Terms) (d : Word) : (s.writeWord w t d).cuts = s.cuts := rfl

@[simp] theorem takeFault_inReset (s : State) (f : FaultReport) : (s.takeFault f).inReset = s.inReset := rfl
@[simp] theorem takeFault_hbi (s : State) (f : FaultReport) : (s.takeFault f).hbi = s.hbi := rfl
@[simp] theorem takeFault_rgd (s : State) (f : FaultReport) : (s.takeFault f).rgd = s.rgd := rfl
@[simp] theorem takeFault_cdu (s : State) (f : FaultReport) : (s.takeFault f).cdu = s.cdu := rfl
@[simp] theorem takeFault_mpt (s : State) (f : FaultReport) : (s.takeFault f).mpt = s.mpt := rfl
@[simp] theorem takeFault_txe (s : State) (f : FaultReport) : (s.takeFault f).txe = s.txe := rfl
@[simp] theorem takeFault_ckc (s : State) (f : FaultReport) : (s.takeFault f).ckc = s.ckc := rfl
@[simp] theorem takeFault_twl (s : State) (f : FaultReport) : (s.takeFault f).twl = s.twl := rfl
@[simp] theorem takeFault_sru (s : State) (f : FaultReport) : (s.takeFault f).sru = s.sru := rfl
@[simp] theorem takeFault_mli (s : State) (f : FaultReport) : (s.takeFault f).mli = s.mli := rfl
@[simp] theorem takeFault_planeP (s : State) (f : FaultReport) : (s.takeFault f).planeP = s.planeP := rfl
@[simp] theorem takeFault_planeQ (s : State) (f : FaultReport) : (s.takeFault f).planeQ = s.planeQ := rfl
@[simp] theorem takeFault_pending (s : State) (f : FaultReport) : (s.takeFault f).pending = s.pending := rfl
@[simp] theorem takeFault_cuts (s : State) (f : FaultReport) : (s.takeFault f).cuts = s.cuts := rfl

@[simp] theorem takeRetireFault_inReset (s : State) (f : FaultReport) : (s.takeRetireFault f).inReset = s.inReset := by
  unfold State.takeRetireFault; dsimp only; split <;> rfl
@[simp] theorem takeRetireFault_hbi (s : State) (f : FaultReport) : (s.takeRetireFault f).hbi = s.hbi := by
  unfold State.takeRetireFault; dsimp only; split <;> rfl
@[simp] theorem takeRetireFault_rgd (s : State) (f : FaultReport) : (s.takeRetireFault f).rgd = s.rgd := by
  unfold State.takeRetireFault; dsimp only; split <;> rfl
@[simp] theorem takeRetireFault_cdu (s : State) (f : FaultReport) : (s.takeRetireFault f).cdu = s.cdu := by
  unfold State.takeRetireFault; dsimp only; split <;> rfl
@[simp] theorem takeRetireFault_mpt (s : State) (f : FaultReport) : (s.takeRetireFault f).mpt = s.mpt := by
  unfold State.takeRetireFault; dsimp only; split <;> rfl
@[simp] theorem takeRetireFault_txe (s : State) (f : FaultReport) : (s.takeRetireFault f).txe = s.txe := by
  unfold State.takeRetireFault; dsimp only; split <;> rfl
@[simp] theorem takeRetireFault_ckc (s : State) (f : FaultReport) : (s.takeRetireFault f).ckc = s.ckc := by
  unfold State.takeRetireFault; dsimp only; split <;> rfl
@[simp] theorem takeRetireFault_twl (s : State) (f : FaultReport) : (s.takeRetireFault f).twl = s.twl := by
  unfold State.takeRetireFault; dsimp only; split <;> rfl
@[simp] theorem takeRetireFault_sru (s : State) (f : FaultReport) : (s.takeRetireFault f).sru = s.sru := by
  unfold State.takeRetireFault; dsimp only; split <;> rfl
@[simp] theorem takeRetireFault_mli (s : State) (f : FaultReport) : (s.takeRetireFault f).mli = s.mli := by
  unfold State.takeRetireFault; dsimp only; split <;> rfl
@[simp] theorem takeRetireFault_planeP (s : State) (f : FaultReport) : (s.takeRetireFault f).planeP = s.planeP := by
  unfold State.takeRetireFault; dsimp only; split <;> rfl
@[simp] theorem takeRetireFault_planeQ (s : State) (f : FaultReport) : (s.takeRetireFault f).planeQ = s.planeQ := by
  unfold State.takeRetireFault; dsimp only; split <;> rfl
@[simp] theorem takeRetireFault_pending (s : State) (f : FaultReport) : (s.takeRetireFault f).pending = s.pending := by
  unfold State.takeRetireFault; dsimp only; split <;> rfl
@[simp] theorem takeRetireFault_cuts (s : State) (f : FaultReport) : (s.takeRetireFault f).cuts = s.cuts := by
  unfold State.takeRetireFault; dsimp only; split <;> rfl

@[simp] theorem loadLatch_inReset (s : State) (rep : CheckReport) : (s.loadLatch rep).inReset = s.inReset := rfl
@[simp] theorem loadLatch_hbi (s : State) (rep : CheckReport) : (s.loadLatch rep).hbi = s.hbi := rfl
@[simp] theorem loadLatch_rgd (s : State) (rep : CheckReport) : (s.loadLatch rep).rgd = s.rgd := rfl
@[simp] theorem loadLatch_mpt (s : State) (rep : CheckReport) : (s.loadLatch rep).mpt = s.mpt := rfl
@[simp] theorem loadLatch_txe (s : State) (rep : CheckReport) : (s.loadLatch rep).txe = s.txe := rfl
@[simp] theorem loadLatch_ckc (s : State) (rep : CheckReport) : (s.loadLatch rep).ckc = s.ckc := rfl
@[simp] theorem loadLatch_cau (s : State) (rep : CheckReport) : (s.loadLatch rep).cau = s.cau := rfl
@[simp] theorem loadLatch_twl (s : State) (rep : CheckReport) : (s.loadLatch rep).twl = s.twl := rfl
@[simp] theorem loadLatch_sru (s : State) (rep : CheckReport) : (s.loadLatch rep).sru = s.sru := rfl
@[simp] theorem loadLatch_fau (s : State) (rep : CheckReport) : (s.loadLatch rep).fau = s.fau := rfl
@[simp] theorem loadLatch_mli (s : State) (rep : CheckReport) : (s.loadLatch rep).mli = s.mli := rfl
@[simp] theorem loadLatch_planeP (s : State) (rep : CheckReport) : (s.loadLatch rep).planeP = s.planeP := rfl
@[simp] theorem loadLatch_planeQ (s : State) (rep : CheckReport) : (s.loadLatch rep).planeQ = s.planeQ := rfl
@[simp] theorem loadLatch_pending (s : State) (rep : CheckReport) : (s.loadLatch rep).pending = s.pending := rfl
@[simp] theorem loadLatch_cuts (s : State) (rep : CheckReport) : (s.loadLatch rep).cuts = s.cuts := rfl

@[simp] theorem addDigest_inReset (s : State) (x : BitVec 32) : (s.addDigest x).inReset = s.inReset := rfl
@[simp] theorem addDigest_hbi (s : State) (x : BitVec 32) : (s.addDigest x).hbi = s.hbi := rfl
@[simp] theorem addDigest_rgd (s : State) (x : BitVec 32) : (s.addDigest x).rgd = s.rgd := rfl
@[simp] theorem addDigest_cdu (s : State) (x : BitVec 32) : (s.addDigest x).cdu = s.cdu := rfl
@[simp] theorem addDigest_mpt (s : State) (x : BitVec 32) : (s.addDigest x).mpt = s.mpt := rfl
@[simp] theorem addDigest_txe (s : State) (x : BitVec 32) : (s.addDigest x).txe = s.txe := rfl
@[simp] theorem addDigest_ckc (s : State) (x : BitVec 32) : (s.addDigest x).ckc = s.ckc := rfl
@[simp] theorem addDigest_twl (s : State) (x : BitVec 32) : (s.addDigest x).twl = s.twl := rfl
@[simp] theorem addDigest_sru (s : State) (x : BitVec 32) : (s.addDigest x).sru = s.sru := rfl
@[simp] theorem addDigest_fau (s : State) (x : BitVec 32) : (s.addDigest x).fau = s.fau := rfl
@[simp] theorem addDigest_mli (s : State) (x : BitVec 32) : (s.addDigest x).mli = s.mli := rfl
@[simp] theorem addDigest_planeP (s : State) (x : BitVec 32) : (s.addDigest x).planeP = s.planeP := rfl
@[simp] theorem addDigest_planeQ (s : State) (x : BitVec 32) : (s.addDigest x).planeQ = s.planeQ := rfl
@[simp] theorem addDigest_pending (s : State) (x : BitVec 32) : (s.addDigest x).pending = s.pending := rfl
@[simp] theorem addDigest_cuts (s : State) (x : BitVec 32) : (s.addDigest x).cuts = s.cuts := rfl

@[simp] theorem grantEngine_inReset (s : State) : (s.grantEngine).inReset = s.inReset := rfl
@[simp] theorem grantEngine_hbi (s : State) : (s.grantEngine).hbi = s.hbi := rfl
@[simp] theorem grantEngine_rgd (s : State) : (s.grantEngine).rgd = s.rgd := rfl
@[simp] theorem grantEngine_cdu (s : State) : (s.grantEngine).cdu = s.cdu := rfl
@[simp] theorem grantEngine_txe (s : State) : (s.grantEngine).txe = s.txe := rfl
@[simp] theorem grantEngine_ckc (s : State) : (s.grantEngine).ckc = s.ckc := rfl
@[simp] theorem grantEngine_cau (s : State) : (s.grantEngine).cau = s.cau := rfl
@[simp] theorem grantEngine_twl (s : State) : (s.grantEngine).twl = s.twl := rfl
@[simp] theorem grantEngine_sru (s : State) : (s.grantEngine).sru = s.sru := rfl
@[simp] theorem grantEngine_fau (s : State) : (s.grantEngine).fau = s.fau := rfl
@[simp] theorem grantEngine_mli (s : State) : (s.grantEngine).mli = s.mli := rfl
@[simp] theorem grantEngine_planeP (s : State) : (s.grantEngine).planeP = s.planeP := rfl
@[simp] theorem grantEngine_planeQ (s : State) : (s.grantEngine).planeQ = s.planeQ := rfl
@[simp] theorem grantEngine_pending (s : State) : (s.grantEngine).pending = s.pending := rfl
@[simp] theorem grantEngine_cuts (s : State) : (s.grantEngine).cuts = s.cuts := rfl

@[simp] theorem suspendScrub_inReset (s : State) : (s.suspendScrub).inReset = s.inReset := rfl
@[simp] theorem suspendScrub_hbi (s : State) : (s.suspendScrub).hbi = s.hbi := rfl
@[simp] theorem suspendScrub_rgd (s : State) : (s.suspendScrub).rgd = s.rgd := rfl
@[simp] theorem suspendScrub_cdu (s : State) : (s.suspendScrub).cdu = s.cdu := rfl
@[simp] theorem suspendScrub_mpt (s : State) : (s.suspendScrub).mpt = s.mpt := rfl
@[simp] theorem suspendScrub_ckc (s : State) : (s.suspendScrub).ckc = s.ckc := rfl
@[simp] theorem suspendScrub_cau (s : State) : (s.suspendScrub).cau = s.cau := rfl
@[simp] theorem suspendScrub_twl (s : State) : (s.suspendScrub).twl = s.twl := rfl
@[simp] theorem suspendScrub_sru (s : State) : (s.suspendScrub).sru = s.sru := rfl
@[simp] theorem suspendScrub_fau (s : State) : (s.suspendScrub).fau = s.fau := rfl
@[simp] theorem suspendScrub_mli (s : State) : (s.suspendScrub).mli = s.mli := rfl
@[simp] theorem suspendScrub_planeP (s : State) : (s.suspendScrub).planeP = s.planeP := rfl
@[simp] theorem suspendScrub_planeQ (s : State) : (s.suspendScrub).planeQ = s.planeQ := rfl
@[simp] theorem suspendScrub_pending (s : State) : (s.suspendScrub).pending = s.pending := rfl
@[simp] theorem suspendScrub_cuts (s : State) : (s.suspendScrub).cuts = s.cuts := rfl

@[simp] theorem endAccess_inReset (s : State) (a : Access) (e : BusEnd) : (s.endAccess a e).inReset = s.inReset := rfl
@[simp] theorem endAccess_rgd (s : State) (a : Access) (e : BusEnd) : (s.endAccess a e).rgd = s.rgd := rfl
@[simp] theorem endAccess_cdu (s : State) (a : Access) (e : BusEnd) : (s.endAccess a e).cdu = s.cdu := rfl
@[simp] theorem endAccess_mpt (s : State) (a : Access) (e : BusEnd) : (s.endAccess a e).mpt = s.mpt := rfl
@[simp] theorem endAccess_txe (s : State) (a : Access) (e : BusEnd) : (s.endAccess a e).txe = s.txe := rfl
@[simp] theorem endAccess_ckc (s : State) (a : Access) (e : BusEnd) : (s.endAccess a e).ckc = s.ckc := rfl
@[simp] theorem endAccess_cau (s : State) (a : Access) (e : BusEnd) : (s.endAccess a e).cau = s.cau := rfl
@[simp] theorem endAccess_twl (s : State) (a : Access) (e : BusEnd) : (s.endAccess a e).twl = s.twl := rfl
@[simp] theorem endAccess_sru (s : State) (a : Access) (e : BusEnd) : (s.endAccess a e).sru = s.sru := rfl
@[simp] theorem endAccess_fau (s : State) (a : Access) (e : BusEnd) : (s.endAccess a e).fau = s.fau := rfl
@[simp] theorem endAccess_mli (s : State) (a : Access) (e : BusEnd) : (s.endAccess a e).mli = s.mli := rfl
@[simp] theorem endAccess_planeP (s : State) (a : Access) (e : BusEnd) : (s.endAccess a e).planeP = s.planeP := rfl
@[simp] theorem endAccess_planeQ (s : State) (a : Access) (e : BusEnd) : (s.endAccess a e).planeQ = s.planeQ := rfl
@[simp] theorem endAccess_pending (s : State) (a : Access) (e : BusEnd) : (s.endAccess a e).pending = s.pending := rfl
@[simp] theorem endAccess_cuts (s : State) (a : Access) (e : BusEnd) : (s.endAccess a e).cuts = s.cuts := rfl

@[simp] theorem enterPhase_inReset (s : State) (a : Access) (p : Phase) : (s.enterPhase a p).inReset = s.inReset := rfl
@[simp] theorem enterPhase_rgd (s : State) (a : Access) (p : Phase) : (s.enterPhase a p).rgd = s.rgd := rfl
@[simp] theorem enterPhase_cdu (s : State) (a : Access) (p : Phase) : (s.enterPhase a p).cdu = s.cdu := rfl
@[simp] theorem enterPhase_mpt (s : State) (a : Access) (p : Phase) : (s.enterPhase a p).mpt = s.mpt := rfl
@[simp] theorem enterPhase_txe (s : State) (a : Access) (p : Phase) : (s.enterPhase a p).txe = s.txe := rfl
@[simp] theorem enterPhase_ckc (s : State) (a : Access) (p : Phase) : (s.enterPhase a p).ckc = s.ckc := rfl
@[simp] theorem enterPhase_cau (s : State) (a : Access) (p : Phase) : (s.enterPhase a p).cau = s.cau := rfl
@[simp] theorem enterPhase_twl (s : State) (a : Access) (p : Phase) : (s.enterPhase a p).twl = s.twl := rfl
@[simp] theorem enterPhase_sru (s : State) (a : Access) (p : Phase) : (s.enterPhase a p).sru = s.sru := rfl
@[simp] theorem enterPhase_fau (s : State) (a : Access) (p : Phase) : (s.enterPhase a p).fau = s.fau := rfl
@[simp] theorem enterPhase_mli (s : State) (a : Access) (p : Phase) : (s.enterPhase a p).mli = s.mli := rfl
@[simp] theorem enterPhase_planeP (s : State) (a : Access) (p : Phase) : (s.enterPhase a p).planeP = s.planeP := rfl
@[simp] theorem enterPhase_planeQ (s : State) (a : Access) (p : Phase) : (s.enterPhase a p).planeQ = s.planeQ := rfl
@[simp] theorem enterPhase_pending (s : State) (a : Access) (p : Phase) : (s.enterPhase a p).pending = s.pending := rfl
@[simp] theorem enterPhase_cuts (s : State) (a : Access) (p : Phase) : (s.enterPhase a p).cuts = s.cuts := rfl

@[simp] theorem answer_inReset (s : State) (st : Status) (d : List Unit16) : (s.answer st d).inReset = s.inReset := rfl
@[simp] theorem answer_hbi (s : State) (st : Status) (d : List Unit16) : (s.answer st d).hbi = s.hbi := rfl
@[simp] theorem answer_rgd (s : State) (st : Status) (d : List Unit16) : (s.answer st d).rgd = s.rgd := rfl
@[simp] theorem answer_cdu (s : State) (st : Status) (d : List Unit16) : (s.answer st d).cdu = s.cdu := rfl
@[simp] theorem answer_mpt (s : State) (st : Status) (d : List Unit16) : (s.answer st d).mpt = s.mpt := rfl
@[simp] theorem answer_txe (s : State) (st : Status) (d : List Unit16) : (s.answer st d).txe = s.txe := rfl
@[simp] theorem answer_ckc (s : State) (st : Status) (d : List Unit16) : (s.answer st d).ckc = s.ckc := rfl
@[simp] theorem answer_cau (s : State) (st : Status) (d : List Unit16) : (s.answer st d).cau = s.cau := rfl
@[simp] theorem answer_twl (s : State) (st : Status) (d : List Unit16) : (s.answer st d).twl = s.twl := rfl
@[simp] theorem answer_sru (s : State) (st : Status) (d : List Unit16) : (s.answer st d).sru = s.sru := rfl
@[simp] theorem answer_fau (s : State) (st : Status) (d : List Unit16) : (s.answer st d).fau = s.fau := rfl
@[simp] theorem answer_planeP (s : State) (st : Status) (d : List Unit16) : (s.answer st d).planeP = s.planeP := rfl
@[simp] theorem answer_planeQ (s : State) (st : Status) (d : List Unit16) : (s.answer st d).planeQ = s.planeQ := rfl
@[simp] theorem answer_pending (s : State) (st : Status) (d : List Unit16) : (s.answer st d).pending = s.pending := rfl
@[simp] theorem answer_cuts (s : State) (st : Status) (d : List Unit16) : (s.answer st d).cuts = s.cuts := rfl

@[simp] theorem answerBad_inReset (s : State) (r : Reason) (d : Option Region) : (s.answerBad r d).inReset = s.inReset := rfl
@[simp] theorem answerBad_hbi (s : State) (r : Reason) (d : Option Region) : (s.answerBad r d).hbi = s.hbi := rfl
@[simp] theorem answerBad_rgd (s : State) (r : Reason) (d : Option Region) : (s.answerBad r d).rgd = s.rgd := rfl
@[simp] theorem answerBad_cdu (s : State) (r : Reason) (d : Option Region) : (s.answerBad r d).cdu = s.cdu := rfl
@[simp] theorem answerBad_mpt (s : State) (r : Reason) (d : Option Region) : (s.answerBad r d).mpt = s.mpt := rfl
@[simp] theorem answerBad_txe (s : State) (r : Reason) (d : Option Region) : (s.answerBad r d).txe = s.txe := rfl
@[simp] theorem answerBad_ckc (s : State) (r : Reason) (d : Option Region) : (s.answerBad r d).ckc = s.ckc := rfl
@[simp] theorem answerBad_cau (s : State) (r : Reason) (d : Option Region) : (s.answerBad r d).cau = s.cau := rfl
@[simp] theorem answerBad_twl (s : State) (r : Reason) (d : Option Region) : (s.answerBad r d).twl = s.twl := rfl
@[simp] theorem answerBad_sru (s : State) (r : Reason) (d : Option Region) : (s.answerBad r d).sru = s.sru := rfl
@[simp] theorem answerBad_fau (s : State) (r : Reason) (d : Option Region) : (s.answerBad r d).fau = s.fau := rfl
@[simp] theorem answerBad_planeP (s : State) (r : Reason) (d : Option Region) : (s.answerBad r d).planeP = s.planeP := rfl
@[simp] theorem answerBad_planeQ (s : State) (r : Reason) (d : Option Region) : (s.answerBad r d).planeQ = s.planeQ := rfl
@[simp] theorem answerBad_pending (s : State) (r : Reason) (d : Option Region) : (s.answerBad r d).pending = s.pending := rfl
@[simp] theorem answerBad_cuts (s : State) (r : Reason) (d : Option Region) : (s.answerBad r d).cuts = s.cuts := rfl

@[simp] theorem badOperand_inReset (s : State) : (s.badOperand).inReset = s.inReset := rfl
@[simp] theorem badOperand_hbi (s : State) : (s.badOperand).hbi = s.hbi := rfl
@[simp] theorem badOperand_rgd (s : State) : (s.badOperand).rgd = s.rgd := rfl
@[simp] theorem badOperand_cdu (s : State) : (s.badOperand).cdu = s.cdu := rfl
@[simp] theorem badOperand_mpt (s : State) : (s.badOperand).mpt = s.mpt := rfl
@[simp] theorem badOperand_txe (s : State) : (s.badOperand).txe = s.txe := rfl
@[simp] theorem badOperand_ckc (s : State) : (s.badOperand).ckc = s.ckc := rfl
@[simp] theorem badOperand_cau (s : State) : (s.badOperand).cau = s.cau := rfl
@[simp] theorem badOperand_twl (s : State) : (s.badOperand).twl = s.twl := rfl
@[simp] theorem badOperand_sru (s : State) : (s.badOperand).sru = s.sru := rfl
@[simp] theorem badOperand_fau (s : State) : (s.badOperand).fau = s.fau := rfl
@[simp] theorem badOperand_planeP (s : State) : (s.badOperand).planeP = s.planeP := rfl
@[simp] theorem badOperand_planeQ (s : State) : (s.badOperand).planeQ = s.planeQ := rfl
@[simp] theorem badOperand_pending (s : State) : (s.badOperand).pending = s.pending := rfl
@[simp] theorem badOperand_cuts (s : State) : (s.badOperand).cuts = s.cuts := rfl

/-! ### The values written -/

@[simp] theorem putP_planeP (s : State) (pw : Nat) (p : Word) : (s.putP pw p).planeP = writePlaneP s.planeP pw p := rfl
@[simp] theorem putQ_planeQ (s : State) (pw : Nat) (q : Code) : (s.putQ pw q).planeQ = writePlaneQ s.planeQ pw q := rfl
@[simp] theorem putPair_planeP (s : State) (pw : Nat) (p : Word) (q : Code) :
    (s.putPair pw p q).planeP = writePlaneP s.planeP pw p := rfl
@[simp] theorem putPair_planeQ (s : State) (pw : Nat) (p : Word) (q : Code) :
    (s.putPair pw p q).planeQ = writePlaneQ s.planeQ pw q := rfl
@[simp] theorem writeWord_planeP (s : State) (w : Nat) (t : Terms) (d : Word) :
    (s.writeWord w t d).planeP = writePlaneP s.planeP (s.physWord w) d := rfl
@[simp] theorem writeWord_planeQ (s : State) (w : Nat) (t : Terms) (d : Word) :
    (s.writeWord w t d).planeQ = writePlaneQ s.planeQ (s.physWord w) (encode d (signature w t s.cau.epoch)) := rfl
@[simp] theorem takeFault_fau (s : State) (f : FaultReport) : (s.takeFault f).fau = s.fau.take (s.recordOf f) := rfl
@[simp] theorem takeFault_cau (s : State) (f : FaultReport) :
    (s.takeFault f).cau = s.cau.raise (faultTaints s.rgd.table f) := rfl
@[simp] theorem takeRetireFault_fau (s : State) (f : FaultReport) :
    (s.takeRetireFault f).fau = s.fau.take (s.recordOf f) := by
  unfold State.takeRetireFault; dsimp only; split <;> rfl
@[simp] theorem takeRetireFault_cau (s : State) (f : FaultReport) : (s.takeRetireFault f).cau =
    if s.verdictAtHand then (s.cau.raise (faultTaints s.rgd.table f)).raiseCarry (faultTaints s.rgd.table f)
    else s.cau.raise (faultTaints s.rgd.table f) := by
  unfold State.takeRetireFault; dsimp only; split <;> rfl
@[simp] theorem loadLatch_cdu (s : State) (rep : CheckReport) : (s.loadLatch rep).cdu = { latch := some ⟨rep.cls, rep.data⟩ } :=
  rfl
@[simp] theorem addDigest_cau (s : State) (x : BitVec 32) :
    (s.addDigest x).cau = { s.cau with digest := s.cau.digest + x } := rfl
@[simp] theorem grantEngine_mpt (s : State) :
    s.grantEngine.mpt = { grant := .engine, count := 0, limit := s.mli.params.burst } := rfl
@[simp] theorem endAccess_access (s : State) (a : Access) (e : BusEnd) : (s.endAccess a e).hbi.access = none := rfl
@[simp] theorem endAccess_presented (s : State) (a : Access) (e : BusEnd) :
    (s.endAccess a e).hbi.presented = s.hbi.presented := rfl
@[simp] theorem endAccess_busEnd (s : State) (a : Access) (e : BusEnd) :
    (s.endAccess a e).hbi.busEnd = if a.withdrawn then s.hbi.busEnd else some e := rfl
@[simp] theorem enterPhase_access (s : State) (a : Access) (p : Phase) :
    (s.enterPhase a p).hbi.access = some { a with phase := p } := rfl
@[simp] theorem enterPhase_presented (s : State) (a : Access) (p : Phase) :
    (s.enterPhase a p).hbi.presented = s.hbi.presented := rfl
@[simp] theorem enterPhase_busEnd (s : State) (a : Access) (p : Phase) : (s.enterPhase a p).hbi.busEnd = s.hbi.busEnd := rfl
@[simp] theorem answer_mli (s : State) (st : Status) (d : List Unit16) :
    (s.answer st d).mli = { s.mli with frame := .responding, response := unit st.code :: d } := rfl
@[simp] theorem answer_control (s : State) (st : Status) (d : List Unit16) : (s.answer st d).mli.control = s.mli.control :=
  rfl
@[simp] theorem answerBad_control (s : State) (r : Reason) (d : Option Region) :
    (s.answerBad r d).mli.control = s.mli.control := rfl
@[simp] theorem badOperand_control (s : State) : s.badOperand.mli.control = s.mli.control := rfl

/-! ### The Cycle and Agreement Unit's and the Fault and Alarm Unit's own updates -/

@[simp] theorem raiseCarry_carry (c : Cau) (ts : TaintSet) : (c.raiseCarry ts).carry = c.carry.union ts := rfl
@[simp] theorem raiseCarry_taint (c : Cau) (ts : TaintSet) : (c.raiseCarry ts).taint = c.taint := rfl
@[simp] theorem raiseCarry_cycle (c : Cau) (ts : TaintSet) : (c.raiseCarry ts).cycle = c.cycle := rfl
@[simp] theorem raiseCarry_epoch (c : Cau) (ts : TaintSet) : (c.raiseCarry ts).epoch = c.epoch := rfl
@[simp] theorem raiseCarry_lastVerdict (c : Cau) (ts : TaintSet) : (c.raiseCarry ts).lastVerdict = c.lastVerdict := rfl
@[simp] theorem raiseCarry_digest (c : Cau) (ts : TaintSet) : (c.raiseCarry ts).digest = c.digest := rfl
@[simp] theorem raiseCarry_marker (c : Cau) (ts : TaintSet) : (c.raiseCarry ts).marker = c.marker := rfl
@[simp] theorem raiseCarry_held (c : Cau) (ts : TaintSet) : (c.raiseCarry ts).held = c.held := rfl
@[simp] theorem raiseCarry_localMark (c : Cau) (ts : TaintSet) : (c.raiseCarry ts).localMark = c.localMark := rfl
@[simp] theorem raiseCarry_verdictDue (c : Cau) (ts : TaintSet) : (c.raiseCarry ts).verdictDue = c.verdictDue := rfl
@[simp] theorem raiseCarry_slot (c : Cau) (ts : TaintSet) : (c.raiseCarry ts).slot = c.slot := rfl
@[simp] theorem raiseCarry_agreementTimer (c : Cau) (ts : TaintSet) : (c.raiseCarry ts).agreementTimer = c.agreementTimer := rfl
@[simp] theorem raiseCarry_deadlineTimer (c : Cau) (ts : TaintSet) : (c.raiseCarry ts).deadlineTimer = c.deadlineTimer := rfl

@[simp] theorem raise_cycle (c : Cau) (ts : TaintSet) : (c.raise ts).cycle = c.cycle := by
  unfold Cau.raise; split <;> rfl
@[simp] theorem raise_epoch (c : Cau) (ts : TaintSet) : (c.raise ts).epoch = c.epoch := by
  unfold Cau.raise; split <;> rfl
@[simp] theorem raise_lastVerdict (c : Cau) (ts : TaintSet) : (c.raise ts).lastVerdict = c.lastVerdict := by
  unfold Cau.raise; split <;> rfl
@[simp] theorem raise_digest (c : Cau) (ts : TaintSet) : (c.raise ts).digest = c.digest := by
  unfold Cau.raise; split <;> rfl
@[simp] theorem raise_marker (c : Cau) (ts : TaintSet) : (c.raise ts).marker = c.marker := by
  unfold Cau.raise; split <;> rfl
@[simp] theorem raise_held (c : Cau) (ts : TaintSet) : (c.raise ts).held = c.held := by
  unfold Cau.raise; split <;> rfl
@[simp] theorem raise_localMark (c : Cau) (ts : TaintSet) : (c.raise ts).localMark = c.localMark := by
  unfold Cau.raise; split <;> rfl
@[simp] theorem raise_verdictDue (c : Cau) (ts : TaintSet) : (c.raise ts).verdictDue = c.verdictDue := by
  unfold Cau.raise; split <;> rfl
@[simp] theorem raise_slot (c : Cau) (ts : TaintSet) : (c.raise ts).slot = c.slot := by
  unfold Cau.raise; split <;> rfl
@[simp] theorem raise_agreementTimer (c : Cau) (ts : TaintSet) : (c.raise ts).agreementTimer = c.agreementTimer := by
  unfold Cau.raise; split <;> rfl
@[simp] theorem raise_deadlineTimer (c : Cau) (ts : TaintSet) : (c.raise ts).deadlineTimer = c.deadlineTimer := by
  unfold Cau.raise; split <;> rfl
@[simp] theorem offer_counters (u : Fau) (r : FaultRecord) : (u.offer r).counters = u.counters := by
  unfold Fau.offer; split <;> rfl
@[simp] theorem offer_mask (u : Fau) (r : FaultRecord) : (u.offer r).mask = u.mask := by
  unfold Fau.offer; split <;> rfl
@[simp] theorem offer_ven (u : Fau) (r : FaultRecord) : (u.offer r).ven = u.ven := by
  unfold Fau.offer; split <;> rfl
@[simp] theorem offer_latch (u : Fau) (r : FaultRecord) : (u.offer r).latch = u.latch := by
  unfold Fau.offer; split <;> rfl
@[simp] theorem offer_epochFlag (u : Fau) (r : FaultRecord) : (u.offer r).epochFlag = u.epochFlag := by
  unfold Fau.offer; split <;> rfl
@[simp] theorem offer_qualified (u : Fau) (r : FaultRecord) : (u.offer r).qualified = u.qualified := by
  unfold Fau.offer; split <;> rfl
@[simp] theorem vitalFault_queue (u : Fau) : u.vitalFault.queue = u.queue := by
  unfold Fau.vitalFault; dsimp only; split <;> rfl
@[simp] theorem vitalFault_counters (u : Fau) : u.vitalFault.counters = u.counters := by
  unfold Fau.vitalFault; dsimp only; split <;> rfl
@[simp] theorem vitalFault_mask (u : Fau) : u.vitalFault.mask = u.mask := by
  unfold Fau.vitalFault; dsimp only; split <;> rfl
@[simp] theorem vitalFault_ven (u : Fau) : u.vitalFault.ven = false := by
  unfold Fau.vitalFault; dsimp only; split <;> simp_all
@[simp] theorem vitalFault_latch (u : Fau) : u.vitalFault.latch = (u.ven || u.latch) := by
  unfold Fau.vitalFault; dsimp only; split <;> simp_all
@[simp] theorem vitalFault_epochFlag (u : Fau) : u.vitalFault.epochFlag = true := rfl
@[simp] theorem vitalFault_qualified (u : Fau) : u.vitalFault.qualified = false := rfl

end Sys2Proof.Machine
end

