-- ==== Sys2Proof/Laws/Frames.lean ====
section
/-!
SUPPORT. The frame of each shared operation: one lemma for each field of the state that the operation leaves alone, whatever
else it does.
-/
namespace Sys2Proof.Machine

@[simp] theorem addDirty_inReset (s : State) (b : Nat) : (s.addDirty b).inReset = s.inReset := by
  unfold State.addDirty; (repeat' split) <;> simp
@[simp] theorem addDirty_hbi (s : State) (b : Nat) : (s.addDirty b).hbi = s.hbi := by
  unfold State.addDirty; (repeat' split) <;> simp
@[simp] theorem addDirty_rgd (s : State) (b : Nat) : (s.addDirty b).rgd = s.rgd := by
  unfold State.addDirty; (repeat' split) <;> simp
@[simp] theorem addDirty_cdu (s : State) (b : Nat) : (s.addDirty b).cdu = s.cdu := by
  unfold State.addDirty; (repeat' split) <;> simp
@[simp] theorem addDirty_mpt (s : State) (b : Nat) : (s.addDirty b).mpt = s.mpt := by
  unfold State.addDirty; (repeat' split) <;> simp
@[simp] theorem addDirty_txe (s : State) (b : Nat) : (s.addDirty b).txe = s.txe := by
  unfold State.addDirty; (repeat' split) <;> simp
@[simp] theorem addDirty_cau (s : State) (b : Nat) : (s.addDirty b).cau = s.cau := by
  unfold State.addDirty; (repeat' split) <;> simp
@[simp] theorem addDirty_twl (s : State) (b : Nat) : (s.addDirty b).twl = s.twl := by
  unfold State.addDirty; (repeat' split) <;> simp
@[simp] theorem addDirty_sru (s : State) (b : Nat) : (s.addDirty b).sru = s.sru := by
  unfold State.addDirty; (repeat' split) <;> simp
@[simp] theorem addDirty_fau (s : State) (b : Nat) : (s.addDirty b).fau = s.fau := by
  unfold State.addDirty; (repeat' split) <;> simp
@[simp] theorem addDirty_mli (s : State) (b : Nat) : (s.addDirty b).mli = s.mli := by
  unfold State.addDirty; (repeat' split) <;> simp
@[simp] theorem addDirty_planeP (s : State) (b : Nat) : (s.addDirty b).planeP = s.planeP := by
  unfold State.addDirty; (repeat' split) <;> simp
@[simp] theorem addDirty_planeQ (s : State) (b : Nat) : (s.addDirty b).planeQ = s.planeQ := by
  unfold State.addDirty; (repeat' split) <;> simp
@[simp] theorem addDirty_pending (s : State) (b : Nat) : (s.addDirty b).pending = s.pending := by
  unfold State.addDirty; (repeat' split) <;> simp
@[simp] theorem addDirty_cuts (s : State) (b : Nat) : (s.addDirty b).cuts = s.cuts := by
  unfold State.addDirty; (repeat' split) <;> simp

@[simp] theorem addDirtyIf_inReset (s : State) (c : Bool) (b : Nat) : (s.addDirtyIf c b).inReset = s.inReset := by
  unfold State.addDirtyIf; split <;> simp
@[simp] theorem addDirtyIf_hbi (s : State) (c : Bool) (b : Nat) : (s.addDirtyIf c b).hbi = s.hbi := by
  unfold State.addDirtyIf; split <;> simp
@[simp] theorem addDirtyIf_rgd (s : State) (c : Bool) (b : Nat) : (s.addDirtyIf c b).rgd = s.rgd := by
  unfold State.addDirtyIf; split <;> simp
@[simp] theorem addDirtyIf_cdu (s : State) (c : Bool) (b : Nat) : (s.addDirtyIf c b).cdu = s.cdu := by
  unfold State.addDirtyIf; split <;> simp
@[simp] theorem addDirtyIf_mpt (s : State) (c : Bool) (b : Nat) : (s.addDirtyIf c b).mpt = s.mpt := by
  unfold State.addDirtyIf; split <;> simp
@[simp] theorem addDirtyIf_txe (s : State) (c : Bool) (b : Nat) : (s.addDirtyIf c b).txe = s.txe := by
  unfold State.addDirtyIf; split <;> simp
@[simp] theorem addDirtyIf_cau (s : State) (c : Bool) (b : Nat) : (s.addDirtyIf c b).cau = s.cau := by
  unfold State.addDirtyIf; split <;> simp
@[simp] theorem addDirtyIf_twl (s : State) (c : Bool) (b : Nat) : (s.addDirtyIf c b).twl = s.twl := by
  unfold State.addDirtyIf; split <;> simp
@[simp] theorem addDirtyIf_sru (s : State) (c : Bool) (b : Nat) : (s.addDirtyIf c b).sru = s.sru := by
  unfold State.addDirtyIf; split <;> simp
@[simp] theorem addDirtyIf_fau (s : State) (c : Bool) (b : Nat) : (s.addDirtyIf c b).fau = s.fau := by
  unfold State.addDirtyIf; split <;> simp
@[simp] theorem addDirtyIf_mli (s : State) (c : Bool) (b : Nat) : (s.addDirtyIf c b).mli = s.mli := by
  unfold State.addDirtyIf; split <;> simp
@[simp] theorem addDirtyIf_planeP (s : State) (c : Bool) (b : Nat) : (s.addDirtyIf c b).planeP = s.planeP := by
  unfold State.addDirtyIf; split <;> simp
@[simp] theorem addDirtyIf_planeQ (s : State) (c : Bool) (b : Nat) : (s.addDirtyIf c b).planeQ = s.planeQ := by
  unfold State.addDirtyIf; split <;> simp
@[simp] theorem addDirtyIf_pending (s : State) (c : Bool) (b : Nat) : (s.addDirtyIf c b).pending = s.pending := by
  unfold State.addDirtyIf; split <;> simp
@[simp] theorem addDirtyIf_cuts (s : State) (c : Bool) (b : Nat) : (s.addDirtyIf c b).cuts = s.cuts := by
  unfold State.addDirtyIf; split <;> simp

@[simp] theorem addDigestIf_inReset (s : State) (c : Bool) (x : BitVec 32) : (s.addDigestIf c x).inReset = s.inReset := by
  unfold State.addDigestIf; split <;> simp
@[simp] theorem addDigestIf_hbi (s : State) (c : Bool) (x : BitVec 32) : (s.addDigestIf c x).hbi = s.hbi := by
  unfold State.addDigestIf; split <;> simp
@[simp] theorem addDigestIf_rgd (s : State) (c : Bool) (x : BitVec 32) : (s.addDigestIf c x).rgd = s.rgd := by
  unfold State.addDigestIf; split <;> simp
@[simp] theorem addDigestIf_cdu (s : State) (c : Bool) (x : BitVec 32) : (s.addDigestIf c x).cdu = s.cdu := by
  unfold State.addDigestIf; split <;> simp
@[simp] theorem addDigestIf_mpt (s : State) (c : Bool) (x : BitVec 32) : (s.addDigestIf c x).mpt = s.mpt := by
  unfold State.addDigestIf; split <;> simp
@[simp] theorem addDigestIf_txe (s : State) (c : Bool) (x : BitVec 32) : (s.addDigestIf c x).txe = s.txe := by
  unfold State.addDigestIf; split <;> simp
@[simp] theorem addDigestIf_ckc (s : State) (c : Bool) (x : BitVec 32) : (s.addDigestIf c x).ckc = s.ckc := by
  unfold State.addDigestIf; split <;> simp
@[simp] theorem addDigestIf_twl (s : State) (c : Bool) (x : BitVec 32) : (s.addDigestIf c x).twl = s.twl := by
  unfold State.addDigestIf; split <;> simp
@[simp] theorem addDigestIf_sru (s : State) (c : Bool) (x : BitVec 32) : (s.addDigestIf c x).sru = s.sru := by
  unfold State.addDigestIf; split <;> simp
@[simp] theorem addDigestIf_fau (s : State) (c : Bool) (x : BitVec 32) : (s.addDigestIf c x).fau = s.fau := by
  unfold State.addDigestIf; split <;> simp
@[simp] theorem addDigestIf_mli (s : State) (c : Bool) (x : BitVec 32) : (s.addDigestIf c x).mli = s.mli := by
  unfold State.addDigestIf; split <;> simp
@[simp] theorem addDigestIf_planeP (s : State) (c : Bool) (x : BitVec 32) : (s.addDigestIf c x).planeP = s.planeP := by
  unfold State.addDigestIf; split <;> simp
@[simp] theorem addDigestIf_planeQ (s : State) (c : Bool) (x : BitVec 32) : (s.addDigestIf c x).planeQ = s.planeQ := by
  unfold State.addDigestIf; split <;> simp
@[simp] theorem addDigestIf_pending (s : State) (c : Bool) (x : BitVec 32) : (s.addDigestIf c x).pending = s.pending := by
  unfold State.addDigestIf; split <;> simp
@[simp] theorem addDigestIf_cuts (s : State) (c : Bool) (x : BitVec 32) : (s.addDigestIf c x).cuts = s.cuts := by
  unfold State.addDigestIf; split <;> simp

@[simp] theorem requestRetire_inReset (s : State) (b w : Nat) : (s.requestRetire b w).inReset = s.inReset := by
  unfold State.requestRetire; (repeat' split) <;> simp
@[simp] theorem requestRetire_hbi (s : State) (b w : Nat) : (s.requestRetire b w).hbi = s.hbi := by
  unfold State.requestRetire; (repeat' split) <;> simp
@[simp] theorem requestRetire_rgd (s : State) (b w : Nat) : (s.requestRetire b w).rgd = s.rgd := by
  unfold State.requestRetire; (repeat' split) <;> simp
@[simp] theorem requestRetire_cdu (s : State) (b w : Nat) : (s.requestRetire b w).cdu = s.cdu := by
  unfold State.requestRetire; (repeat' split) <;> simp
@[simp] theorem requestRetire_mpt (s : State) (b w : Nat) : (s.requestRetire b w).mpt = s.mpt := by
  unfold State.requestRetire; (repeat' split) <;> simp
@[simp] theorem requestRetire_txe (s : State) (b w : Nat) : (s.requestRetire b w).txe = s.txe := by
  unfold State.requestRetire; (repeat' split) <;> simp
@[simp] theorem requestRetire_ckc (s : State) (b w : Nat) : (s.requestRetire b w).ckc = s.ckc := by
  unfold State.requestRetire; (repeat' split) <;> simp
@[simp] theorem requestRetire_twl (s : State) (b w : Nat) : (s.requestRetire b w).twl = s.twl := by
  unfold State.requestRetire; (repeat' split) <;> simp
@[simp] theorem requestRetire_mli (s : State) (b w : Nat) : (s.requestRetire b w).mli = s.mli := by
  unfold State.requestRetire; (repeat' split) <;> simp
@[simp] theorem requestRetire_planeP (s : State) (b w : Nat) : (s.requestRetire b w).planeP = s.planeP := by
  unfold State.requestRetire; (repeat' split) <;> simp
@[simp] theorem requestRetire_planeQ (s : State) (b w : Nat) : (s.requestRetire b w).planeQ = s.planeQ := by
  unfold State.requestRetire; (repeat' split) <;> simp
@[simp] theorem requestRetire_pending (s : State) (b w : Nat) : (s.requestRetire b w).pending = s.pending := by
  unfold State.requestRetire; (repeat' split) <;> simp
@[simp] theorem requestRetire_cuts (s : State) (b w : Nat) : (s.requestRetire b w).cuts = s.cuts := by
  unfold State.requestRetire; (repeat' split) <;> simp

@[simp] theorem reportRepair_inReset (s : State) (w : Nat) (pl : Plane) : (s.reportRepair w pl).inReset = s.inReset := by
  unfold State.reportRepair; dsimp only; split <;> simp
@[simp] theorem reportRepair_hbi (s : State) (w : Nat) (pl : Plane) : (s.reportRepair w pl).hbi = s.hbi := by
  unfold State.reportRepair; dsimp only; split <;> simp
@[simp] theorem reportRepair_rgd (s : State) (w : Nat) (pl : Plane) : (s.reportRepair w pl).rgd = s.rgd := by
  unfold State.reportRepair; dsimp only; split <;> simp
@[simp] theorem reportRepair_cdu (s : State) (w : Nat) (pl : Plane) : (s.reportRepair w pl).cdu = s.cdu := by
  unfold State.reportRepair; dsimp only; split <;> simp
@[simp] theorem reportRepair_mpt (s : State) (w : Nat) (pl : Plane) : (s.reportRepair w pl).mpt = s.mpt := by
  unfold State.reportRepair; dsimp only; split <;> simp
@[simp] theorem reportRepair_txe (s : State) (w : Nat) (pl : Plane) : (s.reportRepair w pl).txe = s.txe := by
  unfold State.reportRepair; dsimp only; split <;> simp
@[simp] theorem reportRepair_ckc (s : State) (w : Nat) (pl : Plane) : (s.reportRepair w pl).ckc = s.ckc := by
  unfold State.reportRepair; dsimp only; split <;> simp
@[simp] theorem reportRepair_twl (s : State) (w : Nat) (pl : Plane) : (s.reportRepair w pl).twl = s.twl := by
  unfold State.reportRepair; dsimp only; split <;> simp
@[simp] theorem reportRepair_mli (s : State) (w : Nat) (pl : Plane) : (s.reportRepair w pl).mli = s.mli := by
  unfold State.reportRepair; dsimp only; split <;> simp
@[simp] theorem reportRepair_planeP (s : State) (w : Nat) (pl : Plane) : (s.reportRepair w pl).planeP = s.planeP := by
  unfold State.reportRepair; dsimp only; split <;> simp
@[simp] theorem reportRepair_planeQ (s : State) (w : Nat) (pl : Plane) : (s.reportRepair w pl).planeQ = s.planeQ := by
  unfold State.reportRepair; dsimp only; split <;> simp
@[simp] theorem reportRepair_pending (s : State) (w : Nat) (pl : Plane) : (s.reportRepair w pl).pending = s.pending := by
  unfold State.reportRepair; dsimp only; split <;> simp
@[simp] theorem reportRepair_cuts (s : State) (w : Nat) (pl : Plane) : (s.reportRepair w pl).cuts = s.cuts := by
  unfold State.reportRepair; dsimp only; split <;> simp

@[simp] theorem repair_inReset (s : State) (w : Nat) (t : Terms) (rep : CheckReport) : (s.repair w t rep).inReset = s.inReset := by
  unfold State.repair; split <;> simp
@[simp] theorem repair_hbi (s : State) (w : Nat) (t : Terms) (rep : CheckReport) : (s.repair w t rep).hbi = s.hbi := by
  unfold State.repair; split <;> simp
@[simp] theorem repair_rgd (s : State) (w : Nat) (t : Terms) (rep : CheckReport) : (s.repair w t rep).rgd = s.rgd := by
  unfold State.repair; split <;> simp
@[simp] theorem repair_cdu (s : State) (w : Nat) (t : Terms) (rep : CheckReport) : (s.repair w t rep).cdu = s.cdu := by
  unfold State.repair; split <;> simp
@[simp] theorem repair_mpt (s : State) (w : Nat) (t : Terms) (rep : CheckReport) : (s.repair w t rep).mpt = s.mpt := by
  unfold State.repair; split <;> simp
@[simp] theorem repair_txe (s : State) (w : Nat) (t : Terms) (rep : CheckReport) : (s.repair w t rep).txe = s.txe := by
  unfold State.repair; split <;> simp
@[simp] theorem repair_ckc (s : State) (w : Nat) (t : Terms) (rep : CheckReport) : (s.repair w t rep).ckc = s.ckc := by
  unfold State.repair; split <;> simp
@[simp] theorem repair_twl (s : State) (w : Nat) (t : Terms) (rep : CheckReport) : (s.repair w t rep).twl = s.twl := by
  unfold State.repair; split <;> simp
@[simp] theorem repair_mli (s : State) (w : Nat) (t : Terms) (rep : CheckReport) : (s.repair w t rep).mli = s.mli := by
  unfold State.repair; split <;> simp
@[simp] theorem repair_pending (s : State) (w : Nat) (t : Terms) (rep : CheckReport) : (s.repair w t rep).pending = s.pending := by
  unfold State.repair; split <;> simp
@[simp] theorem repair_cuts (s : State) (w : Nat) (t : Terms) (rep : CheckReport) : (s.repair w t rep).cuts = s.cuts := by
  unfold State.repair; split <;> simp

@[simp] theorem repairByWrite_inReset (s : State) (w : Nat) (rep : CheckReport) : (s.repairByWrite w rep).inReset = s.inReset := by
  unfold State.repairByWrite; split <;> simp
@[simp] theorem repairByWrite_hbi (s : State) (w : Nat) (rep : CheckReport) : (s.repairByWrite w rep).hbi = s.hbi := by
  unfold State.repairByWrite; split <;> simp
@[simp] theorem repairByWrite_rgd (s : State) (w : Nat) (rep : CheckReport) : (s.repairByWrite w rep).rgd = s.rgd := by
  unfold State.repairByWrite; split <;> simp
@[simp] theorem repairByWrite_cdu (s : State) (w : Nat) (rep : CheckReport) : (s.repairByWrite w rep).cdu = s.cdu := by
  unfold State.repairByWrite; split <;> simp
@[simp] theorem repairByWrite_mpt (s : State) (w : Nat) (rep : CheckReport) : (s.repairByWrite w rep).mpt = s.mpt := by
  unfold State.repairByWrite; split <;> simp
@[simp] theorem repairByWrite_txe (s : State) (w : Nat) (rep : CheckReport) : (s.repairByWrite w rep).txe = s.txe := by
  unfold State.repairByWrite; split <;> simp
@[simp] theorem repairByWrite_ckc (s : State) (w : Nat) (rep : CheckReport) : (s.repairByWrite w rep).ckc = s.ckc := by
  unfold State.repairByWrite; split <;> simp
@[simp] theorem repairByWrite_twl (s : State) (w : Nat) (rep : CheckReport) : (s.repairByWrite w rep).twl = s.twl := by
  unfold State.repairByWrite; split <;> simp
@[simp] theorem repairByWrite_mli (s : State) (w : Nat) (rep : CheckReport) : (s.repairByWrite w rep).mli = s.mli := by
  unfold State.repairByWrite; split <;> simp
@[simp] theorem repairByWrite_planeP (s : State) (w : Nat) (rep : CheckReport) : (s.repairByWrite w rep).planeP = s.planeP := by
  unfold State.repairByWrite; split <;> simp
@[simp] theorem repairByWrite_planeQ (s : State) (w : Nat) (rep : CheckReport) : (s.repairByWrite w rep).planeQ = s.planeQ := by
  unfold State.repairByWrite; split <;> simp
@[simp] theorem repairByWrite_pending (s : State) (w : Nat) (rep : CheckReport) : (s.repairByWrite w rep).pending = s.pending := by
  unfold State.repairByWrite; split <;> simp
@[simp] theorem repairByWrite_cuts (s : State) (w : Nat) (rep : CheckReport) : (s.repairByWrite w rep).cuts = s.cuts := by
  unfold State.repairByWrite; split <;> simp

@[simp] theorem askPass_inReset (s : State) (m : Move) : (s.askPass m).inReset = s.inReset := by
  unfold State.askPass; (repeat' split) <;> simp
@[simp] theorem askPass_hbi (s : State) (m : Move) : (s.askPass m).hbi = s.hbi := by
  unfold State.askPass; (repeat' split) <;> simp
@[simp] theorem askPass_rgd (s : State) (m : Move) : (s.askPass m).rgd = s.rgd := by
  unfold State.askPass; (repeat' split) <;> simp
@[simp] theorem askPass_cdu (s : State) (m : Move) : (s.askPass m).cdu = s.cdu := by
  unfold State.askPass; (repeat' split) <;> simp
@[simp] theorem askPass_mpt (s : State) (m : Move) : (s.askPass m).mpt = s.mpt := by
  unfold State.askPass; (repeat' split) <;> simp
@[simp] theorem askPass_ckc (s : State) (m : Move) : (s.askPass m).ckc = s.ckc := by
  unfold State.askPass; (repeat' split) <;> simp
@[simp] theorem askPass_cau (s : State) (m : Move) : (s.askPass m).cau = s.cau := by
  unfold State.askPass; (repeat' split) <;> simp
@[simp] theorem askPass_twl (s : State) (m : Move) : (s.askPass m).twl = s.twl := by
  unfold State.askPass; (repeat' split) <;> simp
@[simp] theorem askPass_sru (s : State) (m : Move) : (s.askPass m).sru = s.sru := by
  unfold State.askPass; (repeat' split) <;> simp
@[simp] theorem askPass_fau (s : State) (m : Move) : (s.askPass m).fau = s.fau := by
  unfold State.askPass; (repeat' split) <;> simp
@[simp] theorem askPass_mli (s : State) (m : Move) : (s.askPass m).mli = s.mli := by
  unfold State.askPass; (repeat' split) <;> simp
@[simp] theorem askPass_planeP (s : State) (m : Move) : (s.askPass m).planeP = s.planeP := by
  unfold State.askPass; (repeat' split) <;> simp
@[simp] theorem askPass_planeQ (s : State) (m : Move) : (s.askPass m).planeQ = s.planeQ := by
  unfold State.askPass; (repeat' split) <;> simp
@[simp] theorem askPass_pending (s : State) (m : Move) : (s.askPass m).pending = s.pending := by
  unfold State.askPass; (repeat' split) <;> simp
@[simp] theorem askPass_cuts (s : State) (m : Move) : (s.askPass m).cuts = s.cuts := by
  unfold State.askPass; (repeat' split) <;> simp

@[simp] theorem select_inReset (n : Nat) (s : State) : (s.select n).inReset = s.inReset := by
  induction n generalizing s with
  | zero => rfl
  | succ n ih => unfold State.select; dsimp only; (repeat' split) <;> simp [ih]
@[simp] theorem select_hbi (n : Nat) (s : State) : (s.select n).hbi = s.hbi := by
  induction n generalizing s with
  | zero => rfl
  | succ n ih => unfold State.select; dsimp only; (repeat' split) <;> simp [ih]
@[simp] theorem select_rgd (n : Nat) (s : State) : (s.select n).rgd = s.rgd := by
  induction n generalizing s with
  | zero => rfl
  | succ n ih => unfold State.select; dsimp only; (repeat' split) <;> simp [ih]
@[simp] theorem select_cdu (n : Nat) (s : State) : (s.select n).cdu = s.cdu := by
  induction n generalizing s with
  | zero => rfl
  | succ n ih => unfold State.select; dsimp only; (repeat' split) <;> simp [ih]
@[simp] theorem select_mpt (n : Nat) (s : State) : (s.select n).mpt = s.mpt := by
  induction n generalizing s with
  | zero => rfl
  | succ n ih => unfold State.select; dsimp only; (repeat' split) <;> simp [ih]
@[simp] theorem select_ckc (n : Nat) (s : State) : (s.select n).ckc = s.ckc := by
  induction n generalizing s with
  | zero => rfl
  | succ n ih => unfold State.select; dsimp only; (repeat' split) <;> simp [ih]
@[simp] theorem select_cau (n : Nat) (s : State) : (s.select n).cau = s.cau := by
  induction n generalizing s with
  | zero => rfl
  | succ n ih => unfold State.select; dsimp only; (repeat' split) <;> simp [ih]
@[simp] theorem select_twl (n : Nat) (s : State) : (s.select n).twl = s.twl := by
  induction n generalizing s with
  | zero => rfl
  | succ n ih => unfold State.select; dsimp only; (repeat' split) <;> simp [ih]
@[simp] theorem select_sru (n : Nat) (s : State) : (s.select n).sru = s.sru := by
  induction n generalizing s with
  | zero => rfl
  | succ n ih => unfold State.select; dsimp only; (repeat' split) <;> simp [ih]
@[simp] theorem select_fau (n : Nat) (s : State) : (s.select n).fau = s.fau := by
  induction n generalizing s with
  | zero => rfl
  | succ n ih => unfold State.select; dsimp only; (repeat' split) <;> simp [ih]
@[simp] theorem select_mli (n : Nat) (s : State) : (s.select n).mli = s.mli := by
  induction n generalizing s with
  | zero => rfl
  | succ n ih => unfold State.select; dsimp only; (repeat' split) <;> simp [ih]
@[simp] theorem select_planeP (n : Nat) (s : State) : (s.select n).planeP = s.planeP := by
  induction n generalizing s with
  | zero => rfl
  | succ n ih => unfold State.select; dsimp only; (repeat' split) <;> simp [ih]
@[simp] theorem select_planeQ (n : Nat) (s : State) : (s.select n).planeQ = s.planeQ := by
  induction n generalizing s with
  | zero => rfl
  | succ n ih => unfold State.select; dsimp only; (repeat' split) <;> simp [ih]
@[simp] theorem select_pending (n : Nat) (s : State) : (s.select n).pending = s.pending := by
  induction n generalizing s with
  | zero => rfl
  | succ n ih => unfold State.select; dsimp only; (repeat' split) <;> simp [ih]
@[simp] theorem select_cuts (n : Nat) (s : State) : (s.select n).cuts = s.cuts := by
  induction n generalizing s with
  | zero => rfl
  | succ n ih => unfold State.select; dsimp only; (repeat' split) <;> simp [ih]

@[simp] theorem selectionPoint_inReset (s : State) : (s.selectionPoint).inReset = s.inReset := by
  unfold State.selectionPoint; simp
@[simp] theorem selectionPoint_hbi (s : State) : (s.selectionPoint).hbi = s.hbi := by
  unfold State.selectionPoint; simp
@[simp] theorem selectionPoint_rgd (s : State) : (s.selectionPoint).rgd = s.rgd := by
  unfold State.selectionPoint; simp
@[simp] theorem selectionPoint_cdu (s : State) : (s.selectionPoint).cdu = s.cdu := by
  unfold State.selectionPoint; simp
@[simp] theorem selectionPoint_mpt (s : State) : (s.selectionPoint).mpt = s.mpt := by
  unfold State.selectionPoint; simp
@[simp] theorem selectionPoint_ckc (s : State) : (s.selectionPoint).ckc = s.ckc := by
  unfold State.selectionPoint; simp
@[simp] theorem selectionPoint_cau (s : State) : (s.selectionPoint).cau = s.cau := by
  unfold State.selectionPoint; simp
@[simp] theorem selectionPoint_twl (s : State) : (s.selectionPoint).twl = s.twl := by
  unfold State.selectionPoint; simp
@[simp] theorem selectionPoint_sru (s : State) : (s.selectionPoint).sru = s.sru := by
  unfold State.selectionPoint; simp
@[simp] theorem selectionPoint_fau (s : State) : (s.selectionPoint).fau = s.fau := by
  unfold State.selectionPoint; simp
@[simp] theorem selectionPoint_mli (s : State) : (s.selectionPoint).mli = s.mli := by
  unfold State.selectionPoint; simp
@[simp] theorem selectionPoint_planeP (s : State) : (s.selectionPoint).planeP = s.planeP := by
  unfold State.selectionPoint; simp
@[simp] theorem selectionPoint_planeQ (s : State) : (s.selectionPoint).planeQ = s.planeQ := by
  unfold State.selectionPoint; simp
@[simp] theorem selectionPoint_pending (s : State) : (s.selectionPoint).pending = s.pending := by
  unfold State.selectionPoint; simp
@[simp] theorem selectionPoint_cuts (s : State) : (s.selectionPoint).cuts = s.cuts := by
  unfold State.selectionPoint; simp

@[simp] theorem settle_inReset (s : State) : (s.settle).inReset = s.inReset := by
  unfold State.settle; dsimp only; (repeat' split) <;> simp
@[simp] theorem settle_hbi (s : State) : (s.settle).hbi = s.hbi := by
  unfold State.settle; dsimp only; (repeat' split) <;> simp
@[simp] theorem settle_rgd (s : State) : (s.settle).rgd = s.rgd := by
  unfold State.settle; dsimp only; (repeat' split) <;> simp
@[simp] theorem settle_cdu (s : State) : (s.settle).cdu = s.cdu := by
  unfold State.settle; dsimp only; (repeat' split) <;> simp
@[simp] theorem settle_ckc (s : State) : (s.settle).ckc = s.ckc := by
  unfold State.settle; dsimp only; (repeat' split) <;> simp
@[simp] theorem settle_cau (s : State) : (s.settle).cau = s.cau := by
  unfold State.settle; dsimp only; (repeat' split) <;> simp
@[simp] theorem settle_twl (s : State) : (s.settle).twl = s.twl := by
  unfold State.settle; dsimp only; (repeat' split) <;> simp
@[simp] theorem settle_sru (s : State) : (s.settle).sru = s.sru := by
  unfold State.settle; dsimp only; (repeat' split) <;> simp
@[simp] theorem settle_fau (s : State) : (s.settle).fau = s.fau := by
  unfold State.settle; dsimp only; (repeat' split) <;> simp
@[simp] theorem settle_mli (s : State) : (s.settle).mli = s.mli := by
  unfold State.settle; dsimp only; (repeat' split) <;> simp
@[simp] theorem settle_planeP (s : State) : (s.settle).planeP = s.planeP := by
  unfold State.settle; dsimp only; (repeat' split) <;> simp
@[simp] theorem settle_planeQ (s : State) : (s.settle).planeQ = s.planeQ := by
  unfold State.settle; dsimp only; (repeat' split) <;> simp
@[simp] theorem settle_pending (s : State) : (s.settle).pending = s.pending := by
  unfold State.settle; dsimp only; (repeat' split) <;> simp
@[simp] theorem settle_cuts (s : State) : (s.settle).cuts = s.cuts := by
  unfold State.settle; dsimp only; (repeat' split) <;> simp

@[simp] theorem portAfterEngine_inReset (s : State) (asked : Bool) : (s.portAfterEngine asked).inReset = s.inReset := by
  unfold State.portAfterEngine; dsimp only; (repeat' split) <;> simp
@[simp] theorem portAfterEngine_hbi (s : State) (asked : Bool) : (s.portAfterEngine asked).hbi = s.hbi := by
  unfold State.portAfterEngine; dsimp only; (repeat' split) <;> simp
@[simp] theorem portAfterEngine_rgd (s : State) (asked : Bool) : (s.portAfterEngine asked).rgd = s.rgd := by
  unfold State.portAfterEngine; dsimp only; (repeat' split) <;> simp
@[simp] theorem portAfterEngine_cdu (s : State) (asked : Bool) : (s.portAfterEngine asked).cdu = s.cdu := by
  unfold State.portAfterEngine; dsimp only; (repeat' split) <;> simp
@[simp] theorem portAfterEngine_ckc (s : State) (asked : Bool) : (s.portAfterEngine asked).ckc = s.ckc := by
  unfold State.portAfterEngine; dsimp only; (repeat' split) <;> simp
@[simp] theorem portAfterEngine_cau (s : State) (asked : Bool) : (s.portAfterEngine asked).cau = s.cau := by
  unfold State.portAfterEngine; dsimp only; (repeat' split) <;> simp
@[simp] theorem portAfterEngine_twl (s : State) (asked : Bool) : (s.portAfterEngine asked).twl = s.twl := by
  unfold State.portAfterEngine; dsimp only; (repeat' split) <;> simp
@[simp] theorem portAfterEngine_sru (s : State) (asked : Bool) : (s.portAfterEngine asked).sru = s.sru := by
  unfold State.portAfterEngine; dsimp only; (repeat' split) <;> simp
@[simp] theorem portAfterEngine_fau (s : State) (asked : Bool) : (s.portAfterEngine asked).fau = s.fau := by
  unfold State.portAfterEngine; dsimp only; (repeat' split) <;> simp
@[simp] theorem portAfterEngine_mli (s : State) (asked : Bool) : (s.portAfterEngine asked).mli = s.mli := by
  unfold State.portAfterEngine; dsimp only; (repeat' split) <;> simp
@[simp] theorem portAfterEngine_planeP (s : State) (asked : Bool) : (s.portAfterEngine asked).planeP = s.planeP := by
  unfold State.portAfterEngine; dsimp only; (repeat' split) <;> simp
@[simp] theorem portAfterEngine_planeQ (s : State) (asked : Bool) : (s.portAfterEngine asked).planeQ = s.planeQ := by
  unfold State.portAfterEngine; dsimp only; (repeat' split) <;> simp
@[simp] theorem portAfterEngine_pending (s : State) (asked : Bool) : (s.portAfterEngine asked).pending = s.pending := by
  unfold State.portAfterEngine; dsimp only; (repeat' split) <;> simp
@[simp] theorem portAfterEngine_cuts (s : State) (asked : Bool) : (s.portAfterEngine asked).cuts = s.cuts := by
  unfold State.portAfterEngine; dsimp only; (repeat' split) <;> simp

@[simp] theorem releasePort_inReset (s : State) : (s.releasePort).inReset = s.inReset := by
  unfold State.releasePort; simp
@[simp] theorem releasePort_hbi (s : State) : (s.releasePort).hbi = s.hbi := by
  unfold State.releasePort; simp
@[simp] theorem releasePort_rgd (s : State) : (s.releasePort).rgd = s.rgd := by
  unfold State.releasePort; simp
@[simp] theorem releasePort_cdu (s : State) : (s.releasePort).cdu = s.cdu := by
  unfold State.releasePort; simp
@[simp] theorem releasePort_ckc (s : State) : (s.releasePort).ckc = s.ckc := by
  unfold State.releasePort; simp
@[simp] theorem releasePort_cau (s : State) : (s.releasePort).cau = s.cau := by
  unfold State.releasePort; simp
@[simp] theorem releasePort_twl (s : State) : (s.releasePort).twl = s.twl := by
  unfold State.releasePort; simp
@[simp] theorem releasePort_sru (s : State) : (s.releasePort).sru = s.sru := by
  unfold State.releasePort; simp
@[simp] theorem releasePort_fau (s : State) : (s.releasePort).fau = s.fau := by
  unfold State.releasePort; simp
@[simp] theorem releasePort_mli (s : State) : (s.releasePort).mli = s.mli := by
  unfold State.releasePort; simp
@[simp] theorem releasePort_planeP (s : State) : (s.releasePort).planeP = s.planeP := by
  unfold State.releasePort; simp
@[simp] theorem releasePort_planeQ (s : State) : (s.releasePort).planeQ = s.planeQ := by
  unfold State.releasePort; simp
@[simp] theorem releasePort_pending (s : State) : (s.releasePort).pending = s.pending := by
  unfold State.releasePort; simp
@[simp] theorem releasePort_cuts (s : State) : (s.releasePort).cuts = s.cuts := by
  unfold State.releasePort; simp

@[simp] theorem engineGroupEnd_inReset (s : State) (asked : Bool) : (s.engineGroupEnd asked).inReset = s.inReset := by
  unfold State.engineGroupEnd; simp
@[simp] theorem engineGroupEnd_hbi (s : State) (asked : Bool) : (s.engineGroupEnd asked).hbi = s.hbi := by
  unfold State.engineGroupEnd; simp
@[simp] theorem engineGroupEnd_rgd (s : State) (asked : Bool) : (s.engineGroupEnd asked).rgd = s.rgd := by
  unfold State.engineGroupEnd; simp
@[simp] theorem engineGroupEnd_cdu (s : State) (asked : Bool) : (s.engineGroupEnd asked).cdu = s.cdu := by
  unfold State.engineGroupEnd; simp
@[simp] theorem engineGroupEnd_ckc (s : State) (asked : Bool) : (s.engineGroupEnd asked).ckc = s.ckc := by
  unfold State.engineGroupEnd; simp
@[simp] theorem engineGroupEnd_cau (s : State) (asked : Bool) : (s.engineGroupEnd asked).cau = s.cau := by
  unfold State.engineGroupEnd; simp
@[simp] theorem engineGroupEnd_twl (s : State) (asked : Bool) : (s.engineGroupEnd asked).twl = s.twl := by
  unfold State.engineGroupEnd; simp
@[simp] theorem engineGroupEnd_sru (s : State) (asked : Bool) : (s.engineGroupEnd asked).sru = s.sru := by
  unfold State.engineGroupEnd; simp
@[simp] theorem engineGroupEnd_fau (s : State) (asked : Bool) : (s.engineGroupEnd asked).fau = s.fau := by
  unfold State.engineGroupEnd; simp
@[simp] theorem engineGroupEnd_mli (s : State) (asked : Bool) : (s.engineGroupEnd asked).mli = s.mli := by
  unfold State.engineGroupEnd; simp
@[simp] theorem engineGroupEnd_planeP (s : State) (asked : Bool) : (s.engineGroupEnd asked).planeP = s.planeP := by
  unfold State.engineGroupEnd; simp
@[simp] theorem engineGroupEnd_planeQ (s : State) (asked : Bool) : (s.engineGroupEnd asked).planeQ = s.planeQ := by
  unfold State.engineGroupEnd; simp
@[simp] theorem engineGroupEnd_pending (s : State) (asked : Bool) : (s.engineGroupEnd asked).pending = s.pending := by
  unfold State.engineGroupEnd; simp
@[simp] theorem engineGroupEnd_cuts (s : State) (asked : Bool) : (s.engineGroupEnd asked).cuts = s.cuts := by
  unfold State.engineGroupEnd; simp

@[simp] theorem engineSelectEnd_inReset (s : State) (asked : Bool) : (s.engineSelectEnd asked).inReset = s.inReset := by
  unfold State.engineSelectEnd; simp
@[simp] theorem engineSelectEnd_hbi (s : State) (asked : Bool) : (s.engineSelectEnd asked).hbi = s.hbi := by
  unfold State.engineSelectEnd; simp
@[simp] theorem engineSelectEnd_rgd (s : State) (asked : Bool) : (s.engineSelectEnd asked).rgd = s.rgd := by
  unfold State.engineSelectEnd; simp
@[simp] theorem engineSelectEnd_cdu (s : State) (asked : Bool) : (s.engineSelectEnd asked).cdu = s.cdu := by
  unfold State.engineSelectEnd; simp
@[simp] theorem engineSelectEnd_ckc (s : State) (asked : Bool) : (s.engineSelectEnd asked).ckc = s.ckc := by
  unfold State.engineSelectEnd; simp
@[simp] theorem engineSelectEnd_cau (s : State) (asked : Bool) : (s.engineSelectEnd asked).cau = s.cau := by
  unfold State.engineSelectEnd; simp
@[simp] theorem engineSelectEnd_twl (s : State) (asked : Bool) : (s.engineSelectEnd asked).twl = s.twl := by
  unfold State.engineSelectEnd; simp
@[simp] theorem engineSelectEnd_sru (s : State) (asked : Bool) : (s.engineSelectEnd asked).sru = s.sru := by
  unfold State.engineSelectEnd; simp
@[simp] theorem engineSelectEnd_fau (s : State) (asked : Bool) : (s.engineSelectEnd asked).fau = s.fau := by
  unfold State.engineSelectEnd; simp
@[simp] theorem engineSelectEnd_mli (s : State) (asked : Bool) : (s.engineSelectEnd asked).mli = s.mli := by
  unfold State.engineSelectEnd; simp
@[simp] theorem engineSelectEnd_planeP (s : State) (asked : Bool) : (s.engineSelectEnd asked).planeP = s.planeP := by
  unfold State.engineSelectEnd; simp
@[simp] theorem engineSelectEnd_planeQ (s : State) (asked : Bool) : (s.engineSelectEnd asked).planeQ = s.planeQ := by
  unfold State.engineSelectEnd; simp
@[simp] theorem engineSelectEnd_pending (s : State) (asked : Bool) : (s.engineSelectEnd asked).pending = s.pending := by
  unfold State.engineSelectEnd; simp
@[simp] theorem engineSelectEnd_cuts (s : State) (asked : Bool) : (s.engineSelectEnd asked).cuts = s.cuts := by
  unfold State.engineSelectEnd; simp

@[simp] theorem takeMarker_inReset (s : State) (a : Access) (v : Word) : (s.takeMarker a v).inReset = s.inReset := by
  unfold State.takeMarker; split <;> simp
@[simp] theorem takeMarker_rgd (s : State) (a : Access) (v : Word) : (s.takeMarker a v).rgd = s.rgd := by
  unfold State.takeMarker; split <;> simp
@[simp] theorem takeMarker_cdu (s : State) (a : Access) (v : Word) : (s.takeMarker a v).cdu = s.cdu := by
  unfold State.takeMarker; split <;> simp
@[simp] theorem takeMarker_mpt (s : State) (a : Access) (v : Word) : (s.takeMarker a v).mpt = s.mpt := by
  unfold State.takeMarker; split <;> simp
@[simp] theorem takeMarker_ckc (s : State) (a : Access) (v : Word) : (s.takeMarker a v).ckc = s.ckc := by
  unfold State.takeMarker; split <;> simp
@[simp] theorem takeMarker_twl (s : State) (a : Access) (v : Word) : (s.takeMarker a v).twl = s.twl := by
  unfold State.takeMarker; split <;> simp
@[simp] theorem takeMarker_sru (s : State) (a : Access) (v : Word) : (s.takeMarker a v).sru = s.sru := by
  unfold State.takeMarker; split <;> simp
@[simp] theorem takeMarker_mli (s : State) (a : Access) (v : Word) : (s.takeMarker a v).mli = s.mli := by
  unfold State.takeMarker; split <;> simp
@[simp] theorem takeMarker_planeP (s : State) (a : Access) (v : Word) : (s.takeMarker a v).planeP = s.planeP := by
  unfold State.takeMarker; split <;> simp
@[simp] theorem takeMarker_planeQ (s : State) (a : Access) (v : Word) : (s.takeMarker a v).planeQ = s.planeQ := by
  unfold State.takeMarker; split <;> simp
@[simp] theorem takeMarker_pending (s : State) (a : Access) (v : Word) : (s.takeMarker a v).pending = s.pending := by
  unfold State.takeMarker; split <;> simp
@[simp] theorem takeMarker_cuts (s : State) (a : Access) (v : Word) : (s.takeMarker a v).cuts = s.cuts := by
  unfold State.takeMarker; split <;> simp

@[simp] theorem markerCheck_inReset (s : State) (a : Access) : (s.markerCheck a).inReset = s.inReset := by
  unfold State.markerCheck; split <;> simp
@[simp] theorem markerCheck_rgd (s : State) (a : Access) : (s.markerCheck a).rgd = s.rgd := by
  unfold State.markerCheck; split <;> simp
@[simp] theorem markerCheck_cdu (s : State) (a : Access) : (s.markerCheck a).cdu = s.cdu := by
  unfold State.markerCheck; split <;> simp
@[simp] theorem markerCheck_mpt (s : State) (a : Access) : (s.markerCheck a).mpt = s.mpt := by
  unfold State.markerCheck; split <;> simp
@[simp] theorem markerCheck_ckc (s : State) (a : Access) : (s.markerCheck a).ckc = s.ckc := by
  unfold State.markerCheck; split <;> simp
@[simp] theorem markerCheck_twl (s : State) (a : Access) : (s.markerCheck a).twl = s.twl := by
  unfold State.markerCheck; split <;> simp
@[simp] theorem markerCheck_sru (s : State) (a : Access) : (s.markerCheck a).sru = s.sru := by
  unfold State.markerCheck; split <;> simp
@[simp] theorem markerCheck_mli (s : State) (a : Access) : (s.markerCheck a).mli = s.mli := by
  unfold State.markerCheck; split <;> simp
@[simp] theorem markerCheck_planeP (s : State) (a : Access) : (s.markerCheck a).planeP = s.planeP := by
  unfold State.markerCheck; split <;> simp
@[simp] theorem markerCheck_planeQ (s : State) (a : Access) : (s.markerCheck a).planeQ = s.planeQ := by
  unfold State.markerCheck; split <;> simp
@[simp] theorem markerCheck_pending (s : State) (a : Access) : (s.markerCheck a).pending = s.pending := by
  unfold State.markerCheck; split <;> simp
@[simp] theorem markerCheck_cuts (s : State) (a : Access) : (s.markerCheck a).cuts = s.cuts := by
  unfold State.markerCheck; split <;> simp

@[simp] theorem retireCheck_inReset (s : State) (a : Access) : (s.retireCheck a).inReset = s.inReset := by
  unfold State.retireCheck; split <;> simp
@[simp] theorem retireCheck_rgd (s : State) (a : Access) : (s.retireCheck a).rgd = s.rgd := by
  unfold State.retireCheck; split <;> simp
@[simp] theorem retireCheck_cdu (s : State) (a : Access) : (s.retireCheck a).cdu = s.cdu := by
  unfold State.retireCheck; split <;> simp
@[simp] theorem retireCheck_mpt (s : State) (a : Access) : (s.retireCheck a).mpt = s.mpt := by
  unfold State.retireCheck; split <;> simp
@[simp] theorem retireCheck_ckc (s : State) (a : Access) : (s.retireCheck a).ckc = s.ckc := by
  unfold State.retireCheck; split <;> simp
@[simp] theorem retireCheck_twl (s : State) (a : Access) : (s.retireCheck a).twl = s.twl := by
  unfold State.retireCheck; split <;> simp
@[simp] theorem retireCheck_sru (s : State) (a : Access) : (s.retireCheck a).sru = s.sru := by
  unfold State.retireCheck; split <;> simp
@[simp] theorem retireCheck_mli (s : State) (a : Access) : (s.retireCheck a).mli = s.mli := by
  unfold State.retireCheck; split <;> simp
@[simp] theorem retireCheck_planeP (s : State) (a : Access) : (s.retireCheck a).planeP = s.planeP := by
  unfold State.retireCheck; split <;> simp
@[simp] theorem retireCheck_planeQ (s : State) (a : Access) : (s.retireCheck a).planeQ = s.planeQ := by
  unfold State.retireCheck; split <;> simp
@[simp] theorem retireCheck_pending (s : State) (a : Access) : (s.retireCheck a).pending = s.pending := by
  unfold State.retireCheck; split <;> simp
@[simp] theorem retireCheck_cuts (s : State) (a : Access) : (s.retireCheck a).cuts = s.cuts := by
  unfold State.retireCheck; split <;> simp

@[simp] theorem requestPriority_inReset (s : State) (m : Move) (r : Region) (b : Nat) : (s.requestPriority m r b).inReset = s.inReset := by
  unfold State.requestPriority; split <;> simp
@[simp] theorem requestPriority_hbi (s : State) (m : Move) (r : Region) (b : Nat) : (s.requestPriority m r b).hbi = s.hbi := by
  unfold State.requestPriority; split <;> simp
@[simp] theorem requestPriority_rgd (s : State) (m : Move) (r : Region) (b : Nat) : (s.requestPriority m r b).rgd = s.rgd := by
  unfold State.requestPriority; split <;> simp
@[simp] theorem requestPriority_cdu (s : State) (m : Move) (r : Region) (b : Nat) : (s.requestPriority m r b).cdu = s.cdu := by
  unfold State.requestPriority; split <;> simp
@[simp] theorem requestPriority_mpt (s : State) (m : Move) (r : Region) (b : Nat) : (s.requestPriority m r b).mpt = s.mpt := by
  unfold State.requestPriority; split <;> simp
@[simp] theorem requestPriority_ckc (s : State) (m : Move) (r : Region) (b : Nat) : (s.requestPriority m r b).ckc = s.ckc := by
  unfold State.requestPriority; split <;> simp
@[simp] theorem requestPriority_cau (s : State) (m : Move) (r : Region) (b : Nat) : (s.requestPriority m r b).cau = s.cau := by
  unfold State.requestPriority; split <;> simp
@[simp] theorem requestPriority_twl (s : State) (m : Move) (r : Region) (b : Nat) : (s.requestPriority m r b).twl = s.twl := by
  unfold State.requestPriority; split <;> simp
@[simp] theorem requestPriority_sru (s : State) (m : Move) (r : Region) (b : Nat) : (s.requestPriority m r b).sru = s.sru := by
  unfold State.requestPriority; split <;> simp
@[simp] theorem requestPriority_fau (s : State) (m : Move) (r : Region) (b : Nat) : (s.requestPriority m r b).fau = s.fau := by
  unfold State.requestPriority; split <;> simp
@[simp] theorem requestPriority_mli (s : State) (m : Move) (r : Region) (b : Nat) : (s.requestPriority m r b).mli = s.mli := by
  unfold State.requestPriority; split <;> simp
@[simp] theorem requestPriority_planeP (s : State) (m : Move) (r : Region) (b : Nat) : (s.requestPriority m r b).planeP = s.planeP := by
  unfold State.requestPriority; split <;> simp
@[simp] theorem requestPriority_planeQ (s : State) (m : Move) (r : Region) (b : Nat) : (s.requestPriority m r b).planeQ = s.planeQ := by
  unfold State.requestPriority; split <;> simp
@[simp] theorem requestPriority_pending (s : State) (m : Move) (r : Region) (b : Nat) : (s.requestPriority m r b).pending = s.pending := by
  unfold State.requestPriority; split <;> simp
@[simp] theorem requestPriority_cuts (s : State) (m : Move) (r : Region) (b : Nat) : (s.requestPriority m r b).cuts = s.cuts := by
  unfold State.requestPriority; split <;> simp

@[simp] theorem holdCheck_inReset (s : State) (a : Access) : (s.holdCheck a).inReset = s.inReset := by
  unfold State.holdCheck; split <;> simp
@[simp] theorem holdCheck_rgd (s : State) (a : Access) : (s.holdCheck a).rgd = s.rgd := by
  unfold State.holdCheck; split <;> simp
@[simp] theorem holdCheck_cdu (s : State) (a : Access) : (s.holdCheck a).cdu = s.cdu := by
  unfold State.holdCheck; split <;> simp
@[simp] theorem holdCheck_mpt (s : State) (a : Access) : (s.holdCheck a).mpt = s.mpt := by
  unfold State.holdCheck; split <;> simp
@[simp] theorem holdCheck_ckc (s : State) (a : Access) : (s.holdCheck a).ckc = s.ckc := by
  unfold State.holdCheck; split <;> simp
@[simp] theorem holdCheck_twl (s : State) (a : Access) : (s.holdCheck a).twl = s.twl := by
  unfold State.holdCheck; split <;> simp
@[simp] theorem holdCheck_sru (s : State) (a : Access) : (s.holdCheck a).sru = s.sru := by
  unfold State.holdCheck; split <;> simp
@[simp] theorem holdCheck_mli (s : State) (a : Access) : (s.holdCheck a).mli = s.mli := by
  unfold State.holdCheck; split <;> simp
@[simp] theorem holdCheck_planeP (s : State) (a : Access) : (s.holdCheck a).planeP = s.planeP := by
  unfold State.holdCheck; split <;> simp
@[simp] theorem holdCheck_planeQ (s : State) (a : Access) : (s.holdCheck a).planeQ = s.planeQ := by
  unfold State.holdCheck; split <;> simp
@[simp] theorem holdCheck_pending (s : State) (a : Access) : (s.holdCheck a).pending = s.pending := by
  unfold State.holdCheck; split <;> simp
@[simp] theorem holdCheck_cuts (s : State) (a : Access) : (s.holdCheck a).cuts = s.cuts := by
  unfold State.holdCheck; split <;> simp

@[simp] theorem releaseHeld_inReset (s : State) (p : Access → Bool) : (s.releaseHeld p).inReset = s.inReset := by
  unfold State.releaseHeld; (repeat' split) <;> simp
@[simp] theorem releaseHeld_rgd (s : State) (p : Access → Bool) : (s.releaseHeld p).rgd = s.rgd := by
  unfold State.releaseHeld; (repeat' split) <;> simp
@[simp] theorem releaseHeld_cdu (s : State) (p : Access → Bool) : (s.releaseHeld p).cdu = s.cdu := by
  unfold State.releaseHeld; (repeat' split) <;> simp
@[simp] theorem releaseHeld_mpt (s : State) (p : Access → Bool) : (s.releaseHeld p).mpt = s.mpt := by
  unfold State.releaseHeld; (repeat' split) <;> simp
@[simp] theorem releaseHeld_ckc (s : State) (p : Access → Bool) : (s.releaseHeld p).ckc = s.ckc := by
  unfold State.releaseHeld; (repeat' split) <;> simp
@[simp] theorem releaseHeld_twl (s : State) (p : Access → Bool) : (s.releaseHeld p).twl = s.twl := by
  unfold State.releaseHeld; (repeat' split) <;> simp
@[simp] theorem releaseHeld_sru (s : State) (p : Access → Bool) : (s.releaseHeld p).sru = s.sru := by
  unfold State.releaseHeld; (repeat' split) <;> simp
@[simp] theorem releaseHeld_mli (s : State) (p : Access → Bool) : (s.releaseHeld p).mli = s.mli := by
  unfold State.releaseHeld; (repeat' split) <;> simp
@[simp] theorem releaseHeld_planeP (s : State) (p : Access → Bool) : (s.releaseHeld p).planeP = s.planeP := by
  unfold State.releaseHeld; (repeat' split) <;> simp
@[simp] theorem releaseHeld_planeQ (s : State) (p : Access → Bool) : (s.releaseHeld p).planeQ = s.planeQ := by
  unfold State.releaseHeld; (repeat' split) <;> simp
@[simp] theorem releaseHeld_pending (s : State) (p : Access → Bool) : (s.releaseHeld p).pending = s.pending := by
  unfold State.releaseHeld; (repeat' split) <;> simp
@[simp] theorem releaseHeld_cuts (s : State) (p : Access → Bool) : (s.releaseHeld p).cuts = s.cuts := by
  unfold State.releaseHeld; (repeat' split) <;> simp

@[simp] theorem releaseRetire_inReset (s : State) (b : Nat) : (s.releaseRetire b).inReset = s.inReset := by
  unfold State.releaseRetire; (repeat' split) <;> simp
@[simp] theorem releaseRetire_rgd (s : State) (b : Nat) : (s.releaseRetire b).rgd = s.rgd := by
  unfold State.releaseRetire; (repeat' split) <;> simp
@[simp] theorem releaseRetire_cdu (s : State) (b : Nat) : (s.releaseRetire b).cdu = s.cdu := by
  unfold State.releaseRetire; (repeat' split) <;> simp
@[simp] theorem releaseRetire_mpt (s : State) (b : Nat) : (s.releaseRetire b).mpt = s.mpt := by
  unfold State.releaseRetire; (repeat' split) <;> simp
@[simp] theorem releaseRetire_ckc (s : State) (b : Nat) : (s.releaseRetire b).ckc = s.ckc := by
  unfold State.releaseRetire; (repeat' split) <;> simp
@[simp] theorem releaseRetire_twl (s : State) (b : Nat) : (s.releaseRetire b).twl = s.twl := by
  unfold State.releaseRetire; (repeat' split) <;> simp
@[simp] theorem releaseRetire_sru (s : State) (b : Nat) : (s.releaseRetire b).sru = s.sru := by
  unfold State.releaseRetire; (repeat' split) <;> simp
@[simp] theorem releaseRetire_mli (s : State) (b : Nat) : (s.releaseRetire b).mli = s.mli := by
  unfold State.releaseRetire; (repeat' split) <;> simp
@[simp] theorem releaseRetire_planeP (s : State) (b : Nat) : (s.releaseRetire b).planeP = s.planeP := by
  unfold State.releaseRetire; (repeat' split) <;> simp
@[simp] theorem releaseRetire_planeQ (s : State) (b : Nat) : (s.releaseRetire b).planeQ = s.planeQ := by
  unfold State.releaseRetire; (repeat' split) <;> simp
@[simp] theorem releaseRetire_pending (s : State) (b : Nat) : (s.releaseRetire b).pending = s.pending := by
  unfold State.releaseRetire; (repeat' split) <;> simp
@[simp] theorem releaseRetire_cuts (s : State) (b : Nat) : (s.releaseRetire b).cuts = s.cuts := by
  unfold State.releaseRetire; (repeat' split) <;> simp

@[simp] theorem markStale_inReset (s : State) (m : Move) : (s.markStale m).inReset = s.inReset := by
  unfold State.markStale; (repeat' split) <;> simp
@[simp] theorem markStale_hbi (s : State) (m : Move) : (s.markStale m).hbi = s.hbi := by
  unfold State.markStale; (repeat' split) <;> simp
@[simp] theorem markStale_rgd (s : State) (m : Move) : (s.markStale m).rgd = s.rgd := by
  unfold State.markStale; (repeat' split) <;> simp
@[simp] theorem markStale_cdu (s : State) (m : Move) : (s.markStale m).cdu = s.cdu := by
  unfold State.markStale; (repeat' split) <;> simp
@[simp] theorem markStale_mpt (s : State) (m : Move) : (s.markStale m).mpt = s.mpt := by
  unfold State.markStale; (repeat' split) <;> simp
@[simp] theorem markStale_ckc (s : State) (m : Move) : (s.markStale m).ckc = s.ckc := by
  unfold State.markStale; (repeat' split) <;> simp
@[simp] theorem markStale_cau (s : State) (m : Move) : (s.markStale m).cau = s.cau := by
  unfold State.markStale; (repeat' split) <;> simp
@[simp] theorem markStale_twl (s : State) (m : Move) : (s.markStale m).twl = s.twl := by
  unfold State.markStale; (repeat' split) <;> simp
@[simp] theorem markStale_sru (s : State) (m : Move) : (s.markStale m).sru = s.sru := by
  unfold State.markStale; (repeat' split) <;> simp
@[simp] theorem markStale_fau (s : State) (m : Move) : (s.markStale m).fau = s.fau := by
  unfold State.markStale; (repeat' split) <;> simp
@[simp] theorem markStale_mli (s : State) (m : Move) : (s.markStale m).mli = s.mli := by
  unfold State.markStale; (repeat' split) <;> simp
@[simp] theorem markStale_planeP (s : State) (m : Move) : (s.markStale m).planeP = s.planeP := by
  unfold State.markStale; (repeat' split) <;> simp
@[simp] theorem markStale_planeQ (s : State) (m : Move) : (s.markStale m).planeQ = s.planeQ := by
  unfold State.markStale; (repeat' split) <;> simp
@[simp] theorem markStale_pending (s : State) (m : Move) : (s.markStale m).pending = s.pending := by
  unfold State.markStale; (repeat' split) <;> simp
@[simp] theorem markStale_cuts (s : State) (m : Move) : (s.markStale m).cuts = s.cuts := by
  unfold State.markStale; (repeat' split) <;> simp

@[simp] theorem blockMoved_inReset (s : State) (m : Move) (r : Region) (b : Nat) : (s.blockMoved m r b).inReset = s.inReset := by
  unfold State.blockMoved; simp
@[simp] theorem blockMoved_rgd (s : State) (m : Move) (r : Region) (b : Nat) : (s.blockMoved m r b).rgd = s.rgd := by
  unfold State.blockMoved; simp
@[simp] theorem blockMoved_cdu (s : State) (m : Move) (r : Region) (b : Nat) : (s.blockMoved m r b).cdu = s.cdu := by
  unfold State.blockMoved; simp
@[simp] theorem blockMoved_mpt (s : State) (m : Move) (r : Region) (b : Nat) : (s.blockMoved m r b).mpt = s.mpt := by
  unfold State.blockMoved; simp
@[simp] theorem blockMoved_twl (s : State) (m : Move) (r : Region) (b : Nat) : (s.blockMoved m r b).twl = s.twl := by
  unfold State.blockMoved; simp
@[simp] theorem blockMoved_sru (s : State) (m : Move) (r : Region) (b : Nat) : (s.blockMoved m r b).sru = s.sru := by
  unfold State.blockMoved; simp
@[simp] theorem blockMoved_mli (s : State) (m : Move) (r : Region) (b : Nat) : (s.blockMoved m r b).mli = s.mli := by
  unfold State.blockMoved; simp
@[simp] theorem blockMoved_planeP (s : State) (m : Move) (r : Region) (b : Nat) : (s.blockMoved m r b).planeP = s.planeP := by
  unfold State.blockMoved; simp
@[simp] theorem blockMoved_planeQ (s : State) (m : Move) (r : Region) (b : Nat) : (s.blockMoved m r b).planeQ = s.planeQ := by
  unfold State.blockMoved; simp
@[simp] theorem blockMoved_pending (s : State) (m : Move) (r : Region) (b : Nat) : (s.blockMoved m r b).pending = s.pending := by
  unfold State.blockMoved; simp
@[simp] theorem blockMoved_cuts (s : State) (m : Move) (r : Region) (b : Nat) : (s.blockMoved m r b).cuts = s.cuts := by
  unfold State.blockMoved; simp

@[simp] theorem withdrawPriority_inReset (s : State) (m : Move) : (s.withdrawPriority m).inReset = s.inReset := by
  unfold State.withdrawPriority; (repeat' split) <;> simp
@[simp] theorem withdrawPriority_hbi (s : State) (m : Move) : (s.withdrawPriority m).hbi = s.hbi := by
  unfold State.withdrawPriority; (repeat' split) <;> simp
@[simp] theorem withdrawPriority_rgd (s : State) (m : Move) : (s.withdrawPriority m).rgd = s.rgd := by
  unfold State.withdrawPriority; (repeat' split) <;> simp
@[simp] theorem withdrawPriority_cdu (s : State) (m : Move) : (s.withdrawPriority m).cdu = s.cdu := by
  unfold State.withdrawPriority; (repeat' split) <;> simp
@[simp] theorem withdrawPriority_mpt (s : State) (m : Move) : (s.withdrawPriority m).mpt = s.mpt := by
  unfold State.withdrawPriority; (repeat' split) <;> simp
@[simp] theorem withdrawPriority_ckc (s : State) (m : Move) : (s.withdrawPriority m).ckc = s.ckc := by
  unfold State.withdrawPriority; (repeat' split) <;> simp
@[simp] theorem withdrawPriority_cau (s : State) (m : Move) : (s.withdrawPriority m).cau = s.cau := by
  unfold State.withdrawPriority; (repeat' split) <;> simp
@[simp] theorem withdrawPriority_twl (s : State) (m : Move) : (s.withdrawPriority m).twl = s.twl := by
  unfold State.withdrawPriority; (repeat' split) <;> simp
@[simp] theorem withdrawPriority_sru (s : State) (m : Move) : (s.withdrawPriority m).sru = s.sru := by
  unfold State.withdrawPriority; (repeat' split) <;> simp
@[simp] theorem withdrawPriority_fau (s : State) (m : Move) : (s.withdrawPriority m).fau = s.fau := by
  unfold State.withdrawPriority; (repeat' split) <;> simp
@[simp] theorem withdrawPriority_mli (s : State) (m : Move) : (s.withdrawPriority m).mli = s.mli := by
  unfold State.withdrawPriority; (repeat' split) <;> simp
@[simp] theorem withdrawPriority_planeP (s : State) (m : Move) : (s.withdrawPriority m).planeP = s.planeP := by
  unfold State.withdrawPriority; (repeat' split) <;> simp
@[simp] theorem withdrawPriority_planeQ (s : State) (m : Move) : (s.withdrawPriority m).planeQ = s.planeQ := by
  unfold State.withdrawPriority; (repeat' split) <;> simp
@[simp] theorem withdrawPriority_pending (s : State) (m : Move) : (s.withdrawPriority m).pending = s.pending := by
  unfold State.withdrawPriority; (repeat' split) <;> simp
@[simp] theorem withdrawPriority_cuts (s : State) (m : Move) : (s.withdrawPriority m).cuts = s.cuts := by
  unfold State.withdrawPriority; (repeat' split) <;> simp

@[simp] theorem breakPass_inReset (s : State) (m : Move) (r : Region) : (s.breakPass m r).inReset = s.inReset := by
  unfold State.breakPass; simp
@[simp] theorem breakPass_rgd (s : State) (m : Move) (r : Region) : (s.breakPass m r).rgd = s.rgd := by
  unfold State.breakPass; simp
@[simp] theorem breakPass_cdu (s : State) (m : Move) (r : Region) : (s.breakPass m r).cdu = s.cdu := by
  unfold State.breakPass; simp
@[simp] theorem breakPass_mpt (s : State) (m : Move) (r : Region) : (s.breakPass m r).mpt = s.mpt := by
  unfold State.breakPass; simp
@[simp] theorem breakPass_twl (s : State) (m : Move) (r : Region) : (s.breakPass m r).twl = s.twl := by
  unfold State.breakPass; simp
@[simp] theorem breakPass_sru (s : State) (m : Move) (r : Region) : (s.breakPass m r).sru = s.sru := by
  unfold State.breakPass; simp
@[simp] theorem breakPass_mli (s : State) (m : Move) (r : Region) : (s.breakPass m r).mli = s.mli := by
  unfold State.breakPass; simp
@[simp] theorem breakPass_planeP (s : State) (m : Move) (r : Region) : (s.breakPass m r).planeP = s.planeP := by
  unfold State.breakPass; simp
@[simp] theorem breakPass_planeQ (s : State) (m : Move) (r : Region) : (s.breakPass m r).planeQ = s.planeQ := by
  unfold State.breakPass; simp
@[simp] theorem breakPass_pending (s : State) (m : Move) (r : Region) : (s.breakPass m r).pending = s.pending := by
  unfold State.breakPass; simp
@[simp] theorem breakPass_cuts (s : State) (m : Move) (r : Region) : (s.breakPass m r).cuts = s.cuts := by
  unfold State.breakPass; simp

@[simp] theorem shadowBreak_inReset (s : State) (r : Region) : (s.shadowBreak r).inReset = s.inReset := by
  unfold State.shadowBreak; split <;> simp
@[simp] theorem shadowBreak_rgd (s : State) (r : Region) : (s.shadowBreak r).rgd = s.rgd := by
  unfold State.shadowBreak; split <;> simp
@[simp] theorem shadowBreak_cdu (s : State) (r : Region) : (s.shadowBreak r).cdu = s.cdu := by
  unfold State.shadowBreak; split <;> simp
@[simp] theorem shadowBreak_mpt (s : State) (r : Region) : (s.shadowBreak r).mpt = s.mpt := by
  unfold State.shadowBreak; split <;> simp
@[simp] theorem shadowBreak_twl (s : State) (r : Region) : (s.shadowBreak r).twl = s.twl := by
  unfold State.shadowBreak; split <;> simp
@[simp] theorem shadowBreak_sru (s : State) (r : Region) : (s.shadowBreak r).sru = s.sru := by
  unfold State.shadowBreak; split <;> simp
@[simp] theorem shadowBreak_mli (s : State) (r : Region) : (s.shadowBreak r).mli = s.mli := by
  unfold State.shadowBreak; split <;> simp
@[simp] theorem shadowBreak_planeP (s : State) (r : Region) : (s.shadowBreak r).planeP = s.planeP := by
  unfold State.shadowBreak; split <;> simp
@[simp] theorem shadowBreak_planeQ (s : State) (r : Region) : (s.shadowBreak r).planeQ = s.planeQ := by
  unfold State.shadowBreak; split <;> simp
@[simp] theorem shadowBreak_pending (s : State) (r : Region) : (s.shadowBreak r).pending = s.pending := by
  unfold State.shadowBreak; split <;> simp
@[simp] theorem shadowBreak_cuts (s : State) (r : Region) : (s.shadowBreak r).cuts = s.cuts := by
  unfold State.shadowBreak; split <;> simp

@[simp] theorem moveFailed_inReset (s : State) (m : Move) (r : Region) (b : Nat) (pos : Position) (w : Nat) (rep : CheckReport) : (s.moveFailed m r b pos w rep).inReset = s.inReset := by
  unfold State.moveFailed; split <;> simp
@[simp] theorem moveFailed_rgd (s : State) (m : Move) (r : Region) (b : Nat) (pos : Position) (w : Nat) (rep : CheckReport) : (s.moveFailed m r b pos w rep).rgd = s.rgd := by
  unfold State.moveFailed; split <;> simp
@[simp] theorem moveFailed_cdu (s : State) (m : Move) (r : Region) (b : Nat) (pos : Position) (w : Nat) (rep : CheckReport) : (s.moveFailed m r b pos w rep).cdu = s.cdu := by
  unfold State.moveFailed; split <;> simp
@[simp] theorem moveFailed_mpt (s : State) (m : Move) (r : Region) (b : Nat) (pos : Position) (w : Nat) (rep : CheckReport) : (s.moveFailed m r b pos w rep).mpt = s.mpt := by
  unfold State.moveFailed; split <;> simp
@[simp] theorem moveFailed_twl (s : State) (m : Move) (r : Region) (b : Nat) (pos : Position) (w : Nat) (rep : CheckReport) : (s.moveFailed m r b pos w rep).twl = s.twl := by
  unfold State.moveFailed; split <;> simp
@[simp] theorem moveFailed_sru (s : State) (m : Move) (r : Region) (b : Nat) (pos : Position) (w : Nat) (rep : CheckReport) : (s.moveFailed m r b pos w rep).sru = s.sru := by
  unfold State.moveFailed; split <;> simp
@[simp] theorem moveFailed_mli (s : State) (m : Move) (r : Region) (b : Nat) (pos : Position) (w : Nat) (rep : CheckReport) : (s.moveFailed m r b pos w rep).mli = s.mli := by
  unfold State.moveFailed; split <;> simp
@[simp] theorem moveFailed_planeP (s : State) (m : Move) (r : Region) (b : Nat) (pos : Position) (w : Nat) (rep : CheckReport) : (s.moveFailed m r b pos w rep).planeP = s.planeP := by
  unfold State.moveFailed; split <;> simp
@[simp] theorem moveFailed_planeQ (s : State) (m : Move) (r : Region) (b : Nat) (pos : Position) (w : Nat) (rep : CheckReport) : (s.moveFailed m r b pos w rep).planeQ = s.planeQ := by
  unfold State.moveFailed; split <;> simp
@[simp] theorem moveFailed_pending (s : State) (m : Move) (r : Region) (b : Nat) (pos : Position) (w : Nat) (rep : CheckReport) : (s.moveFailed m r b pos w rep).pending = s.pending := by
  unfold State.moveFailed; split <;> simp
@[simp] theorem moveFailed_cuts (s : State) (m : Move) (r : Region) (b : Nat) (pos : Position) (w : Nat) (rep : CheckReport) : (s.moveFailed m r b pos w rep).cuts = s.cuts := by
  unfold State.moveFailed; split <;> simp

@[simp] theorem startRestore_inReset (s : State) (r : Region) : (s.startRestore r).inReset = s.inReset := by
  unfold State.startRestore; (repeat' split) <;> simp
@[simp] theorem startRestore_hbi (s : State) (r : Region) : (s.startRestore r).hbi = s.hbi := by
  unfold State.startRestore; (repeat' split) <;> simp
@[simp] theorem startRestore_rgd (s : State) (r : Region) : (s.startRestore r).rgd = s.rgd := by
  unfold State.startRestore; (repeat' split) <;> simp
@[simp] theorem startRestore_cdu (s : State) (r : Region) : (s.startRestore r).cdu = s.cdu := by
  unfold State.startRestore; (repeat' split) <;> simp
@[simp] theorem startRestore_mpt (s : State) (r : Region) : (s.startRestore r).mpt = s.mpt := by
  unfold State.startRestore; (repeat' split) <;> simp
@[simp] theorem startRestore_txe (s : State) (r : Region) : (s.startRestore r).txe = s.txe := by
  unfold State.startRestore; (repeat' split) <;> simp
@[simp] theorem startRestore_twl (s : State) (r : Region) : (s.startRestore r).twl = s.twl := by
  unfold State.startRestore; (repeat' split) <;> simp
@[simp] theorem startRestore_sru (s : State) (r : Region) : (s.startRestore r).sru = s.sru := by
  unfold State.startRestore; (repeat' split) <;> simp
@[simp] theorem startRestore_mli (s : State) (r : Region) : (s.startRestore r).mli = s.mli := by
  unfold State.startRestore; (repeat' split) <;> simp
@[simp] theorem startRestore_planeP (s : State) (r : Region) : (s.startRestore r).planeP = s.planeP := by
  unfold State.startRestore; (repeat' split) <;> simp
@[simp] theorem startRestore_planeQ (s : State) (r : Region) : (s.startRestore r).planeQ = s.planeQ := by
  unfold State.startRestore; (repeat' split) <;> simp
@[simp] theorem startRestore_pending (s : State) (r : Region) : (s.startRestore r).pending = s.pending := by
  unfold State.startRestore; (repeat' split) <;> simp
@[simp] theorem startRestore_cuts (s : State) (r : Region) : (s.startRestore r).cuts = s.cuts := by
  unfold State.startRestore; (repeat' split) <;> simp

@[simp] theorem requestPass_inReset (s : State) (m : Move) : (s.requestPass m).inReset = s.inReset := by
  unfold State.requestPass; split <;> simp
@[simp] theorem requestPass_hbi (s : State) (m : Move) : (s.requestPass m).hbi = s.hbi := by
  unfold State.requestPass; split <;> simp
@[simp] theorem requestPass_rgd (s : State) (m : Move) : (s.requestPass m).rgd = s.rgd := by
  unfold State.requestPass; split <;> simp
@[simp] theorem requestPass_cdu (s : State) (m : Move) : (s.requestPass m).cdu = s.cdu := by
  unfold State.requestPass; split <;> simp
@[simp] theorem requestPass_mpt (s : State) (m : Move) : (s.requestPass m).mpt = s.mpt := by
  unfold State.requestPass; split <;> simp
@[simp] theorem requestPass_ckc (s : State) (m : Move) : (s.requestPass m).ckc = s.ckc := by
  unfold State.requestPass; split <;> simp
@[simp] theorem requestPass_cau (s : State) (m : Move) : (s.requestPass m).cau = s.cau := by
  unfold State.requestPass; split <;> simp
@[simp] theorem requestPass_twl (s : State) (m : Move) : (s.requestPass m).twl = s.twl := by
  unfold State.requestPass; split <;> simp
@[simp] theorem requestPass_sru (s : State) (m : Move) : (s.requestPass m).sru = s.sru := by
  unfold State.requestPass; split <;> simp
@[simp] theorem requestPass_fau (s : State) (m : Move) : (s.requestPass m).fau = s.fau := by
  unfold State.requestPass; split <;> simp
@[simp] theorem requestPass_mli (s : State) (m : Move) : (s.requestPass m).mli = s.mli := by
  unfold State.requestPass; split <;> simp
@[simp] theorem requestPass_planeP (s : State) (m : Move) : (s.requestPass m).planeP = s.planeP := by
  unfold State.requestPass; split <;> simp
@[simp] theorem requestPass_planeQ (s : State) (m : Move) : (s.requestPass m).planeQ = s.planeQ := by
  unfold State.requestPass; split <;> simp
@[simp] theorem requestPass_pending (s : State) (m : Move) : (s.requestPass m).pending = s.pending := by
  unfold State.requestPass; split <;> simp
@[simp] theorem requestPass_cuts (s : State) (m : Move) : (s.requestPass m).cuts = s.cuts := by
  unfold State.requestPass; split <;> simp

@[simp] theorem abandonRetire_inReset (s : State) (m : Move) : (s.abandonRetire m).inReset = s.inReset := by
  unfold State.abandonRetire; dsimp only; (repeat' split) <;> simp
@[simp] theorem abandonRetire_rgd (s : State) (m : Move) : (s.abandonRetire m).rgd = s.rgd := by
  unfold State.abandonRetire; dsimp only; (repeat' split) <;> simp
@[simp] theorem abandonRetire_cdu (s : State) (m : Move) : (s.abandonRetire m).cdu = s.cdu := by
  unfold State.abandonRetire; dsimp only; (repeat' split) <;> simp
@[simp] theorem abandonRetire_mpt (s : State) (m : Move) : (s.abandonRetire m).mpt = s.mpt := by
  unfold State.abandonRetire; dsimp only; (repeat' split) <;> simp
@[simp] theorem abandonRetire_ckc (s : State) (m : Move) : (s.abandonRetire m).ckc = s.ckc := by
  unfold State.abandonRetire; dsimp only; (repeat' split) <;> simp
@[simp] theorem abandonRetire_twl (s : State) (m : Move) : (s.abandonRetire m).twl = s.twl := by
  unfold State.abandonRetire; dsimp only; (repeat' split) <;> simp
@[simp] theorem abandonRetire_sru (s : State) (m : Move) : (s.abandonRetire m).sru = s.sru := by
  unfold State.abandonRetire; dsimp only; (repeat' split) <;> simp
@[simp] theorem abandonRetire_mli (s : State) (m : Move) : (s.abandonRetire m).mli = s.mli := by
  unfold State.abandonRetire; dsimp only; (repeat' split) <;> simp
@[simp] theorem abandonRetire_planeP (s : State) (m : Move) : (s.abandonRetire m).planeP = s.planeP := by
  unfold State.abandonRetire; dsimp only; (repeat' split) <;> simp
@[simp] theorem abandonRetire_planeQ (s : State) (m : Move) : (s.abandonRetire m).planeQ = s.planeQ := by
  unfold State.abandonRetire; dsimp only; (repeat' split) <;> simp
@[simp] theorem abandonRetire_pending (s : State) (m : Move) : (s.abandonRetire m).pending = s.pending := by
  unfold State.abandonRetire; dsimp only; (repeat' split) <;> simp
@[simp] theorem abandonRetire_cuts (s : State) (m : Move) : (s.abandonRetire m).cuts = s.cuts := by
  unfold State.abandonRetire; dsimp only; (repeat' split) <;> simp

@[simp] theorem foldStartRestore_inReset (l : List Region) (s : State) : (l.foldl State.startRestore s).inReset = s.inReset := by
  induction l generalizing s with
  | nil => rfl
  | cons r t ih => simp [ih]
@[simp] theorem foldStartRestore_hbi (l : List Region) (s : State) : (l.foldl State.startRestore s).hbi = s.hbi := by
  induction l generalizing s with
  | nil => rfl
  | cons r t ih => simp [ih]
@[simp] theorem foldStartRestore_rgd (l : List Region) (s : State) : (l.foldl State.startRestore s).rgd = s.rgd := by
  induction l generalizing s with
  | nil => rfl
  | cons r t ih => simp [ih]
@[simp] theorem foldStartRestore_cdu (l : List Region) (s : State) : (l.foldl State.startRestore s).cdu = s.cdu := by
  induction l generalizing s with
  | nil => rfl
  | cons r t ih => simp [ih]
@[simp] theorem foldStartRestore_mpt (l : List Region) (s : State) : (l.foldl State.startRestore s).mpt = s.mpt := by
  induction l generalizing s with
  | nil => rfl
  | cons r t ih => simp [ih]
@[simp] theorem foldStartRestore_txe (l : List Region) (s : State) : (l.foldl State.startRestore s).txe = s.txe := by
  induction l generalizing s with
  | nil => rfl
  | cons r t ih => simp [ih]
@[simp] theorem foldStartRestore_twl (l : List Region) (s : State) : (l.foldl State.startRestore s).twl = s.twl := by
  induction l generalizing s with
  | nil => rfl
  | cons r t ih => simp [ih]
@[simp] theorem foldStartRestore_sru (l : List Region) (s : State) : (l.foldl State.startRestore s).sru = s.sru := by
  induction l generalizing s with
  | nil => rfl
  | cons r t ih => simp [ih]
@[simp] theorem foldStartRestore_mli (l : List Region) (s : State) : (l.foldl State.startRestore s).mli = s.mli := by
  induction l generalizing s with
  | nil => rfl
  | cons r t ih => simp [ih]
@[simp] theorem foldStartRestore_planeP (l : List Region) (s : State) : (l.foldl State.startRestore s).planeP = s.planeP := by
  induction l generalizing s with
  | nil => rfl
  | cons r t ih => simp [ih]
@[simp] theorem foldStartRestore_planeQ (l : List Region) (s : State) : (l.foldl State.startRestore s).planeQ = s.planeQ := by
  induction l generalizing s with
  | nil => rfl
  | cons r t ih => simp [ih]
@[simp] theorem foldStartRestore_pending (l : List Region) (s : State) : (l.foldl State.startRestore s).pending = s.pending := by
  induction l generalizing s with
  | nil => rfl
  | cons r t ih => simp [ih]
@[simp] theorem foldStartRestore_cuts (l : List Region) (s : State) : (l.foldl State.startRestore s).cuts = s.cuts := by
  induction l generalizing s with
  | nil => rfl
  | cons r t ih => simp [ih]

@[simp] theorem startPasses_inReset (s : State) (m : Move) : (s.startPasses m).inReset = s.inReset := by
  unfold State.startPasses; split <;> simp
@[simp] theorem startPasses_rgd (s : State) (m : Move) : (s.startPasses m).rgd = s.rgd := by
  unfold State.startPasses; split <;> simp
@[simp] theorem startPasses_cdu (s : State) (m : Move) : (s.startPasses m).cdu = s.cdu := by
  unfold State.startPasses; split <;> simp
@[simp] theorem startPasses_mpt (s : State) (m : Move) : (s.startPasses m).mpt = s.mpt := by
  unfold State.startPasses; split <;> simp
@[simp] theorem startPasses_twl (s : State) (m : Move) : (s.startPasses m).twl = s.twl := by
  unfold State.startPasses; split <;> simp
@[simp] theorem startPasses_sru (s : State) (m : Move) : (s.startPasses m).sru = s.sru := by
  unfold State.startPasses; split <;> simp
@[simp] theorem startPasses_mli (s : State) (m : Move) : (s.startPasses m).mli = s.mli := by
  unfold State.startPasses; split <;> simp
@[simp] theorem startPasses_planeP (s : State) (m : Move) : (s.startPasses m).planeP = s.planeP := by
  unfold State.startPasses; split <;> simp
@[simp] theorem startPasses_planeQ (s : State) (m : Move) : (s.startPasses m).planeQ = s.planeQ := by
  unfold State.startPasses; split <;> simp
@[simp] theorem startPasses_pending (s : State) (m : Move) : (s.startPasses m).pending = s.pending := by
  unfold State.startPasses; split <;> simp
@[simp] theorem startPasses_cuts (s : State) (m : Move) : (s.startPasses m).cuts = s.cuts := by
  unfold State.startPasses; split <;> simp

@[simp] theorem verdict_inReset (s : State) (v : Verdict × Option FaultKind) : (s.verdict v).inReset = s.inReset := by
  unfold State.verdict; (repeat' split) <;> simp
@[simp] theorem verdict_cdu (s : State) (v : Verdict × Option FaultKind) : (s.verdict v).cdu = s.cdu := by
  unfold State.verdict; (repeat' split) <;> simp
@[simp] theorem verdict_twl (s : State) (v : Verdict × Option FaultKind) : (s.verdict v).twl = s.twl := by
  unfold State.verdict; (repeat' split) <;> simp
@[simp] theorem verdict_sru (s : State) (v : Verdict × Option FaultKind) : (s.verdict v).sru = s.sru := by
  unfold State.verdict; (repeat' split) <;> simp
@[simp] theorem verdict_mli (s : State) (v : Verdict × Option FaultKind) : (s.verdict v).mli = s.mli := by
  unfold State.verdict; (repeat' split) <;> simp
@[simp] theorem verdict_planeP (s : State) (v : Verdict × Option FaultKind) : (s.verdict v).planeP = s.planeP := by
  unfold State.verdict; (repeat' split) <;> simp
@[simp] theorem verdict_planeQ (s : State) (v : Verdict × Option FaultKind) : (s.verdict v).planeQ = s.planeQ := by
  unfold State.verdict; (repeat' split) <;> simp
@[simp] theorem verdict_pending (s : State) (v : Verdict × Option FaultKind) : (s.verdict v).pending = s.pending := by
  unfold State.verdict; (repeat' split) <;> simp
@[simp] theorem verdict_cuts (s : State) (v : Verdict × Option FaultKind) : (s.verdict v).cuts = s.cuts := by
  unfold State.verdict; (repeat' split) <;> simp

@[simp] theorem timeoutVerdict_inReset (s : State) (loc : Mark) : (s.timeoutVerdict loc).inReset = s.inReset := by
  unfold State.timeoutVerdict; simp
@[simp] theorem timeoutVerdict_cdu (s : State) (loc : Mark) : (s.timeoutVerdict loc).cdu = s.cdu := by
  unfold State.timeoutVerdict; simp
@[simp] theorem timeoutVerdict_twl (s : State) (loc : Mark) : (s.timeoutVerdict loc).twl = s.twl := by
  unfold State.timeoutVerdict; simp
@[simp] theorem timeoutVerdict_sru (s : State) (loc : Mark) : (s.timeoutVerdict loc).sru = s.sru := by
  unfold State.timeoutVerdict; simp
@[simp] theorem timeoutVerdict_mli (s : State) (loc : Mark) : (s.timeoutVerdict loc).mli = s.mli := by
  unfold State.timeoutVerdict; simp
@[simp] theorem timeoutVerdict_planeP (s : State) (loc : Mark) : (s.timeoutVerdict loc).planeP = s.planeP := by
  unfold State.timeoutVerdict; simp
@[simp] theorem timeoutVerdict_planeQ (s : State) (loc : Mark) : (s.timeoutVerdict loc).planeQ = s.planeQ := by
  unfold State.timeoutVerdict; simp
@[simp] theorem timeoutVerdict_pending (s : State) (loc : Mark) : (s.timeoutVerdict loc).pending = s.pending := by
  unfold State.timeoutVerdict; simp
@[simp] theorem timeoutVerdict_cuts (s : State) (loc : Mark) : (s.timeoutVerdict loc).cuts = s.cuts := by
  unfold State.timeoutVerdict; simp

@[simp] theorem reportBadWord_inReset (s : State) (a : Access) (src : Source) (rep : CheckReport) : (s.reportBadWord a src rep).inReset = s.inReset := by
  unfold State.reportBadWord; simp
@[simp] theorem reportBadWord_hbi (s : State) (a : Access) (src : Source) (rep : CheckReport) : (s.reportBadWord a src rep).hbi = s.hbi := by
  unfold State.reportBadWord; simp
@[simp] theorem reportBadWord_rgd (s : State) (a : Access) (src : Source) (rep : CheckReport) : (s.reportBadWord a src rep).rgd = s.rgd := by
  unfold State.reportBadWord; simp
@[simp] theorem reportBadWord_cdu (s : State) (a : Access) (src : Source) (rep : CheckReport) : (s.reportBadWord a src rep).cdu = s.cdu := by
  unfold State.reportBadWord; simp
@[simp] theorem reportBadWord_mpt (s : State) (a : Access) (src : Source) (rep : CheckReport) : (s.reportBadWord a src rep).mpt = s.mpt := by
  unfold State.reportBadWord; simp
@[simp] theorem reportBadWord_txe (s : State) (a : Access) (src : Source) (rep : CheckReport) : (s.reportBadWord a src rep).txe = s.txe := by
  unfold State.reportBadWord; simp
@[simp] theorem reportBadWord_twl (s : State) (a : Access) (src : Source) (rep : CheckReport) : (s.reportBadWord a src rep).twl = s.twl := by
  unfold State.reportBadWord; simp
@[simp] theorem reportBadWord_sru (s : State) (a : Access) (src : Source) (rep : CheckReport) : (s.reportBadWord a src rep).sru = s.sru := by
  unfold State.reportBadWord; simp
@[simp] theorem reportBadWord_mli (s : State) (a : Access) (src : Source) (rep : CheckReport) : (s.reportBadWord a src rep).mli = s.mli := by
  unfold State.reportBadWord; simp
@[simp] theorem reportBadWord_planeP (s : State) (a : Access) (src : Source) (rep : CheckReport) : (s.reportBadWord a src rep).planeP = s.planeP := by
  unfold State.reportBadWord; simp
@[simp] theorem reportBadWord_planeQ (s : State) (a : Access) (src : Source) (rep : CheckReport) : (s.reportBadWord a src rep).planeQ = s.planeQ := by
  unfold State.reportBadWord; simp
@[simp] theorem reportBadWord_pending (s : State) (a : Access) (src : Source) (rep : CheckReport) : (s.reportBadWord a src rep).pending = s.pending := by
  unfold State.reportBadWord; simp
@[simp] theorem reportBadWord_cuts (s : State) (a : Access) (src : Source) (rep : CheckReport) : (s.reportBadWord a src rep).cuts = s.cuts := by
  unfold State.reportBadWord; simp

@[simp] theorem endLocked_inReset (s : State) : (s.endLocked).inReset = s.inReset := by
  unfold State.endLocked; simp
@[simp] theorem endLocked_rgd (s : State) : (s.endLocked).rgd = s.rgd := by
  unfold State.endLocked; simp
@[simp] theorem endLocked_cdu (s : State) : (s.endLocked).cdu = s.cdu := by
  unfold State.endLocked; simp
@[simp] theorem endLocked_ckc (s : State) : (s.endLocked).ckc = s.ckc := by
  unfold State.endLocked; simp
@[simp] theorem endLocked_cau (s : State) : (s.endLocked).cau = s.cau := by
  unfold State.endLocked; simp
@[simp] theorem endLocked_twl (s : State) : (s.endLocked).twl = s.twl := by
  unfold State.endLocked; simp
@[simp] theorem endLocked_sru (s : State) : (s.endLocked).sru = s.sru := by
  unfold State.endLocked; simp
@[simp] theorem endLocked_fau (s : State) : (s.endLocked).fau = s.fau := by
  unfold State.endLocked; simp
@[simp] theorem endLocked_mli (s : State) : (s.endLocked).mli = s.mli := by
  unfold State.endLocked; simp
@[simp] theorem endLocked_planeP (s : State) : (s.endLocked).planeP = s.planeP := by
  unfold State.endLocked; simp
@[simp] theorem endLocked_planeQ (s : State) : (s.endLocked).planeQ = s.planeQ := by
  unfold State.endLocked; simp
@[simp] theorem endLocked_pending (s : State) : (s.endLocked).pending = s.pending := by
  unfold State.endLocked; simp
@[simp] theorem endLocked_cuts (s : State) : (s.endLocked).cuts = s.cuts := by
  unfold State.endLocked; simp

@[simp] theorem writeDone_inReset (s : State) (a : Access) : (s.writeDone a).inReset = s.inReset := by
  unfold State.writeDone; simp
@[simp] theorem writeDone_rgd (s : State) (a : Access) : (s.writeDone a).rgd = s.rgd := by
  unfold State.writeDone; simp
@[simp] theorem writeDone_cdu (s : State) (a : Access) : (s.writeDone a).cdu = s.cdu := by
  unfold State.writeDone; simp
@[simp] theorem writeDone_cau (s : State) (a : Access) : (s.writeDone a).cau = s.cau := by
  unfold State.writeDone; simp
@[simp] theorem writeDone_twl (s : State) (a : Access) : (s.writeDone a).twl = s.twl := by
  unfold State.writeDone; simp
@[simp] theorem writeDone_sru (s : State) (a : Access) : (s.writeDone a).sru = s.sru := by
  unfold State.writeDone; simp
@[simp] theorem writeDone_fau (s : State) (a : Access) : (s.writeDone a).fau = s.fau := by
  unfold State.writeDone; simp
@[simp] theorem writeDone_mli (s : State) (a : Access) : (s.writeDone a).mli = s.mli := by
  unfold State.writeDone; simp
@[simp] theorem writeDone_planeP (s : State) (a : Access) : (s.writeDone a).planeP = s.planeP := by
  unfold State.writeDone; simp
@[simp] theorem writeDone_planeQ (s : State) (a : Access) : (s.writeDone a).planeQ = s.planeQ := by
  unfold State.writeDone; simp
@[simp] theorem writeDone_pending (s : State) (a : Access) : (s.writeDone a).pending = s.pending := by
  unfold State.writeDone; simp
@[simp] theorem writeDone_cuts (s : State) (a : Access) : (s.writeDone a).cuts = s.cuts := by
  unfold State.writeDone; simp

@[simp] theorem moveOver_inReset (s : State) (m : Move) : (s.moveOver m).inReset = s.inReset := by
  unfold State.moveOver; split <;> simp
@[simp] theorem moveOver_hbi (s : State) (m : Move) : (s.moveOver m).hbi = s.hbi := by
  unfold State.moveOver; split <;> simp
@[simp] theorem moveOver_rgd (s : State) (m : Move) : (s.moveOver m).rgd = s.rgd := by
  unfold State.moveOver; split <;> simp
@[simp] theorem moveOver_cdu (s : State) (m : Move) : (s.moveOver m).cdu = s.cdu := by
  unfold State.moveOver; split <;> simp
@[simp] theorem moveOver_mpt (s : State) (m : Move) : (s.moveOver m).mpt = s.mpt := by
  unfold State.moveOver; split <;> simp
@[simp] theorem moveOver_ckc (s : State) (m : Move) : (s.moveOver m).ckc = s.ckc := by
  unfold State.moveOver; split <;> simp
@[simp] theorem moveOver_cau (s : State) (m : Move) : (s.moveOver m).cau = s.cau := by
  unfold State.moveOver; split <;> simp
@[simp] theorem moveOver_twl (s : State) (m : Move) : (s.moveOver m).twl = s.twl := by
  unfold State.moveOver; split <;> simp
@[simp] theorem moveOver_sru (s : State) (m : Move) : (s.moveOver m).sru = s.sru := by
  unfold State.moveOver; split <;> simp
@[simp] theorem moveOver_fau (s : State) (m : Move) : (s.moveOver m).fau = s.fau := by
  unfold State.moveOver; split <;> simp
@[simp] theorem moveOver_mli (s : State) (m : Move) : (s.moveOver m).mli = s.mli := by
  unfold State.moveOver; split <;> simp
@[simp] theorem moveOver_planeP (s : State) (m : Move) : (s.moveOver m).planeP = s.planeP := by
  unfold State.moveOver; split <;> simp
@[simp] theorem moveOver_planeQ (s : State) (m : Move) : (s.moveOver m).planeQ = s.planeQ := by
  unfold State.moveOver; split <;> simp
@[simp] theorem moveOver_pending (s : State) (m : Move) : (s.moveOver m).pending = s.pending := by
  unfold State.moveOver; split <;> simp
@[simp] theorem moveOver_cuts (s : State) (m : Move) : (s.moveOver m).cuts = s.cuts := by
  unfold State.moveOver; split <;> simp

@[simp] theorem moveReadFails_inReset (s : State) (m : Move) (p : PassPos) (rep : CheckReport) : (s.moveReadFails m p rep).inReset = s.inReset := by
  unfold State.moveReadFails; simp
@[simp] theorem moveReadFails_rgd (s : State) (m : Move) (p : PassPos) (rep : CheckReport) : (s.moveReadFails m p rep).rgd = s.rgd := by
  unfold State.moveReadFails; simp
@[simp] theorem moveReadFails_cdu (s : State) (m : Move) (p : PassPos) (rep : CheckReport) : (s.moveReadFails m p rep).cdu = s.cdu := by
  unfold State.moveReadFails; simp
@[simp] theorem moveReadFails_mpt (s : State) (m : Move) (p : PassPos) (rep : CheckReport) : (s.moveReadFails m p rep).mpt = s.mpt := by
  unfold State.moveReadFails; simp
@[simp] theorem moveReadFails_twl (s : State) (m : Move) (p : PassPos) (rep : CheckReport) : (s.moveReadFails m p rep).twl = s.twl := by
  unfold State.moveReadFails; simp
@[simp] theorem moveReadFails_sru (s : State) (m : Move) (p : PassPos) (rep : CheckReport) : (s.moveReadFails m p rep).sru = s.sru := by
  unfold State.moveReadFails; simp
@[simp] theorem moveReadFails_mli (s : State) (m : Move) (p : PassPos) (rep : CheckReport) : (s.moveReadFails m p rep).mli = s.mli := by
  unfold State.moveReadFails; simp
@[simp] theorem moveReadFails_planeP (s : State) (m : Move) (p : PassPos) (rep : CheckReport) : (s.moveReadFails m p rep).planeP = s.planeP := by
  unfold State.moveReadFails; simp
@[simp] theorem moveReadFails_planeQ (s : State) (m : Move) (p : PassPos) (rep : CheckReport) : (s.moveReadFails m p rep).planeQ = s.planeQ := by
  unfold State.moveReadFails; simp
@[simp] theorem moveReadFails_pending (s : State) (m : Move) (p : PassPos) (rep : CheckReport) : (s.moveReadFails m p rep).pending = s.pending := by
  unfold State.moveReadFails; simp
@[simp] theorem moveReadFails_cuts (s : State) (m : Move) (p : PassPos) (rep : CheckReport) : (s.moveReadFails m p rep).cuts = s.cuts := by
  unfold State.moveReadFails; simp

@[simp] theorem moveRead_inReset (s : State) (m : Move) (p : PassPos) : (s.moveRead m p).inReset = s.inReset := by
  unfold State.moveRead; dsimp only; split <;> simp
@[simp] theorem moveRead_rgd (s : State) (m : Move) (p : PassPos) : (s.moveRead m p).rgd = s.rgd := by
  unfold State.moveRead; dsimp only; split <;> simp
@[simp] theorem moveRead_cdu (s : State) (m : Move) (p : PassPos) : (s.moveRead m p).cdu = s.cdu := by
  unfold State.moveRead; dsimp only; split <;> simp
@[simp] theorem moveRead_twl (s : State) (m : Move) (p : PassPos) : (s.moveRead m p).twl = s.twl := by
  unfold State.moveRead; dsimp only; split <;> simp
@[simp] theorem moveRead_mli (s : State) (m : Move) (p : PassPos) : (s.moveRead m p).mli = s.mli := by
  unfold State.moveRead; dsimp only; split <;> simp
@[simp] theorem moveRead_pending (s : State) (m : Move) (p : PassPos) : (s.moveRead m p).pending = s.pending := by
  unfold State.moveRead; dsimp only; split <;> simp
@[simp] theorem moveRead_cuts (s : State) (m : Move) (p : PassPos) : (s.moveRead m p).cuts = s.cuts := by
  unfold State.moveRead; dsimp only; split <;> simp

@[simp] theorem moveWrite_inReset (s : State) (m : Move) (p : PassPos) (e : FifoEntry) : (s.moveWrite m p e).inReset = s.inReset := by
  unfold State.moveWrite; dsimp only; (repeat' split) <;> simp
@[simp] theorem moveWrite_rgd (s : State) (m : Move) (p : PassPos) (e : FifoEntry) : (s.moveWrite m p e).rgd = s.rgd := by
  unfold State.moveWrite; dsimp only; (repeat' split) <;> simp
@[simp] theorem moveWrite_cdu (s : State) (m : Move) (p : PassPos) (e : FifoEntry) : (s.moveWrite m p e).cdu = s.cdu := by
  unfold State.moveWrite; dsimp only; (repeat' split) <;> simp
@[simp] theorem moveWrite_twl (s : State) (m : Move) (p : PassPos) (e : FifoEntry) : (s.moveWrite m p e).twl = s.twl := by
  unfold State.moveWrite; dsimp only; (repeat' split) <;> simp
@[simp] theorem moveWrite_sru (s : State) (m : Move) (p : PassPos) (e : FifoEntry) : (s.moveWrite m p e).sru = s.sru := by
  unfold State.moveWrite; dsimp only; (repeat' split) <;> simp
@[simp] theorem moveWrite_mli (s : State) (m : Move) (p : PassPos) (e : FifoEntry) : (s.moveWrite m p e).mli = s.mli := by
  unfold State.moveWrite; dsimp only; (repeat' split) <;> simp
@[simp] theorem moveWrite_pending (s : State) (m : Move) (p : PassPos) (e : FifoEntry) : (s.moveWrite m p e).pending = s.pending := by
  unfold State.moveWrite; dsimp only; (repeat' split) <;> simp
@[simp] theorem moveWrite_cuts (s : State) (m : Move) (p : PassPos) (e : FifoEntry) : (s.moveWrite m p e).cuts = s.cuts := by
  unfold State.moveWrite; dsimp only; (repeat' split) <;> simp

@[simp] theorem retireFails_inReset (s : State) (o : RetireOp) (w : Nat) (rep : CheckReport) : (s.retireFails o w rep).inReset = s.inReset := by
  unfold State.retireFails; split <;> simp
@[simp] theorem retireFails_rgd (s : State) (o : RetireOp) (w : Nat) (rep : CheckReport) : (s.retireFails o w rep).rgd = s.rgd := by
  unfold State.retireFails; split <;> simp
@[simp] theorem retireFails_cdu (s : State) (o : RetireOp) (w : Nat) (rep : CheckReport) : (s.retireFails o w rep).cdu = s.cdu := by
  unfold State.retireFails; split <;> simp
@[simp] theorem retireFails_mpt (s : State) (o : RetireOp) (w : Nat) (rep : CheckReport) : (s.retireFails o w rep).mpt = s.mpt := by
  unfold State.retireFails; split <;> simp
@[simp] theorem retireFails_twl (s : State) (o : RetireOp) (w : Nat) (rep : CheckReport) : (s.retireFails o w rep).twl = s.twl := by
  unfold State.retireFails; split <;> simp
@[simp] theorem retireFails_mli (s : State) (o : RetireOp) (w : Nat) (rep : CheckReport) : (s.retireFails o w rep).mli = s.mli := by
  unfold State.retireFails; split <;> simp
@[simp] theorem retireFails_planeP (s : State) (o : RetireOp) (w : Nat) (rep : CheckReport) : (s.retireFails o w rep).planeP = s.planeP := by
  unfold State.retireFails; split <;> simp
@[simp] theorem retireFails_planeQ (s : State) (o : RetireOp) (w : Nat) (rep : CheckReport) : (s.retireFails o w rep).planeQ = s.planeQ := by
  unfold State.retireFails; split <;> simp
@[simp] theorem retireFails_pending (s : State) (o : RetireOp) (w : Nat) (rep : CheckReport) : (s.retireFails o w rep).pending = s.pending := by
  unfold State.retireFails; split <;> simp
@[simp] theorem retireFails_cuts (s : State) (o : RetireOp) (w : Nat) (rep : CheckReport) : (s.retireFails o w rep).cuts = s.cuts := by
  unfold State.retireFails; split <;> simp

@[simp] theorem retireRead_inReset (s : State) (o : RetireOp) : (s.retireRead o).inReset = s.inReset := by
  unfold State.retireRead; dsimp only; split <;> simp
@[simp] theorem retireRead_rgd (s : State) (o : RetireOp) : (s.retireRead o).rgd = s.rgd := by
  unfold State.retireRead; dsimp only; split <;> simp
@[simp] theorem retireRead_cdu (s : State) (o : RetireOp) : (s.retireRead o).cdu = s.cdu := by
  unfold State.retireRead; dsimp only; split <;> simp
@[simp] theorem retireRead_twl (s : State) (o : RetireOp) : (s.retireRead o).twl = s.twl := by
  unfold State.retireRead; dsimp only; split <;> simp
@[simp] theorem retireRead_mli (s : State) (o : RetireOp) : (s.retireRead o).mli = s.mli := by
  unfold State.retireRead; dsimp only; split <;> simp
@[simp] theorem retireRead_pending (s : State) (o : RetireOp) : (s.retireRead o).pending = s.pending := by
  unfold State.retireRead; dsimp only; split <;> simp
@[simp] theorem retireRead_cuts (s : State) (o : RetireOp) : (s.retireRead o).cuts = s.cuts := by
  unfold State.retireRead; dsimp only; split <;> simp

@[simp] theorem retireCompletes_inReset (s : State) (o : RetireOp) : (s.retireCompletes o).inReset = s.inReset := by
  unfold State.retireCompletes; simp
@[simp] theorem retireCompletes_rgd (s : State) (o : RetireOp) : (s.retireCompletes o).rgd = s.rgd := by
  unfold State.retireCompletes; simp
@[simp] theorem retireCompletes_cdu (s : State) (o : RetireOp) : (s.retireCompletes o).cdu = s.cdu := by
  unfold State.retireCompletes; simp
@[simp] theorem retireCompletes_mpt (s : State) (o : RetireOp) : (s.retireCompletes o).mpt = s.mpt := by
  unfold State.retireCompletes; simp
@[simp] theorem retireCompletes_ckc (s : State) (o : RetireOp) : (s.retireCompletes o).ckc = s.ckc := by
  unfold State.retireCompletes; simp
@[simp] theorem retireCompletes_twl (s : State) (o : RetireOp) : (s.retireCompletes o).twl = s.twl := by
  unfold State.retireCompletes; simp
@[simp] theorem retireCompletes_mli (s : State) (o : RetireOp) : (s.retireCompletes o).mli = s.mli := by
  unfold State.retireCompletes; simp
@[simp] theorem retireCompletes_planeP (s : State) (o : RetireOp) : (s.retireCompletes o).planeP = s.planeP := by
  unfold State.retireCompletes; simp
@[simp] theorem retireCompletes_planeQ (s : State) (o : RetireOp) : (s.retireCompletes o).planeQ = s.planeQ := by
  unfold State.retireCompletes; simp
@[simp] theorem retireCompletes_pending (s : State) (o : RetireOp) : (s.retireCompletes o).pending = s.pending := by
  unfold State.retireCompletes; simp
@[simp] theorem retireCompletes_cuts (s : State) (o : RetireOp) : (s.retireCompletes o).cuts = s.cuts := by
  unfold State.retireCompletes; simp

@[simp] theorem retireWrite_inReset (s : State) (o : RetireOp) (e : FifoEntry) : (s.retireWrite o e).inReset = s.inReset := by
  unfold State.retireWrite; dsimp only; (repeat' split) <;> simp
@[simp] theorem retireWrite_rgd (s : State) (o : RetireOp) (e : FifoEntry) : (s.retireWrite o e).rgd = s.rgd := by
  unfold State.retireWrite; dsimp only; (repeat' split) <;> simp
@[simp] theorem retireWrite_cdu (s : State) (o : RetireOp) (e : FifoEntry) : (s.retireWrite o e).cdu = s.cdu := by
  unfold State.retireWrite; dsimp only; (repeat' split) <;> simp
@[simp] theorem retireWrite_ckc (s : State) (o : RetireOp) (e : FifoEntry) : (s.retireWrite o e).ckc = s.ckc := by
  unfold State.retireWrite; dsimp only; (repeat' split) <;> simp
@[simp] theorem retireWrite_twl (s : State) (o : RetireOp) (e : FifoEntry) : (s.retireWrite o e).twl = s.twl := by
  unfold State.retireWrite; dsimp only; (repeat' split) <;> simp
@[simp] theorem retireWrite_mli (s : State) (o : RetireOp) (e : FifoEntry) : (s.retireWrite o e).mli = s.mli := by
  unfold State.retireWrite; dsimp only; (repeat' split) <;> simp
@[simp] theorem retireWrite_pending (s : State) (o : RetireOp) (e : FifoEntry) : (s.retireWrite o e).pending = s.pending := by
  unfold State.retireWrite; dsimp only; (repeat' split) <;> simp
@[simp] theorem retireWrite_cuts (s : State) (o : RetireOp) (e : FifoEntry) : (s.retireWrite o e).cuts = s.cuts := by
  unfold State.retireWrite; dsimp only; (repeat' split) <;> simp

@[simp] theorem startDeadline_inReset (s : State) : (s.startDeadline).inReset = s.inReset := by
  unfold State.startDeadline; simp
@[simp] theorem startDeadline_hbi (s : State) : (s.startDeadline).hbi = s.hbi := by
  unfold State.startDeadline; simp
@[simp] theorem startDeadline_rgd (s : State) : (s.startDeadline).rgd = s.rgd := by
  unfold State.startDeadline; simp
@[simp] theorem startDeadline_cdu (s : State) : (s.startDeadline).cdu = s.cdu := by
  unfold State.startDeadline; simp
@[simp] theorem startDeadline_mpt (s : State) : (s.startDeadline).mpt = s.mpt := by
  unfold State.startDeadline; simp
@[simp] theorem startDeadline_txe (s : State) : (s.startDeadline).txe = s.txe := by
  unfold State.startDeadline; simp
@[simp] theorem startDeadline_ckc (s : State) : (s.startDeadline).ckc = s.ckc := by
  unfold State.startDeadline; simp
@[simp] theorem startDeadline_twl (s : State) : (s.startDeadline).twl = s.twl := by
  unfold State.startDeadline; simp
@[simp] theorem startDeadline_sru (s : State) : (s.startDeadline).sru = s.sru := by
  unfold State.startDeadline; simp
@[simp] theorem startDeadline_fau (s : State) : (s.startDeadline).fau = s.fau := by
  unfold State.startDeadline; simp
@[simp] theorem startDeadline_mli (s : State) : (s.startDeadline).mli = s.mli := by
  unfold State.startDeadline; simp
@[simp] theorem startDeadline_planeP (s : State) : (s.startDeadline).planeP = s.planeP := by
  unfold State.startDeadline; simp
@[simp] theorem startDeadline_planeQ (s : State) : (s.startDeadline).planeQ = s.planeQ := by
  unfold State.startDeadline; simp
@[simp] theorem startDeadline_pending (s : State) : (s.startDeadline).pending = s.pending := by
  unfold State.startDeadline; simp
@[simp] theorem startDeadline_cuts (s : State) : (s.startDeadline).cuts = s.cuts := by
  unfold State.startDeadline; simp

@[simp] theorem startClearDone_inReset (s : State) : (s.startClearDone).inReset = s.inReset := by
  unfold State.startClearDone; simp
@[simp] theorem startClearDone_hbi (s : State) : (s.startClearDone).hbi = s.hbi := by
  unfold State.startClearDone; simp
@[simp] theorem startClearDone_rgd (s : State) : (s.startClearDone).rgd = s.rgd := by
  unfold State.startClearDone; simp
@[simp] theorem startClearDone_cdu (s : State) : (s.startClearDone).cdu = s.cdu := by
  unfold State.startClearDone; simp
@[simp] theorem startClearDone_mpt (s : State) : (s.startClearDone).mpt = s.mpt := by
  unfold State.startClearDone; simp
@[simp] theorem startClearDone_txe (s : State) : (s.startClearDone).txe = s.txe := by
  unfold State.startClearDone; simp
@[simp] theorem startClearDone_twl (s : State) : (s.startClearDone).twl = s.twl := by
  unfold State.startClearDone; simp
@[simp] theorem startClearDone_sru (s : State) : (s.startClearDone).sru = s.sru := by
  unfold State.startClearDone; simp
@[simp] theorem startClearDone_planeP (s : State) : (s.startClearDone).planeP = s.planeP := by
  unfold State.startClearDone; simp
@[simp] theorem startClearDone_planeQ (s : State) : (s.startClearDone).planeQ = s.planeQ := by
  unfold State.startClearDone; simp
@[simp] theorem startClearDone_pending (s : State) : (s.startClearDone).pending = s.pending := by
  unfold State.startClearDone; simp
@[simp] theorem startClearDone_cuts (s : State) : (s.startClearDone).cuts = s.cuts := by
  unfold State.startClearDone; simp

@[simp] theorem clearStep_inReset (s : State) (o : ClearOp) (w : Nat) : (s.clearStep o w).inReset = s.inReset := by
  unfold State.clearStep; (repeat' split) <;> simp
@[simp] theorem clearStep_hbi (s : State) (o : ClearOp) (w : Nat) : (s.clearStep o w).hbi = s.hbi := by
  unfold State.clearStep; (repeat' split) <;> simp
@[simp] theorem clearStep_rgd (s : State) (o : ClearOp) (w : Nat) : (s.clearStep o w).rgd = s.rgd := by
  unfold State.clearStep; (repeat' split) <;> simp
@[simp] theorem clearStep_cdu (s : State) (o : ClearOp) (w : Nat) : (s.clearStep o w).cdu = s.cdu := by
  unfold State.clearStep; (repeat' split) <;> simp
@[simp] theorem clearStep_twl (s : State) (o : ClearOp) (w : Nat) : (s.clearStep o w).twl = s.twl := by
  unfold State.clearStep; (repeat' split) <;> simp
@[simp] theorem clearStep_sru (s : State) (o : ClearOp) (w : Nat) : (s.clearStep o w).sru = s.sru := by
  unfold State.clearStep; (repeat' split) <;> simp
@[simp] theorem clearStep_pending (s : State) (o : ClearOp) (w : Nat) : (s.clearStep o w).pending = s.pending := by
  unfold State.clearStep; (repeat' split) <;> simp
@[simp] theorem clearStep_cuts (s : State) (o : ClearOp) (w : Nat) : (s.clearStep o w).cuts = s.cuts := by
  unfold State.clearStep; (repeat' split) <;> simp

@[simp] theorem scrubBadWord_inReset (s : State) (c : Cursor) (rep : CheckReport) : (s.scrubBadWord c rep).inReset = s.inReset := by
  unfold State.scrubBadWord; simp
@[simp] theorem scrubBadWord_hbi (s : State) (c : Cursor) (rep : CheckReport) : (s.scrubBadWord c rep).hbi = s.hbi := by
  unfold State.scrubBadWord; simp
@[simp] theorem scrubBadWord_rgd (s : State) (c : Cursor) (rep : CheckReport) : (s.scrubBadWord c rep).rgd = s.rgd := by
  unfold State.scrubBadWord; simp
@[simp] theorem scrubBadWord_cdu (s : State) (c : Cursor) (rep : CheckReport) : (s.scrubBadWord c rep).cdu = s.cdu := by
  unfold State.scrubBadWord; simp
@[simp] theorem scrubBadWord_mpt (s : State) (c : Cursor) (rep : CheckReport) : (s.scrubBadWord c rep).mpt = s.mpt := by
  unfold State.scrubBadWord; simp
@[simp] theorem scrubBadWord_txe (s : State) (c : Cursor) (rep : CheckReport) : (s.scrubBadWord c rep).txe = s.txe := by
  unfold State.scrubBadWord; simp
@[simp] theorem scrubBadWord_twl (s : State) (c : Cursor) (rep : CheckReport) : (s.scrubBadWord c rep).twl = s.twl := by
  unfold State.scrubBadWord; simp
@[simp] theorem scrubBadWord_sru (s : State) (c : Cursor) (rep : CheckReport) : (s.scrubBadWord c rep).sru = s.sru := by
  unfold State.scrubBadWord; simp
@[simp] theorem scrubBadWord_mli (s : State) (c : Cursor) (rep : CheckReport) : (s.scrubBadWord c rep).mli = s.mli := by
  unfold State.scrubBadWord; simp
@[simp] theorem scrubBadWord_planeP (s : State) (c : Cursor) (rep : CheckReport) : (s.scrubBadWord c rep).planeP = s.planeP := by
  unfold State.scrubBadWord; simp
@[simp] theorem scrubBadWord_planeQ (s : State) (c : Cursor) (rep : CheckReport) : (s.scrubBadWord c rep).planeQ = s.planeQ := by
  unfold State.scrubBadWord; simp
@[simp] theorem scrubBadWord_pending (s : State) (c : Cursor) (rep : CheckReport) : (s.scrubBadWord c rep).pending = s.pending := by
  unfold State.scrubBadWord; simp
@[simp] theorem scrubBadWord_cuts (s : State) (c : Cursor) (rep : CheckReport) : (s.scrubBadWord c rep).cuts = s.cuts := by
  unfold State.scrubBadWord; simp

@[simp] theorem audit_inReset (s : State) (c : Cursor) (d : Word) : (s.audit c d).inReset = s.inReset := by
  unfold State.audit; dsimp only; (repeat' split) <;> simp
@[simp] theorem audit_rgd (s : State) (c : Cursor) (d : Word) : (s.audit c d).rgd = s.rgd := by
  unfold State.audit; dsimp only; (repeat' split) <;> simp
@[simp] theorem audit_cdu (s : State) (c : Cursor) (d : Word) : (s.audit c d).cdu = s.cdu := by
  unfold State.audit; dsimp only; (repeat' split) <;> simp
@[simp] theorem audit_mpt (s : State) (c : Cursor) (d : Word) : (s.audit c d).mpt = s.mpt := by
  unfold State.audit; dsimp only; (repeat' split) <;> simp
@[simp] theorem audit_twl (s : State) (c : Cursor) (d : Word) : (s.audit c d).twl = s.twl := by
  unfold State.audit; dsimp only; (repeat' split) <;> simp
@[simp] theorem audit_mli (s : State) (c : Cursor) (d : Word) : (s.audit c d).mli = s.mli := by
  unfold State.audit; dsimp only; (repeat' split) <;> simp
@[simp] theorem audit_pending (s : State) (c : Cursor) (d : Word) : (s.audit c d).pending = s.pending := by
  unfold State.audit; dsimp only; (repeat' split) <;> simp
@[simp] theorem audit_cuts (s : State) (c : Cursor) (d : Word) : (s.audit c d).cuts = s.cuts := by
  unfold State.audit; dsimp only; (repeat' split) <;> simp

@[simp] theorem scrubCheck_inReset (s : State) (c : Cursor) : (s.scrubCheck c).inReset = s.inReset := by
  unfold State.scrubCheck; dsimp only; (repeat' split) <;> simp
@[simp] theorem scrubCheck_rgd (s : State) (c : Cursor) : (s.scrubCheck c).rgd = s.rgd := by
  unfold State.scrubCheck; dsimp only; (repeat' split) <;> simp
@[simp] theorem scrubCheck_cdu (s : State) (c : Cursor) : (s.scrubCheck c).cdu = s.cdu := by
  unfold State.scrubCheck; dsimp only; (repeat' split) <;> simp
@[simp] theorem scrubCheck_mpt (s : State) (c : Cursor) : (s.scrubCheck c).mpt = s.mpt := by
  unfold State.scrubCheck; dsimp only; (repeat' split) <;> simp
@[simp] theorem scrubCheck_twl (s : State) (c : Cursor) : (s.scrubCheck c).twl = s.twl := by
  unfold State.scrubCheck; dsimp only; (repeat' split) <;> simp
@[simp] theorem scrubCheck_mli (s : State) (c : Cursor) : (s.scrubCheck c).mli = s.mli := by
  unfold State.scrubCheck; dsimp only; (repeat' split) <;> simp
@[simp] theorem scrubCheck_pending (s : State) (c : Cursor) : (s.scrubCheck c).pending = s.pending := by
  unfold State.scrubCheck; dsimp only; (repeat' split) <;> simp
@[simp] theorem scrubCheck_cuts (s : State) (c : Cursor) : (s.scrubCheck c).cuts = s.cuts := by
  unfold State.scrubCheck; dsimp only; (repeat' split) <;> simp

@[simp] theorem scrubStep_inReset (s : State) (c : Cursor) : (s.scrubStep c).inReset = s.inReset := by
  unfold State.scrubStep; simp
@[simp] theorem scrubStep_rgd (s : State) (c : Cursor) : (s.scrubStep c).rgd = s.rgd := by
  unfold State.scrubStep; simp
@[simp] theorem scrubStep_cdu (s : State) (c : Cursor) : (s.scrubStep c).cdu = s.cdu := by
  unfold State.scrubStep; simp
@[simp] theorem scrubStep_twl (s : State) (c : Cursor) : (s.scrubStep c).twl = s.twl := by
  unfold State.scrubStep; simp
@[simp] theorem scrubStep_mli (s : State) (c : Cursor) : (s.scrubStep c).mli = s.mli := by
  unfold State.scrubStep; simp
@[simp] theorem scrubStep_pending (s : State) (c : Cursor) : (s.scrubStep c).pending = s.pending := by
  unfold State.scrubStep; simp
@[simp] theorem scrubStep_cuts (s : State) (c : Cursor) : (s.scrubStep c).cuts = s.cuts := by
  unfold State.scrubStep; simp

@[simp] theorem diagnose_inReset (s : State) (w : Nat) : (s.diagnose w).inReset = s.inReset := by
  unfold State.diagnose; simp
@[simp] theorem diagnose_hbi (s : State) (w : Nat) : (s.diagnose w).hbi = s.hbi := by
  unfold State.diagnose; simp
@[simp] theorem diagnose_rgd (s : State) (w : Nat) : (s.diagnose w).rgd = s.rgd := by
  unfold State.diagnose; simp
@[simp] theorem diagnose_cdu (s : State) (w : Nat) : (s.diagnose w).cdu = s.cdu := by
  unfold State.diagnose; simp
@[simp] theorem diagnose_ckc (s : State) (w : Nat) : (s.diagnose w).ckc = s.ckc := by
  unfold State.diagnose; simp
@[simp] theorem diagnose_cau (s : State) (w : Nat) : (s.diagnose w).cau = s.cau := by
  unfold State.diagnose; simp
@[simp] theorem diagnose_twl (s : State) (w : Nat) : (s.diagnose w).twl = s.twl := by
  unfold State.diagnose; simp
@[simp] theorem diagnose_sru (s : State) (w : Nat) : (s.diagnose w).sru = s.sru := by
  unfold State.diagnose; simp
@[simp] theorem diagnose_fau (s : State) (w : Nat) : (s.diagnose w).fau = s.fau := by
  unfold State.diagnose; simp
@[simp] theorem diagnose_planeP (s : State) (w : Nat) : (s.diagnose w).planeP = s.planeP := by
  unfold State.diagnose; simp
@[simp] theorem diagnose_planeQ (s : State) (w : Nat) : (s.diagnose w).planeQ = s.planeQ := by
  unfold State.diagnose; simp
@[simp] theorem diagnose_pending (s : State) (w : Nat) : (s.diagnose w).pending = s.pending := by
  unfold State.diagnose; simp
@[simp] theorem diagnose_cuts (s : State) (w : Nat) : (s.diagnose w).cuts = s.cuts := by
  unfold State.diagnose; simp

@[simp] theorem takeRetire_inReset (s : State) (b : Nat) : (s.takeRetire b).inReset = s.inReset := by
  unfold State.takeRetire; (repeat' split) <;> simp
@[simp] theorem takeRetire_hbi (s : State) (b : Nat) : (s.takeRetire b).hbi = s.hbi := by
  unfold State.takeRetire; (repeat' split) <;> simp
@[simp] theorem takeRetire_rgd (s : State) (b : Nat) : (s.takeRetire b).rgd = s.rgd := by
  unfold State.takeRetire; (repeat' split) <;> simp
@[simp] theorem takeRetire_cdu (s : State) (b : Nat) : (s.takeRetire b).cdu = s.cdu := by
  unfold State.takeRetire; (repeat' split) <;> simp
@[simp] theorem takeRetire_ckc (s : State) (b : Nat) : (s.takeRetire b).ckc = s.ckc := by
  unfold State.takeRetire; (repeat' split) <;> simp
@[simp] theorem takeRetire_twl (s : State) (b : Nat) : (s.takeRetire b).twl = s.twl := by
  unfold State.takeRetire; (repeat' split) <;> simp
@[simp] theorem takeRetire_mli (s : State) (b : Nat) : (s.takeRetire b).mli = s.mli := by
  unfold State.takeRetire; (repeat' split) <;> simp
@[simp] theorem takeRetire_planeP (s : State) (b : Nat) : (s.takeRetire b).planeP = s.planeP := by
  unfold State.takeRetire; (repeat' split) <;> simp
@[simp] theorem takeRetire_planeQ (s : State) (b : Nat) : (s.takeRetire b).planeQ = s.planeQ := by
  unfold State.takeRetire; (repeat' split) <;> simp
@[simp] theorem takeRetire_pending (s : State) (b : Nat) : (s.takeRetire b).pending = s.pending := by
  unfold State.takeRetire; (repeat' split) <;> simp
@[simp] theorem takeRetire_cuts (s : State) (b : Nat) : (s.takeRetire b).cuts = s.cuts := by
  unfold State.takeRetire; (repeat' split) <;> simp

@[simp] theorem fixKind_inReset (s : State) (h : HeldMarker) : (s.fixKind h).inReset = s.inReset := by
  unfold State.fixKind; dsimp only; (repeat' split) <;> simp
@[simp] theorem fixKind_cdu (s : State) (h : HeldMarker) : (s.fixKind h).cdu = s.cdu := by
  unfold State.fixKind; dsimp only; (repeat' split) <;> simp
@[simp] theorem fixKind_sru (s : State) (h : HeldMarker) : (s.fixKind h).sru = s.sru := by
  unfold State.fixKind; dsimp only; (repeat' split) <;> simp
@[simp] theorem fixKind_mli (s : State) (h : HeldMarker) : (s.fixKind h).mli = s.mli := by
  unfold State.fixKind; dsimp only; (repeat' split) <;> simp
@[simp] theorem fixKind_planeP (s : State) (h : HeldMarker) : (s.fixKind h).planeP = s.planeP := by
  unfold State.fixKind; dsimp only; (repeat' split) <;> simp
@[simp] theorem fixKind_planeQ (s : State) (h : HeldMarker) : (s.fixKind h).planeQ = s.planeQ := by
  unfold State.fixKind; dsimp only; (repeat' split) <;> simp
@[simp] theorem fixKind_pending (s : State) (h : HeldMarker) : (s.fixKind h).pending = s.pending := by
  unfold State.fixKind; dsimp only; (repeat' split) <;> simp
@[simp] theorem fixKind_cuts (s : State) (h : HeldMarker) : (s.fixKind h).cuts = s.cuts := by
  unfold State.fixKind; dsimp only; (repeat' split) <;> simp

@[simp] theorem writeVerdictWord_inReset (s : State) (a : Access) : (s.writeVerdictWord a).inReset = s.inReset := by
  unfold State.writeVerdictWord; simp
@[simp] theorem writeVerdictWord_rgd (s : State) (a : Access) : (s.writeVerdictWord a).rgd = s.rgd := by
  unfold State.writeVerdictWord; simp
@[simp] theorem writeVerdictWord_cdu (s : State) (a : Access) : (s.writeVerdictWord a).cdu = s.cdu := by
  unfold State.writeVerdictWord; simp
@[simp] theorem writeVerdictWord_ckc (s : State) (a : Access) : (s.writeVerdictWord a).ckc = s.ckc := by
  unfold State.writeVerdictWord; simp
@[simp] theorem writeVerdictWord_twl (s : State) (a : Access) : (s.writeVerdictWord a).twl = s.twl := by
  unfold State.writeVerdictWord; simp
@[simp] theorem writeVerdictWord_sru (s : State) (a : Access) : (s.writeVerdictWord a).sru = s.sru := by
  unfold State.writeVerdictWord; simp
@[simp] theorem writeVerdictWord_fau (s : State) (a : Access) : (s.writeVerdictWord a).fau = s.fau := by
  unfold State.writeVerdictWord; simp
@[simp] theorem writeVerdictWord_mli (s : State) (a : Access) : (s.writeVerdictWord a).mli = s.mli := by
  unfold State.writeVerdictWord; simp
@[simp] theorem writeVerdictWord_pending (s : State) (a : Access) : (s.writeVerdictWord a).pending = s.pending := by
  unfold State.writeVerdictWord; simp
@[simp] theorem writeVerdictWord_cuts (s : State) (a : Access) : (s.writeVerdictWord a).cuts = s.cuts := by
  unfold State.writeVerdictWord; simp

@[simp] theorem linkChange_inReset (s : State) (up : Bool) : (s.linkChange up).inReset = s.inReset := by
  unfold State.linkChange; simp
@[simp] theorem linkChange_hbi (s : State) (up : Bool) : (s.linkChange up).hbi = s.hbi := by
  unfold State.linkChange; simp
@[simp] theorem linkChange_rgd (s : State) (up : Bool) : (s.linkChange up).rgd = s.rgd := by
  unfold State.linkChange; simp
@[simp] theorem linkChange_cdu (s : State) (up : Bool) : (s.linkChange up).cdu = s.cdu := by
  unfold State.linkChange; simp
@[simp] theorem linkChange_mpt (s : State) (up : Bool) : (s.linkChange up).mpt = s.mpt := by
  unfold State.linkChange; simp
@[simp] theorem linkChange_txe (s : State) (up : Bool) : (s.linkChange up).txe = s.txe := by
  unfold State.linkChange; simp
@[simp] theorem linkChange_ckc (s : State) (up : Bool) : (s.linkChange up).ckc = s.ckc := by
  unfold State.linkChange; simp
@[simp] theorem linkChange_cau (s : State) (up : Bool) : (s.linkChange up).cau = s.cau := by
  unfold State.linkChange; simp
@[simp] theorem linkChange_sru (s : State) (up : Bool) : (s.linkChange up).sru = s.sru := by
  unfold State.linkChange; simp
@[simp] theorem linkChange_mli (s : State) (up : Bool) : (s.linkChange up).mli = s.mli := by
  unfold State.linkChange; simp
@[simp] theorem linkChange_planeP (s : State) (up : Bool) : (s.linkChange up).planeP = s.planeP := by
  unfold State.linkChange; simp
@[simp] theorem linkChange_planeQ (s : State) (up : Bool) : (s.linkChange up).planeQ = s.planeQ := by
  unfold State.linkChange; simp
@[simp] theorem linkChange_pending (s : State) (up : Bool) : (s.linkChange up).pending = s.pending := by
  unfold State.linkChange; simp
@[simp] theorem linkChange_cuts (s : State) (up : Bool) : (s.linkChange up).cuts = s.cuts := by
  unfold State.linkChange; simp

@[simp] theorem linkSeen_inReset (s : State) : (s.linkSeen).inReset = s.inReset := by
  unfold State.linkSeen; split <;> simp
@[simp] theorem linkSeen_hbi (s : State) : (s.linkSeen).hbi = s.hbi := by
  unfold State.linkSeen; split <;> simp
@[simp] theorem linkSeen_rgd (s : State) : (s.linkSeen).rgd = s.rgd := by
  unfold State.linkSeen; split <;> simp
@[simp] theorem linkSeen_cdu (s : State) : (s.linkSeen).cdu = s.cdu := by
  unfold State.linkSeen; split <;> simp
@[simp] theorem linkSeen_mpt (s : State) : (s.linkSeen).mpt = s.mpt := by
  unfold State.linkSeen; split <;> simp
@[simp] theorem linkSeen_txe (s : State) : (s.linkSeen).txe = s.txe := by
  unfold State.linkSeen; split <;> simp
@[simp] theorem linkSeen_ckc (s : State) : (s.linkSeen).ckc = s.ckc := by
  unfold State.linkSeen; split <;> simp
@[simp] theorem linkSeen_cau (s : State) : (s.linkSeen).cau = s.cau := by
  unfold State.linkSeen; split <;> simp
@[simp] theorem linkSeen_sru (s : State) : (s.linkSeen).sru = s.sru := by
  unfold State.linkSeen; split <;> simp
@[simp] theorem linkSeen_mli (s : State) : (s.linkSeen).mli = s.mli := by
  unfold State.linkSeen; split <;> simp
@[simp] theorem linkSeen_planeP (s : State) : (s.linkSeen).planeP = s.planeP := by
  unfold State.linkSeen; split <;> simp
@[simp] theorem linkSeen_planeQ (s : State) : (s.linkSeen).planeQ = s.planeQ := by
  unfold State.linkSeen; split <;> simp
@[simp] theorem linkSeen_pending (s : State) : (s.linkSeen).pending = s.pending := by
  unfold State.linkSeen; split <;> simp
@[simp] theorem linkSeen_cuts (s : State) : (s.linkSeen).cuts = s.cuts := by
  unfold State.linkSeen; split <;> simp

@[simp] theorem slotMark_inReset (s : State) (m : Mark) : (s.slotMark m).inReset = s.inReset := by
  unfold State.slotMark; dsimp only; (repeat' split) <;> simp
@[simp] theorem slotMark_cdu (s : State) (m : Mark) : (s.slotMark m).cdu = s.cdu := by
  unfold State.slotMark; dsimp only; (repeat' split) <;> simp
@[simp] theorem slotMark_twl (s : State) (m : Mark) : (s.slotMark m).twl = s.twl := by
  unfold State.slotMark; dsimp only; (repeat' split) <;> simp
@[simp] theorem slotMark_sru (s : State) (m : Mark) : (s.slotMark m).sru = s.sru := by
  unfold State.slotMark; dsimp only; (repeat' split) <;> simp
@[simp] theorem slotMark_mli (s : State) (m : Mark) : (s.slotMark m).mli = s.mli := by
  unfold State.slotMark; dsimp only; (repeat' split) <;> simp
@[simp] theorem slotMark_planeP (s : State) (m : Mark) : (s.slotMark m).planeP = s.planeP := by
  unfold State.slotMark; dsimp only; (repeat' split) <;> simp
@[simp] theorem slotMark_planeQ (s : State) (m : Mark) : (s.slotMark m).planeQ = s.planeQ := by
  unfold State.slotMark; dsimp only; (repeat' split) <;> simp
@[simp] theorem slotMark_pending (s : State) (m : Mark) : (s.slotMark m).pending = s.pending := by
  unfold State.slotMark; dsimp only; (repeat' split) <;> simp
@[simp] theorem slotMark_cuts (s : State) (m : Mark) : (s.slotMark m).cuts = s.cuts := by
  unfold State.slotMark; dsimp only; (repeat' split) <;> simp

@[simp] theorem twinMark_inReset (s : State) (m : Mark) : (s.twinMark m).inReset = s.inReset := by
  unfold State.twinMark; (repeat' split) <;> simp
@[simp] theorem twinMark_cdu (s : State) (m : Mark) : (s.twinMark m).cdu = s.cdu := by
  unfold State.twinMark; (repeat' split) <;> simp
@[simp] theorem twinMark_twl (s : State) (m : Mark) : (s.twinMark m).twl = s.twl := by
  unfold State.twinMark; (repeat' split) <;> simp
@[simp] theorem twinMark_sru (s : State) (m : Mark) : (s.twinMark m).sru = s.sru := by
  unfold State.twinMark; (repeat' split) <;> simp
@[simp] theorem twinMark_mli (s : State) (m : Mark) : (s.twinMark m).mli = s.mli := by
  unfold State.twinMark; (repeat' split) <;> simp
@[simp] theorem twinMark_planeP (s : State) (m : Mark) : (s.twinMark m).planeP = s.planeP := by
  unfold State.twinMark; (repeat' split) <;> simp
@[simp] theorem twinMark_planeQ (s : State) (m : Mark) : (s.twinMark m).planeQ = s.planeQ := by
  unfold State.twinMark; (repeat' split) <;> simp
@[simp] theorem twinMark_pending (s : State) (m : Mark) : (s.twinMark m).pending = s.pending := by
  unfold State.twinMark; (repeat' split) <;> simp
@[simp] theorem twinMark_cuts (s : State) (m : Mark) : (s.twinMark m).cuts = s.cuts := by
  unfold State.twinMark; (repeat' split) <;> simp

@[simp] theorem frameDone_inReset (s : State) (us : List RxUnit) : (s.frameDone us).inReset = s.inReset := by
  unfold State.frameDone; split <;> simp
@[simp] theorem frameDone_cdu (s : State) (us : List RxUnit) : (s.frameDone us).cdu = s.cdu := by
  unfold State.frameDone; split <;> simp
@[simp] theorem frameDone_sru (s : State) (us : List RxUnit) : (s.frameDone us).sru = s.sru := by
  unfold State.frameDone; split <;> simp
@[simp] theorem frameDone_mli (s : State) (us : List RxUnit) : (s.frameDone us).mli = s.mli := by
  unfold State.frameDone; split <;> simp
@[simp] theorem frameDone_planeP (s : State) (us : List RxUnit) : (s.frameDone us).planeP = s.planeP := by
  unfold State.frameDone; split <;> simp
@[simp] theorem frameDone_planeQ (s : State) (us : List RxUnit) : (s.frameDone us).planeQ = s.planeQ := by
  unfold State.frameDone; split <;> simp
@[simp] theorem frameDone_pending (s : State) (us : List RxUnit) : (s.frameDone us).pending = s.pending := by
  unfold State.frameDone; split <;> simp
@[simp] theorem frameDone_cuts (s : State) (us : List RxUnit) : (s.frameDone us).cuts = s.cuts := by
  unfold State.frameDone; split <;> simp

@[simp] theorem closeIfFull_inReset (s : State) (us : List RxUnit) : (s.closeIfFull us).inReset = s.inReset := by
  unfold State.closeIfFull; (repeat' split) <;> simp
@[simp] theorem closeIfFull_cdu (s : State) (us : List RxUnit) : (s.closeIfFull us).cdu = s.cdu := by
  unfold State.closeIfFull; (repeat' split) <;> simp
@[simp] theorem closeIfFull_sru (s : State) (us : List RxUnit) : (s.closeIfFull us).sru = s.sru := by
  unfold State.closeIfFull; (repeat' split) <;> simp
@[simp] theorem closeIfFull_mli (s : State) (us : List RxUnit) : (s.closeIfFull us).mli = s.mli := by
  unfold State.closeIfFull; (repeat' split) <;> simp
@[simp] theorem closeIfFull_planeP (s : State) (us : List RxUnit) : (s.closeIfFull us).planeP = s.planeP := by
  unfold State.closeIfFull; (repeat' split) <;> simp
@[simp] theorem closeIfFull_planeQ (s : State) (us : List RxUnit) : (s.closeIfFull us).planeQ = s.planeQ := by
  unfold State.closeIfFull; (repeat' split) <;> simp
@[simp] theorem closeIfFull_pending (s : State) (us : List RxUnit) : (s.closeIfFull us).pending = s.pending := by
  unfold State.closeIfFull; (repeat' split) <;> simp
@[simp] theorem closeIfFull_cuts (s : State) (us : List RxUnit) : (s.closeIfFull us).cuts = s.cuts := by
  unfold State.closeIfFull; (repeat' split) <;> simp

@[simp] theorem rxUnit_inReset (s : State) (u : RxUnit) : (s.rxUnit u).inReset = s.inReset := by
  unfold State.rxUnit; (repeat' split) <;> simp
@[simp] theorem rxUnit_cdu (s : State) (u : RxUnit) : (s.rxUnit u).cdu = s.cdu := by
  unfold State.rxUnit; (repeat' split) <;> simp
@[simp] theorem rxUnit_sru (s : State) (u : RxUnit) : (s.rxUnit u).sru = s.sru := by
  unfold State.rxUnit; (repeat' split) <;> simp
@[simp] theorem rxUnit_mli (s : State) (u : RxUnit) : (s.rxUnit u).mli = s.mli := by
  unfold State.rxUnit; (repeat' split) <;> simp
@[simp] theorem rxUnit_planeP (s : State) (u : RxUnit) : (s.rxUnit u).planeP = s.planeP := by
  unfold State.rxUnit; (repeat' split) <;> simp
@[simp] theorem rxUnit_planeQ (s : State) (u : RxUnit) : (s.rxUnit u).planeQ = s.planeQ := by
  unfold State.rxUnit; (repeat' split) <;> simp
@[simp] theorem rxUnit_pending (s : State) (u : RxUnit) : (s.rxUnit u).pending = s.pending := by
  unfold State.rxUnit; (repeat' split) <;> simp
@[simp] theorem rxUnit_cuts (s : State) (u : RxUnit) : (s.rxUnit u).cuts = s.cuts := by
  unfold State.rxUnit; (repeat' split) <;> simp

@[simp] theorem foldRxUnit_inReset (us : List RxUnit) (s : State) : (us.foldl State.rxUnit s).inReset = s.inReset := by
  induction us generalizing s with
  | nil => rfl
  | cons u t ih => simp [ih]
@[simp] theorem foldRxUnit_cdu (us : List RxUnit) (s : State) : (us.foldl State.rxUnit s).cdu = s.cdu := by
  induction us generalizing s with
  | nil => rfl
  | cons u t ih => simp [ih]
@[simp] theorem foldRxUnit_sru (us : List RxUnit) (s : State) : (us.foldl State.rxUnit s).sru = s.sru := by
  induction us generalizing s with
  | nil => rfl
  | cons u t ih => simp [ih]
@[simp] theorem foldRxUnit_mli (us : List RxUnit) (s : State) : (us.foldl State.rxUnit s).mli = s.mli := by
  induction us generalizing s with
  | nil => rfl
  | cons u t ih => simp [ih]
@[simp] theorem foldRxUnit_planeP (us : List RxUnit) (s : State) : (us.foldl State.rxUnit s).planeP = s.planeP := by
  induction us generalizing s with
  | nil => rfl
  | cons u t ih => simp [ih]
@[simp] theorem foldRxUnit_planeQ (us : List RxUnit) (s : State) : (us.foldl State.rxUnit s).planeQ = s.planeQ := by
  induction us generalizing s with
  | nil => rfl
  | cons u t ih => simp [ih]
@[simp] theorem foldRxUnit_pending (us : List RxUnit) (s : State) : (us.foldl State.rxUnit s).pending = s.pending := by
  induction us generalizing s with
  | nil => rfl
  | cons u t ih => simp [ih]
@[simp] theorem foldRxUnit_cuts (us : List RxUnit) (s : State) : (us.foldl State.rxUnit s).cuts = s.cuts := by
  induction us generalizing s with
  | nil => rfl
  | cons u t ih => simp [ih]

@[simp] theorem installConfig_inReset (s : State) (d : Option Descriptor) : (s.installConfig d).inReset = s.inReset := by
  unfold State.installConfig; simp
@[simp] theorem installConfig_hbi (s : State) (d : Option Descriptor) : (s.installConfig d).hbi = s.hbi := by
  unfold State.installConfig; simp
@[simp] theorem installConfig_cdu (s : State) (d : Option Descriptor) : (s.installConfig d).cdu = s.cdu := by
  unfold State.installConfig; simp
@[simp] theorem installConfig_mpt (s : State) (d : Option Descriptor) : (s.installConfig d).mpt = s.mpt := by
  unfold State.installConfig; simp
@[simp] theorem installConfig_txe (s : State) (d : Option Descriptor) : (s.installConfig d).txe = s.txe := by
  unfold State.installConfig; simp
@[simp] theorem installConfig_cau (s : State) (d : Option Descriptor) : (s.installConfig d).cau = s.cau := by
  unfold State.installConfig; simp
@[simp] theorem installConfig_twl (s : State) (d : Option Descriptor) : (s.installConfig d).twl = s.twl := by
  unfold State.installConfig; simp
@[simp] theorem installConfig_fau (s : State) (d : Option Descriptor) : (s.installConfig d).fau = s.fau := by
  unfold State.installConfig; simp
@[simp] theorem installConfig_mli (s : State) (d : Option Descriptor) : (s.installConfig d).mli = s.mli := by
  unfold State.installConfig; simp
@[simp] theorem installConfig_planeP (s : State) (d : Option Descriptor) : (s.installConfig d).planeP = s.planeP := by
  unfold State.installConfig; simp
@[simp] theorem installConfig_planeQ (s : State) (d : Option Descriptor) : (s.installConfig d).planeQ = s.planeQ := by
  unfold State.installConfig; simp
@[simp] theorem installConfig_pending (s : State) (d : Option Descriptor) : (s.installConfig d).pending = s.pending := by
  unfold State.installConfig; simp
@[simp] theorem installConfig_cuts (s : State) (d : Option Descriptor) : (s.installConfig d).cuts = s.cuts := by
  unfold State.installConfig; simp

@[simp] theorem installHold_inReset (s : State) (d : Option Descriptor) : (s.installHold d).inReset = s.inReset := by
  unfold State.installHold; dsimp only; split <;> simp
@[simp] theorem installHold_hbi (s : State) (d : Option Descriptor) : (s.installHold d).hbi = s.hbi := by
  unfold State.installHold; dsimp only; split <;> simp
@[simp] theorem installHold_cdu (s : State) (d : Option Descriptor) : (s.installHold d).cdu = s.cdu := by
  unfold State.installHold; dsimp only; split <;> simp
@[simp] theorem installHold_cau (s : State) (d : Option Descriptor) : (s.installHold d).cau = s.cau := by
  unfold State.installHold; dsimp only; split <;> simp
@[simp] theorem installHold_twl (s : State) (d : Option Descriptor) : (s.installHold d).twl = s.twl := by
  unfold State.installHold; dsimp only; split <;> simp
@[simp] theorem installHold_fau (s : State) (d : Option Descriptor) : (s.installHold d).fau = s.fau := by
  unfold State.installHold; dsimp only; split <;> simp
@[simp] theorem installHold_mli (s : State) (d : Option Descriptor) : (s.installHold d).mli = s.mli := by
  unfold State.installHold; dsimp only; split <;> simp
@[simp] theorem installHold_planeP (s : State) (d : Option Descriptor) : (s.installHold d).planeP = s.planeP := by
  unfold State.installHold; dsimp only; split <;> simp
@[simp] theorem installHold_planeQ (s : State) (d : Option Descriptor) : (s.installHold d).planeQ = s.planeQ := by
  unfold State.installHold; dsimp only; split <;> simp
@[simp] theorem installHold_pending (s : State) (d : Option Descriptor) : (s.installHold d).pending = s.pending := by
  unfold State.installHold; dsimp only; split <;> simp
@[simp] theorem installHold_cuts (s : State) (d : Option Descriptor) : (s.installHold d).cuts = s.cuts := by
  unfold State.installHold; dsimp only; split <;> simp

@[simp] theorem install_inReset (s : State) (d : Option Descriptor) : (s.install d).inReset = s.inReset := by
  unfold State.install; (repeat' split) <;> simp
@[simp] theorem install_hbi (s : State) (d : Option Descriptor) : (s.install d).hbi = s.hbi := by
  unfold State.install; (repeat' split) <;> simp
@[simp] theorem install_cdu (s : State) (d : Option Descriptor) : (s.install d).cdu = s.cdu := by
  unfold State.install; (repeat' split) <;> simp
@[simp] theorem install_cau (s : State) (d : Option Descriptor) : (s.install d).cau = s.cau := by
  unfold State.install; (repeat' split) <;> simp
@[simp] theorem install_twl (s : State) (d : Option Descriptor) : (s.install d).twl = s.twl := by
  unfold State.install; (repeat' split) <;> simp
@[simp] theorem install_fau (s : State) (d : Option Descriptor) : (s.install d).fau = s.fau := by
  unfold State.install; (repeat' split) <;> simp
@[simp] theorem install_planeP (s : State) (d : Option Descriptor) : (s.install d).planeP = s.planeP := by
  unfold State.install; (repeat' split) <;> simp
@[simp] theorem install_planeQ (s : State) (d : Option Descriptor) : (s.install d).planeQ = s.planeQ := by
  unfold State.install; (repeat' split) <;> simp
@[simp] theorem install_pending (s : State) (d : Option Descriptor) : (s.install d).pending = s.pending := by
  unfold State.install; (repeat' split) <;> simp
@[simp] theorem install_cuts (s : State) (d : Option Descriptor) : (s.install d).cuts = s.cuts := by
  unfold State.install; (repeat' split) <;> simp

@[simp] theorem takeField_inReset (s : State) (v : Unit16) : (s.takeField v).inReset = s.inReset := by
  unfold State.takeField; (repeat' split) <;> simp
@[simp] theorem takeField_hbi (s : State) (v : Unit16) : (s.takeField v).hbi = s.hbi := by
  unfold State.takeField; (repeat' split) <;> simp
@[simp] theorem takeField_cdu (s : State) (v : Unit16) : (s.takeField v).cdu = s.cdu := by
  unfold State.takeField; (repeat' split) <;> simp
@[simp] theorem takeField_cau (s : State) (v : Unit16) : (s.takeField v).cau = s.cau := by
  unfold State.takeField; (repeat' split) <;> simp
@[simp] theorem takeField_twl (s : State) (v : Unit16) : (s.takeField v).twl = s.twl := by
  unfold State.takeField; (repeat' split) <;> simp
@[simp] theorem takeField_fau (s : State) (v : Unit16) : (s.takeField v).fau = s.fau := by
  unfold State.takeField; (repeat' split) <;> simp
@[simp] theorem takeField_planeP (s : State) (v : Unit16) : (s.takeField v).planeP = s.planeP := by
  unfold State.takeField; (repeat' split) <;> simp
@[simp] theorem takeField_planeQ (s : State) (v : Unit16) : (s.takeField v).planeQ = s.planeQ := by
  unfold State.takeField; (repeat' split) <;> simp
@[simp] theorem takeField_pending (s : State) (v : Unit16) : (s.takeField v).pending = s.pending := by
  unfold State.takeField; (repeat' split) <;> simp
@[simp] theorem takeField_cuts (s : State) (v : Unit16) : (s.takeField v).cuts = s.cuts := by
  unfold State.takeField; (repeat' split) <;> simp

@[simp] theorem setPresented_inReset (s : State) (c : BusCycle) : (s.setPresented c).inReset = s.inReset := by
  unfold State.setPresented; simp
@[simp] theorem setPresented_rgd (s : State) (c : BusCycle) : (s.setPresented c).rgd = s.rgd := by
  unfold State.setPresented; simp
@[simp] theorem setPresented_cdu (s : State) (c : BusCycle) : (s.setPresented c).cdu = s.cdu := by
  unfold State.setPresented; simp
@[simp] theorem setPresented_mpt (s : State) (c : BusCycle) : (s.setPresented c).mpt = s.mpt := by
  unfold State.setPresented; simp
@[simp] theorem setPresented_txe (s : State) (c : BusCycle) : (s.setPresented c).txe = s.txe := by
  unfold State.setPresented; simp
@[simp] theorem setPresented_ckc (s : State) (c : BusCycle) : (s.setPresented c).ckc = s.ckc := by
  unfold State.setPresented; simp
@[simp] theorem setPresented_cau (s : State) (c : BusCycle) : (s.setPresented c).cau = s.cau := by
  unfold State.setPresented; simp
@[simp] theorem setPresented_twl (s : State) (c : BusCycle) : (s.setPresented c).twl = s.twl := by
  unfold State.setPresented; simp
@[simp] theorem setPresented_sru (s : State) (c : BusCycle) : (s.setPresented c).sru = s.sru := by
  unfold State.setPresented; simp
@[simp] theorem setPresented_fau (s : State) (c : BusCycle) : (s.setPresented c).fau = s.fau := by
  unfold State.setPresented; simp
@[simp] theorem setPresented_mli (s : State) (c : BusCycle) : (s.setPresented c).mli = s.mli := by
  unfold State.setPresented; simp
@[simp] theorem setPresented_planeP (s : State) (c : BusCycle) : (s.setPresented c).planeP = s.planeP := by
  unfold State.setPresented; simp
@[simp] theorem setPresented_planeQ (s : State) (c : BusCycle) : (s.setPresented c).planeQ = s.planeQ := by
  unfold State.setPresented; simp
@[simp] theorem setPresented_pending (s : State) (c : BusCycle) : (s.setPresented c).pending = s.pending := by
  unfold State.setPresented; simp
@[simp] theorem setPresented_cuts (s : State) (c : BusCycle) : (s.setPresented c).cuts = s.cuts := by
  unfold State.setPresented; simp

@[simp] theorem takeWriteHalf_inReset (s : State) (a : Access) (h : WriteHalf) : (s.takeWriteHalf a h).inReset = s.inReset := by
  unfold State.takeWriteHalf; simp
@[simp] theorem takeWriteHalf_rgd (s : State) (a : Access) (h : WriteHalf) : (s.takeWriteHalf a h).rgd = s.rgd := by
  unfold State.takeWriteHalf; simp
@[simp] theorem takeWriteHalf_cdu (s : State) (a : Access) (h : WriteHalf) : (s.takeWriteHalf a h).cdu = s.cdu := by
  unfold State.takeWriteHalf; simp
@[simp] theorem takeWriteHalf_mpt (s : State) (a : Access) (h : WriteHalf) : (s.takeWriteHalf a h).mpt = s.mpt := by
  unfold State.takeWriteHalf; simp
@[simp] theorem takeWriteHalf_txe (s : State) (a : Access) (h : WriteHalf) : (s.takeWriteHalf a h).txe = s.txe := by
  unfold State.takeWriteHalf; simp
@[simp] theorem takeWriteHalf_ckc (s : State) (a : Access) (h : WriteHalf) : (s.takeWriteHalf a h).ckc = s.ckc := by
  unfold State.takeWriteHalf; simp
@[simp] theorem takeWriteHalf_cau (s : State) (a : Access) (h : WriteHalf) : (s.takeWriteHalf a h).cau = s.cau := by
  unfold State.takeWriteHalf; simp
@[simp] theorem takeWriteHalf_twl (s : State) (a : Access) (h : WriteHalf) : (s.takeWriteHalf a h).twl = s.twl := by
  unfold State.takeWriteHalf; simp
@[simp] theorem takeWriteHalf_sru (s : State) (a : Access) (h : WriteHalf) : (s.takeWriteHalf a h).sru = s.sru := by
  unfold State.takeWriteHalf; simp
@[simp] theorem takeWriteHalf_fau (s : State) (a : Access) (h : WriteHalf) : (s.takeWriteHalf a h).fau = s.fau := by
  unfold State.takeWriteHalf; simp
@[simp] theorem takeWriteHalf_mli (s : State) (a : Access) (h : WriteHalf) : (s.takeWriteHalf a h).mli = s.mli := by
  unfold State.takeWriteHalf; simp
@[simp] theorem takeWriteHalf_planeP (s : State) (a : Access) (h : WriteHalf) : (s.takeWriteHalf a h).planeP = s.planeP := by
  unfold State.takeWriteHalf; simp
@[simp] theorem takeWriteHalf_planeQ (s : State) (a : Access) (h : WriteHalf) : (s.takeWriteHalf a h).planeQ = s.planeQ := by
  unfold State.takeWriteHalf; simp
@[simp] theorem takeWriteHalf_pending (s : State) (a : Access) (h : WriteHalf) : (s.takeWriteHalf a h).pending = s.pending := by
  unfold State.takeWriteHalf; simp
@[simp] theorem takeWriteHalf_cuts (s : State) (a : Access) (h : WriteHalf) : (s.takeWriteHalf a h).cuts = s.cuts := by
  unfold State.takeWriteHalf; simp

@[simp] theorem present_inReset (s : State) (c : BusCycle) : (s.present c).inReset = s.inReset := by
  unfold State.present; (repeat' split) <;> simp
@[simp] theorem present_rgd (s : State) (c : BusCycle) : (s.present c).rgd = s.rgd := by
  unfold State.present; (repeat' split) <;> simp
@[simp] theorem present_cdu (s : State) (c : BusCycle) : (s.present c).cdu = s.cdu := by
  unfold State.present; (repeat' split) <;> simp
@[simp] theorem present_ckc (s : State) (c : BusCycle) : (s.present c).ckc = s.ckc := by
  unfold State.present; (repeat' split) <;> simp
@[simp] theorem present_cau (s : State) (c : BusCycle) : (s.present c).cau = s.cau := by
  unfold State.present; (repeat' split) <;> simp
@[simp] theorem present_twl (s : State) (c : BusCycle) : (s.present c).twl = s.twl := by
  unfold State.present; (repeat' split) <;> simp
@[simp] theorem present_sru (s : State) (c : BusCycle) : (s.present c).sru = s.sru := by
  unfold State.present; (repeat' split) <;> simp
@[simp] theorem present_fau (s : State) (c : BusCycle) : (s.present c).fau = s.fau := by
  unfold State.present; (repeat' split) <;> simp
@[simp] theorem present_mli (s : State) (c : BusCycle) : (s.present c).mli = s.mli := by
  unfold State.present; (repeat' split) <;> simp
@[simp] theorem present_planeP (s : State) (c : BusCycle) : (s.present c).planeP = s.planeP := by
  unfold State.present; (repeat' split) <;> simp
@[simp] theorem present_planeQ (s : State) (c : BusCycle) : (s.present c).planeQ = s.planeQ := by
  unfold State.present; (repeat' split) <;> simp
@[simp] theorem present_pending (s : State) (c : BusCycle) : (s.present c).pending = s.pending := by
  unfold State.present; (repeat' split) <;> simp
@[simp] theorem present_cuts (s : State) (c : BusCycle) : (s.present c).cuts = s.cuts := by
  unfold State.present; (repeat' split) <;> simp

@[simp] theorem negateLock_inReset (s : State) : (s.negateLock).inReset = s.inReset := by
  unfold State.negateLock; (repeat' split) <;> simp
@[simp] theorem negateLock_rgd (s : State) : (s.negateLock).rgd = s.rgd := by
  unfold State.negateLock; (repeat' split) <;> simp
@[simp] theorem negateLock_cdu (s : State) : (s.negateLock).cdu = s.cdu := by
  unfold State.negateLock; (repeat' split) <;> simp
@[simp] theorem negateLock_ckc (s : State) : (s.negateLock).ckc = s.ckc := by
  unfold State.negateLock; (repeat' split) <;> simp
@[simp] theorem negateLock_cau (s : State) : (s.negateLock).cau = s.cau := by
  unfold State.negateLock; (repeat' split) <;> simp
@[simp] theorem negateLock_twl (s : State) : (s.negateLock).twl = s.twl := by
  unfold State.negateLock; (repeat' split) <;> simp
@[simp] theorem negateLock_sru (s : State) : (s.negateLock).sru = s.sru := by
  unfold State.negateLock; (repeat' split) <;> simp
@[simp] theorem negateLock_fau (s : State) : (s.negateLock).fau = s.fau := by
  unfold State.negateLock; (repeat' split) <;> simp
@[simp] theorem negateLock_mli (s : State) : (s.negateLock).mli = s.mli := by
  unfold State.negateLock; (repeat' split) <;> simp
@[simp] theorem negateLock_planeP (s : State) : (s.negateLock).planeP = s.planeP := by
  unfold State.negateLock; (repeat' split) <;> simp
@[simp] theorem negateLock_planeQ (s : State) : (s.negateLock).planeQ = s.planeQ := by
  unfold State.negateLock; (repeat' split) <;> simp
@[simp] theorem negateLock_pending (s : State) : (s.negateLock).pending = s.pending := by
  unfold State.negateLock; (repeat' split) <;> simp
@[simp] theorem negateLock_cuts (s : State) : (s.negateLock).cuts = s.cuts := by
  unfold State.negateLock; (repeat' split) <;> simp

@[simp] theorem take_inReset (s : State) (c : BusCycle) : (s.take c).inReset = s.inReset := by
  unfold State.take; dsimp only; (repeat' split) <;> simp
@[simp] theorem take_rgd (s : State) (c : BusCycle) : (s.take c).rgd = s.rgd := by
  unfold State.take; dsimp only; (repeat' split) <;> simp
@[simp] theorem take_cdu (s : State) (c : BusCycle) : (s.take c).cdu = s.cdu := by
  unfold State.take; dsimp only; (repeat' split) <;> simp
@[simp] theorem take_ckc (s : State) (c : BusCycle) : (s.take c).ckc = s.ckc := by
  unfold State.take; dsimp only; (repeat' split) <;> simp
@[simp] theorem take_twl (s : State) (c : BusCycle) : (s.take c).twl = s.twl := by
  unfold State.take; dsimp only; (repeat' split) <;> simp
@[simp] theorem take_sru (s : State) (c : BusCycle) : (s.take c).sru = s.sru := by
  unfold State.take; dsimp only; (repeat' split) <;> simp
@[simp] theorem take_mli (s : State) (c : BusCycle) : (s.take c).mli = s.mli := by
  unfold State.take; dsimp only; (repeat' split) <;> simp
@[simp] theorem take_planeP (s : State) (c : BusCycle) : (s.take c).planeP = s.planeP := by
  unfold State.take; dsimp only; (repeat' split) <;> simp
@[simp] theorem take_planeQ (s : State) (c : BusCycle) : (s.take c).planeQ = s.planeQ := by
  unfold State.take; dsimp only; (repeat' split) <;> simp
@[simp] theorem take_pending (s : State) (c : BusCycle) : (s.take c).pending = s.pending := by
  unfold State.take; dsimp only; (repeat' split) <;> simp
@[simp] theorem take_cuts (s : State) (c : BusCycle) : (s.take c).cuts = s.cuts := by
  unfold State.take; dsimp only; (repeat' split) <;> simp

@[simp] theorem startRun_inReset (s : State) : (s.startRun).inReset = s.inReset := by
  unfold State.startRun; simp
@[simp] theorem startRun_hbi (s : State) : (s.startRun).hbi = s.hbi := by
  unfold State.startRun; simp
@[simp] theorem startRun_cdu (s : State) : (s.startRun).cdu = s.cdu := by
  unfold State.startRun; simp
@[simp] theorem startRun_ckc (s : State) : (s.startRun).ckc = s.ckc := by
  unfold State.startRun; simp
@[simp] theorem startRun_twl (s : State) : (s.startRun).twl = s.twl := by
  unfold State.startRun; simp
@[simp] theorem startRun_planeP (s : State) : (s.startRun).planeP = s.planeP := by
  unfold State.startRun; simp
@[simp] theorem startRun_planeQ (s : State) : (s.startRun).planeQ = s.planeQ := by
  unfold State.startRun; simp
@[simp] theorem startRun_pending (s : State) : (s.startRun).pending = s.pending := by
  unfold State.startRun; simp
@[simp] theorem startRun_cuts (s : State) : (s.startRun).cuts = s.cuts := by
  unfold State.startRun; simp

end Sys2Proof.Machine
end

