-- ==== Sys2Proof/Laws/Memory.lean ====
section
/-!
SUPPORT. The laws of the memory planes: a write keeps the canonical form, a read after a write of the same byte gives the
byte written, and every other byte reads as before; then the same for the words of each plane.
-/
namespace Sys2Proof.Machine

/-! ### The canonical form -/

theorem Memory.wfFrom_mono {m : Memory} {lo lo' : Nat} (h : Memory.wfFrom lo m = true) (hl : lo' ≤ lo) :
    Memory.wfFrom lo' m = true := by
  cases m with
  | nil => rfl
  | cons c t =>
    simp only [Memory.wfFrom, Bool.and_eq_true, decide_eq_true_eq] at h ⊢
    exact ⟨⟨by omega, h.1.2⟩, h.2⟩

theorem Memory.wfFrom_write {m : Memory} {lo a : Nat} (v : BitVec 8) (h : Memory.wfFrom lo m = true) (ha : lo ≤ a) :
    Memory.wfFrom lo (m.write a v) = true := by
  induction m generalizing lo with
  | nil =>
    unfold Memory.write
    split <;> simp_all [Memory.wfFrom]
  | cons c t ih =>
    have hc := h
    simp only [Memory.wfFrom, Bool.and_eq_true, decide_eq_true_eq] at hc
    obtain ⟨⟨h1, h2⟩, h3⟩ := hc
    unfold Memory.write
    split
    · split
      · exact h
      · rename_i hlt hv
        simp only [Memory.wfFrom, Bool.and_eq_true, decide_eq_true_eq]
        exact ⟨⟨ha, hv⟩, ⟨⟨by omega, h2⟩, h3⟩⟩
    · split
      · split
        · exact Memory.wfFrom_mono h3 (by omega)
        · rename_i hv
          simp only [Memory.wfFrom, Bool.and_eq_true, decide_eq_true_eq]
          exact ⟨⟨ha, hv⟩, by subst a; exact h3⟩
      · simp only [Memory.wfFrom, Bool.and_eq_true, decide_eq_true_eq]
        exact ⟨⟨h1, h2⟩, ih h3 (by omega)⟩

/-- A write keeps the canonical form. -/
theorem Memory.wf_write {m : Memory} (a : Nat) (v : BitVec 8) (h : m.wf = true) : (m.write a v).wf = true :=
  Memory.wfFrom_write v h (Nat.zero_le a)

/-- No byte below the bound is listed. -/
theorem Memory.read_below {m : Memory} {lo a : Nat} (h : Memory.wfFrom lo m = true) (ha : a < lo) :
    m.read a = Config.unwrittenByte := by
  induction m generalizing lo with
  | nil => rfl
  | cons c t ih =>
    simp only [Memory.wfFrom, Bool.and_eq_true, decide_eq_true_eq] at h
    unfold Memory.read
    rw [if_neg (by omega)]
    exact ih h.2 (by omega)

/-! ### Reading after writing one byte -/

/-- Reading the byte written. -/
theorem Memory.read_write_same {m : Memory} (a : Nat) (v : BitVec 8) (h : m.wf = true) : (m.write a v).read a = v := by
  suffices hs : ∀ lo, Memory.wfFrom lo m = true → (m.write a v).read a = v from hs 0 h
  clear h
  induction m with
  | nil =>
    intro lo _
    unfold Memory.write
    split <;> simp_all [Memory.read]
  | cons c t ih =>
    intro lo h
    have hc := h
    simp only [Memory.wfFrom, Bool.and_eq_true, decide_eq_true_eq] at hc
    unfold Memory.write
    split
    · rename_i hlt
      split
      · rename_i hv
        rw [hv]
        exact Memory.read_below (lo := c.1) (by simp [Memory.wfFrom, hc.1.2, hc.2]) hlt
      · simp [Memory.read]
    · split
      · rename_i heq
        split
        · rename_i hv
          rw [hv]
          exact Memory.read_below hc.2 (by omega)
        · simp [Memory.read]
      · rename_i hne
        unfold Memory.read
        rw [if_neg (by omega)]
        exact ih _ hc.2

/-- Reading any other byte. -/
theorem Memory.read_write_other {m : Memory} {a b : Nat} (v : BitVec 8) (hab : b ≠ a) :
    (m.write a v).read b = m.read b := by
  induction m with
  | nil =>
    unfold Memory.write
    split
    · rfl
    · simp only [Memory.read]
      rw [if_neg (Ne.symm hab)]
  | cons c t ih =>
    unfold Memory.write
    split
    · split
      · rfl
      · rw [Memory.read, if_neg (Ne.symm hab)]
    · split
      · rename_i heq
        have hne : c.1 ≠ b := fun hc => hab (by omega)
        split
        · rw [Memory.read, if_neg hne]
        · rw [Memory.read, if_neg (Ne.symm hab), Memory.read, if_neg hne]
      · simp only [Memory.read, ih]

/-! ### Words of the planes -/

theorem wf_writePlaneP {m : Memory} (pw : Nat) (p : Word) (h : m.wf = true) : (writePlaneP m pw p).wf = true :=
  Memory.wf_write _ _ (Memory.wf_write _ _ h)

theorem wf_writePlaneQ {m : Memory} (pw : Nat) (q : Code) (h : m.wf = true) : (writePlaneQ m pw q).wf = true :=
  Memory.wf_write _ _ (Memory.wf_write _ _ (Memory.wf_write _ _ (Memory.wf_write _ _ h)))

/-- Plane P reads the word written there. -/
theorem readPlaneP_write_same {m : Memory} (pw : Nat) (p : Word) (h : m.wf = true) :
    readPlaneP (writePlaneP m pw p) pw = p := by
  unfold readPlaneP writePlaneP
  rw [Memory.read_write_other _ (by omega), Memory.read_write_same _ _ h,
    Memory.read_write_same _ _ (Memory.wf_write _ _ h)]
  ext i hi
  simp only [BitVec.getElem_append, BitVec.getElem_extractLsb']
  split
  · simp [BitVec.getLsbD_eq_getElem hi]
  · have h8 : 8 + (i - 8) = i := by omega
    simp [h8, BitVec.getLsbD_eq_getElem hi]

/-- A byte of plane P outside the word written reads as before. -/
theorem read_writePlaneP_other {m : Memory} {pw a : Nat} (p : Word) (ha : a / 2 ≠ pw) :
    (writePlaneP m pw p).read a = m.read a := by
  unfold writePlaneP
  rw [Memory.read_write_other _ (by omega), Memory.read_write_other _ (by omega)]

/-- Plane Q reads the word written there. -/
theorem readPlaneQ_write_same {m : Memory} (pw : Nat) (q : Code) (h : m.wf = true) :
    readPlaneQ (writePlaneQ m pw q) pw = q := by
  unfold readPlaneQ writePlaneQ
  have h1 := Memory.wf_write (4 * pw) (q.extractLsb' 24 8) h
  have h2 := Memory.wf_write (4 * pw + 1) (q.extractLsb' 16 8) h1
  have h3 := Memory.wf_write (4 * pw + 2) (q.extractLsb' 8 8) h2
  rw [Memory.read_write_other (b := 4 * pw) _ (by omega), Memory.read_write_other (b := 4 * pw) _ (by omega),
    Memory.read_write_other (b := 4 * pw) _ (by omega), Memory.read_write_same _ _ h,
    Memory.read_write_other (b := 4 * pw + 1) _ (by omega), Memory.read_write_other (b := 4 * pw + 1) _ (by omega),
    Memory.read_write_same _ _ h1, Memory.read_write_other (b := 4 * pw + 2) _ (by omega),
    Memory.read_write_same _ _ h2, Memory.read_write_same _ _ h3]
  ext i hi
  simp only [BitVec.getElem_append, BitVec.getElem_extractLsb']
  split
  · split
    · simp [BitVec.getLsbD_eq_getElem hi]
    · have e : 8 + (i - 8) = i := by omega
      simp [e, BitVec.getLsbD_eq_getElem hi]
  · split
    · have e : 16 + (i - 16) = i := by omega
      simp [e, BitVec.getLsbD_eq_getElem hi]
    · have e : 24 + (i - 16 - 8) = i := by omega
      simp [e, BitVec.getLsbD_eq_getElem hi]

/-- A byte of plane Q outside the word written reads as before. -/
theorem read_writePlaneQ_other {m : Memory} {pw a : Nat} (q : Code) (ha : a / 4 ≠ pw) :
    (writePlaneQ m pw q).read a = m.read a := by
  unfold writePlaneQ
  rw [Memory.read_write_other _ (by omega), Memory.read_write_other _ (by omega), Memory.read_write_other _ (by omega),
    Memory.read_write_other _ (by omega)]

/-- Another word of plane P reads as before. -/
theorem readPlaneP_write_other {m : Memory} {pw pw' : Nat} (p : Word) (h : pw' ≠ pw) :
    readPlaneP (writePlaneP m pw p) pw' = readPlaneP m pw' := by
  unfold readPlaneP
  rw [read_writePlaneP_other _ (by omega), read_writePlaneP_other _ (by omega)]

/-- Another word of plane Q reads as before. -/
theorem readPlaneQ_write_other {m : Memory} {pw pw' : Nat} (q : Code) (h : pw' ≠ pw) :
    readPlaneQ (writePlaneQ m pw q) pw' = readPlaneQ m pw' := by
  unfold readPlaneQ
  rw [read_writePlaneQ_other _ (by omega), read_writePlaneQ_other _ (by omega), read_writePlaneQ_other _ (by omega),
    read_writePlaneQ_other _ (by omega)]

end Sys2Proof.Machine
end

