-- ==== Sys2Proof/Laws/Ops.lean ====
section
/-!
SUPPORT. What each shared operation can do, said once: steps at the port, maintenance commands, table search, checks and their
repairs, faults, repair reports, the port after a group, what a reset leaves of one, and what a REINIT carries through.
-/
namespace Sys2Proof.Machine

/-! ### Steps at the port and commands -/

/-- A step at the port answers its group's state, or leaves the state alone. -/
theorem onPort_next {s t : State} {ready : Bool} {addrs : List Nat} {f : State → State}
    (h : onPort s ready addrs f = .next t) : t = s ∨ ready = true ∧ (∀ pw ∈ addrs, pw < s.memWords) ∧ t = f s := by
  unfold onPort at h
  split at h
  · cases h; exact .inl rfl
  · split at h
    · rename_i hr ha
      cases h
      simp only [Bool.not_eq_true', Bool.not_eq_false] at hr
      exact .inr ⟨hr, by simpa using ha, rfl⟩
    · cases h

/-- A field that a group keeps is kept by its step at the port. -/
theorem onPort_field {α : Type} (g : State → α) {s t : State} {ready : Bool} {addrs : List Nat} {f : State → State}
    (h : onPort s ready addrs f = .next t) (hf : g (f s) = g s) : g t = g s := by
  rcases onPort_next h with rfl | ⟨_, _, rfl⟩
  · rfl
  · exact hf

/-- A field that an access's group keeps is kept by its step. -/
theorem accessGroup_field {α : Type} (g : State → α) {s t : State} {gr : Grant} {p : AccessOp → Bool}
    {f : Access → State → State} (h : s.accessGroup gr p f = .next t) (hf : ∀ a, g (f a s) = g s) : g t = g s := by
  unfold State.accessGroup at h
  split at h
  · exact onPort_field g h (hf _)
  · cases h; rfl

/-- A maintenance command is carried out, or leaves the state alone. -/
theorem command_cases (s : State) (code : Nat) (ops : List Unit16) (f : State → State) :
    s.command code ops f = s ∨
    s.command code ops f = f { s with mli := { s.mli with code := some (unit code), operands := ops } } := by
  unfold State.command
  split
  · exact .inr rfl
  · exact .inl rfl

/-- With a frame RECEIVING and no command in it, a command is carried out. -/
theorem command_of_listens {s : State} (h : s.listens) (code : Nat) (ops : List Unit16) (f : State → State) :
    s.command code ops f = f { s with mli := { s.mli with code := some (unit code), operands := ops } } := by
  obtain ⟨h1, h2, h3⟩ := h
  simp [State.command, State.receiving, h1, h2, h3]

/-- A field the command keeps is kept. -/
theorem command_field {α : Type} (g : State → α) (s : State) (code : Nat) (ops : List Unit16) (f : State → State)
    (hf : ∀ m, g (f { s with mli := m }) = g s) : g (s.command code ops f) = g s := by
  rcases command_cases s code ops f with h | h <;> rw [h]
  exact hf _

/-! ### Table search -/

/-- Every entry is among the 16. -/
theorem mem_allRegions (r : Region) : r ∈ allRegions := by revert r; decide

/-- The only present descriptor that meets `p` is the one found. -/
theorem firstRegion_unique {t : Table} {p : Region → Descriptor → Bool} {r : Region} {d : Descriptor}
    (h : t.get r = some d) (hp : p r d = true) (hu : ∀ r' d', t.get r' = some d' → p r' d' = true → r' = r) :
    firstRegion p t = some (r, d) := by
  have key : ∀ l : List Region, r ∈ l → l.findSome? (fun r => match t.get r with
      | some d => if p r d then some (r, d) else none
      | none => none) = some (r, d) := by
    intro l hl
    induction l with
    | nil => cases hl
    | cons x l ih =>
      rw [List.findSome?_cons]
      by_cases hx : x = r
      · subst hx; simp [h, hp]
      · have hm : r ∈ l := by simpa [Ne.symm hx] using hl
        cases hg : t.get x with
        | none => simp [ih hm]
        | some d' =>
          have hn : p x d' = false := by
            by_contra hc; exact hx (hu x d' hg (by simpa using hc))
          simp [hn, ih hm]
  exact key _ (mem_allRegions r)

/-- No present descriptor meets `p`: none is found. -/
theorem firstRegion_none {t : Table} {p : Region → Descriptor → Bool}
    (h : ∀ r d, t.get r = some d → p r d = false) : firstRegion p t = none := by
  unfold firstRegion
  rw [List.findSome?_eq_none_iff]
  intro r _
  cases hg : t.get r with
  | none => rfl
  | some d => simp [h r d hg]

/-! ### Checks -/

/-- A signature is below the prime. -/
theorem signature_lt (w : Nat) (t : Terms) (e : Count8) : signature w t e < 65521 := Nat.mod_lt _ (by decide)

/-- A plane Q value valid for a signature is the code word of the data it carries. -/
theorem encode_codeData {q : Code} {s : Nat} (h : codeMatches q s = true) : encode (codeData q) s = q := by
  unfold codeMatches at h
  rw [Bool.and_eq_true, decide_eq_true_eq, decide_eq_true_eq] at h
  obtain ⟨h1, h2⟩ := h
  rw [show Config.maxCode = 4293984255 from rfl] at h1
  rw [show Config.prime = 65521 from rfl] at h2
  apply BitVec.eq_of_toNat_eq
  simp only [encode, codeData, Config.prime, BitVec.toNat_ofNat]
  have hd : q.toNat / 65521 < 65536 := by omega
  rw [Nat.mod_eq_of_lt hd, Nat.mod_eq_of_lt] <;> omega

/-- What a check that delivers data found. -/
theorem checkPair_good {b : Bool} {w : Nat} {t : Terms} {e : Count8} {p d : Word} {q : Code}
    (h : (checkPair b w t e p q).data = some d) :
    ((checkPair b w t e p q).cls = .clean ∧ d = p ∧ q = encode p (signature w t e)) ∨
    ((checkPair b w t e p q).cls = .pRepair ∧ d = codeData q ∧ q = encode d (signature w t e)) ∨
    ((checkPair b w t e p q).cls = .qRepair ∧ d = p) := by
  have hv : ∀ c, qFindingOf c (signature w t e) (signature w t (e - 1)) q = .valid →
      codeMatches q (signature w t e) = true := by
    intro c
    unfold qFindingOf
    split
    · intro; assumption
    · split <;> (try split) <;> simp
  simp only [checkPair] at h ⊢
  generalize hqf : qFindingOf _ _ _ _ = qf at *
  cases qf with
  | valid =>
    have := encode_codeData (hv _ hqf)
    simp only [classify] at *
    split <;> simp_all [deliveredData]
  | previousEpoch => simp only [classify] at *; split at h <;> simp_all [deliveredData]
  | outOfRange => simp only [classify] at *; split at h <;> simp_all [deliveredData]
  | wrongRemainder => simp only [classify] at *; split at h <;> simp_all [deliveredData]

/-- A classification that delivers no data is UNCORRECTABLE or STALE. -/
theorem delivered_none {c : Classification} {p : Word} {q : Code} (h : deliveredData c p q = none) :
    c = .uncorrectable ∨ c = .stale := by
  cases c <;> simp_all [deliveredData]

/-- A check that delivers no data classifies UNCORRECTABLE or STALE. -/
theorem check_bad {s : State} {b : Bool} {w : Nat} {t : Terms} (h : (s.check b w t).data = none) :
    (s.check b w t).cls = .uncorrectable ∨ (s.check b w t).cls = .stale := delivered_none h

/-! ### Taint and faults -/

/-- Raising no reason changes nothing. -/
theorem raise_nothing (c : Cau) : c.raise ⟨false, false, false, false⟩ = c := by
  unfold Cau.raise Cau.raiseCarry TaintSet.union
  split <;> simp

/-- The two faults of a retire request or take raise no taint. -/
theorem retireFault_cau (s : State) (k : FaultKind) (b w : Nat) (hk : k = .retireQueueFull ∨ k = .sparesExhausted) :
    (s.takeFault (retireFault s.rgd.table k b w)).cau = s.cau := by
  have : faultTaints s.rgd.table (retireFault s.rgd.table k b w) = ⟨false, false, false, false⟩ := by
    rcases hk with rfl | rfl <;> simp [faultTaints, retireFault, bareFault]
  simp [State.takeFault, this, raise_nothing]

/-- The record a bad word of a processor access leaves. -/
theorem reportBadWord_fau (s : State) (a : Access) (src : Source) (rep : CheckReport)
    (h : rep.cls = .uncorrectable ∨ rep.cls = .stale) :
    (s.reportBadWord a src rep).fau = s.fau.take (s.badWordRecord a src rep) := by
  unfold State.reportBadWord
  simp only [State.takeFault]
  simp [State.recordOf, badWordFault, accessFault, bareFault, State.badWordRecord]
  congr 2
  · rcases h with h | h <;> simp [h, badWordKind]
  · rcases h with h | h <;> simp [h, badWordKind, faultVital, hasAttr]

/-- The taint a bad word of a processor access raises (R162). -/
theorem reportBadWord_cau (s : State) (a : Access) (src : Source) (rep : CheckReport)
    (h : rep.cls = .uncorrectable ∨ rep.cls = .stale) :
    (s.reportBadWord a src rep).cau = s.cau.raise
      { unreadableOld := src == .procWrite && a.op.kind == .wordWrite && rep.cls == .uncorrectable &&
          hasAttr (·.agreed) s.rgd.table a.record.region
        suspectBlock := a.record.attrs.checkpoint && rep.cls == .uncorrectable
        hostUncorrectableAgreed := hasAttr (·.agreed) s.rgd.table a.record.region &&
          (src == .procRead || src == .procFetch || (src == .procWrite && a.op.kind == .byteWrite))
        maint := false } := by
  unfold State.reportBadWord
  simp only [State.takeFault]
  simp only [addDirtyIf_cau, addDirtyIf_rgd, faultTaints, badWordFault, accessFault, bareFault]
  rcases h with h | h <;> rw [h] <;> rfl

/-- The suspect mark of a bad word. -/
theorem reportBadWord_ckc (s : State) (a : Access) (src : Source) (rep : CheckReport) :
    (s.reportBadWord a src rep).ckc = s.marked (a.record.attrs.checkpoint && rep.cls == .uncorrectable) a := by
  unfold State.reportBadWord State.takeFault State.addDirtyIf State.marked badWordFault
  dsimp only
  split <;> rfl

/-! ### Repairs -/

@[simp] theorem requestRetire_cau (s : State) (b w : Nat) : (s.requestRetire b w).cau = s.cau := by
  unfold State.requestRetire
  split
  · rfl
  · split
    · rfl
    · exact retireFault_cau _ _ _ _ (.inl rfl)
@[simp] theorem reportRepair_cau (s : State) (w : Nat) (pl : Plane) : (s.reportRepair w pl).cau = s.cau := by
  unfold State.reportRepair; dsimp only; split <;> simp
@[simp] theorem repair_cau (s : State) (w : Nat) (t : Terms) (rep : CheckReport) : (s.repair w t rep).cau = s.cau := by
  unfold State.repair; split <;> simp
@[simp] theorem repairByWrite_cau (s : State) (w : Nat) (rep : CheckReport) : (s.repairByWrite w rep).cau = s.cau := by
  unfold State.repairByWrite; split <;> simp

/-- A repair report does not look at the planes. -/
theorem reportRepair_planes (s : State) (p q : Memory) (w : Nat) (pl : Plane) :
    State.reportRepair { s with planeP := p, planeQ := q } w pl =
      { s.reportRepair w pl with planeP := p, planeQ := q } := by
  unfold State.reportRepair State.requestRetire
  dsimp only
  split
  · split
    · rfl
    · split <;> rfl
  · rfl

/-- A repair report's faults, history and queue depend on nothing but the fault unit, the retirement unit, the table, E and
C. -/
theorem reportRepair_congr {s s' : State} (w : Nat) (pl : Plane) (h1 : s'.fau = s.fau) (h2 : s'.sru = s.sru)
    (h3 : s'.rgd = s.rgd) (h4 : s'.cau.epoch = s.cau.epoch) (h5 : s'.cau.cycle = s.cau.cycle) :
    (s'.reportRepair w pl).fau = (s.reportRepair w pl).fau ∧ (s'.reportRepair w pl).sru = (s.reportRepair w pl).sru := by
  unfold State.reportRepair State.requestRetire
  dsimp only
  rw [h2]
  split
  · split
    · simp [h1]
    · split <;> simp [h1, h3, h4, h5, State.takeFault, State.recordOf]
  · simp [h1]

/-- The pair written at a word is the pair it holds, and no other byte changed. -/
theorem wrote_of_planes {s t : State} (hc : s.canonical) {pw : Nat} {d : Word} {q : Code}
    (h1 : t.planeP = writePlaneP s.planeP pw d) (h2 : t.planeQ = writePlaneQ s.planeQ pw q) :
    t.holds pw d q ∧ sameButWord s t pw := by
  refine ⟨⟨?_, ?_⟩, ?_, ?_⟩
  · rw [h1]; exact readPlaneP_write_same _ _ hc.1
  · rw [h2]; exact readPlaneQ_write_same _ _ hc.2
  · intro a ha; rw [h1]; exact read_writePlaneP_other _ ha
  · intro a ha; rw [h2]; exact read_writePlaneQ_other _ ha

/-- A check that delivers no data repairs nothing. -/
theorem repair_bad {s : State} {w : Nat} {t : Terms} (h : (s.check true w t).data = none) :
    s.repair w t (s.check true w t) = s := by
  unfold State.repair
  rw [show (s.check true w t).repair = repairFieldOf true (s.check true w t).cls from rfl]
  rcases check_bad h with hb | hb <;> rw [hb] <;> rfl

/-- A check with repair that delivers data leaves its word readable and reports what it repaired. -/
theorem repair_readWell {s : State} (hc : s.canonical) {w : Nat} {t : Terms} {d : Word}
    (hd : (s.check true w t).data = some d) :
    readWell s (s.repair w t (s.check true w t)) w t (s.check true w t) d := by
  have hf := checkPair_good hd
  have hrep : (s.check true w t).repair = repairFieldOf true (s.check true w t).cls := rfl
  have hq : (s.check true w t).rawQ = readPlaneQ s.planeQ (s.physWord w) := rfl
  have hp : (s.check true w t).rawP = readPlaneP s.planeP (s.physWord w) := rfl
  unfold readWell wroteWord State.repair State.withRepair
  change ((s.check true w t).cls = .clean ∧ _) ∨ ((s.check true w t).cls = .pRepair ∧ _) ∨
    ((s.check true w t).cls = .qRepair ∧ _) at hf
  rcases hf with ⟨hcl, h1, h2⟩ | ⟨hcl, h1, h2⟩ | ⟨hcl, h1⟩ <;> rw [hrep, hcl] <;>
    simp only [repairFieldOf, if_true]
  · refine ⟨⟨⟨h1.symm, ?_⟩, fun _ _ => rfl, fun _ _ => rfl⟩, by simp⟩
    rw [h1]; exact h2
  · have hr : (s.putP (s.physWord w) (codeData (s.check true w t).rawQ)).reportRepair w .p =
        { s.reportRepair w .p with
          planeP := writePlaneP s.planeP (s.physWord w) (codeData (s.check true w t).rawQ), planeQ := s.planeQ } :=
      reportRepair_planes s _ s.planeQ w .p
    rw [hr]
    refine ⟨⟨⟨?_, h2⟩, ?_, fun _ _ => rfl⟩, by simp⟩
    · dsimp only; rw [hq, ← h1]; exact readPlaneP_write_same _ _ hc.1
    · intro a ha; exact read_writePlaneP_other _ ha
  · have hr : (s.putQ (s.physWord w) (encode (s.check true w t).rawP (signature w t s.cau.epoch))).reportRepair w .q =
        { s.reportRepair w .q with
          planeP := s.planeP
          planeQ := writePlaneQ s.planeQ (s.physWord w)
            (encode (s.check true w t).rawP (signature w t s.cau.epoch)) } :=
      reportRepair_planes s s.planeP _ w .q
    rw [hr]
    refine ⟨⟨⟨h1.symm, ?_⟩, fun _ _ => rfl, ?_⟩, by simp⟩
    · dsimp only; rw [hp, ← h1]; exact readPlaneQ_write_same _ _ hc.2
    · intro a ha; exact read_writePlaneQ_other _ ha

/-! ### Addresses and the digest -/

/-- A logical word's place depends on the remap table and the parameters alone. -/
theorem physWord_congr {s s' : State} (h1 : s'.sru.remap = s.sru.remap) (h2 : s'.mli.params = s.mli.params) (w : Nat) :
    s'.physWord w = s.physWord w := by
  unfold State.physWord State.physBlock
  rw [h1, h2]

/-- A digest term enters where the region is AGREED. -/
theorem addDigestIf_cau (s : State) (c : Bool) (term : BitVec 32) :
    (s.addDigestIf c term).cau = { s.cau with digest := if c then s.cau.digest + term else s.cau.digest } := by
  unfold State.addDigestIf
  cases c <;> rfl

/-! ### The port -/

/-- With an operation ACTIVE and the port idle, the engine is granted afresh. -/
theorem settle_active {s : State} (h1 : s.txe.active ≠ none) (h : s.mpt.grant = .none) :
    s.settle.txe = s.txe ∧ s.settle.mpt = { grant := .engine, count := 0, limit := s.mli.params.burst } := by
  obtain ⟨k, hk⟩ := Option.ne_none_iff_exists'.mp h1
  simp [State.settle, hk, h, State.grantEngine]

/-- With nothing to do and nobody asking, the port stays idle. -/
theorem settle_idle {s : State} (h1 : s.txe.active = none) (h2 : s.txe.highest = none) (h : s.mpt.grant = .none)
    (hv : s.procAsking = false) : s.settle = s := by
  have hs : s.selectionPoint = s := by
    unfold State.selectionPoint State.select
    rw [h2]
    dsimp only
    rw [← h1]
  have hm : ({ s with mpt := { s.mpt with grant := .none } } : State) = s := by rw [← h]
  have hg : (if s.mpt.grant = .engine ∧ s.txe.active.isNone = true then Grant.none else s.mpt.grant) = .none := by
    simp [h]
  unfold State.settle
  simp only [h1, Option.isNone_none, if_true, hs]
  simp only [h1, Option.isNone_none] at hg
  simp only [hg, hm, hv, if_true, Option.isSome_none, Bool.false_eq_true, if_false]

/-- The port after a processor group (R61 to R63). -/
theorem releasePort_released {s u : State} (h1 : u.txe = s.txe) (h2 : u.mpt = s.mpt) (h3 : u.mli = s.mli)
    (h4 : u.hbi.access = none) (h5 : u.cau.verdictDue = s.cau.verdictDue) : portReleased s u.releasePort := by
  unfold portReleased State.releasePort
  constructor
  · intro h
    have := settle_active (s := { u with mpt := { u.mpt with grant := .none } }) (by simpa [h1] using h) rfl
    simpa [h1, h3] using this
  · intro ha hh hv
    have := settle_idle (s := { u with mpt := { u.mpt with grant := .none } }) (by simpa [h1] using ha)
      (by simpa [h1] using hh) rfl (by simp [State.procAsking, h4, h5, hv])
    rw [this]
    exact ⟨h1, by rw [h2]⟩

/-! ### The engine's slots -/

/-- What withdrawing a PRIORITY_BLOCK can do: nothing, or empty a slot whose block has left the move's set. -/
theorem withdrawPriority_cases (s : State) (m : Move) :
    (s.withdrawPriority m = s ∧ ∀ o, s.txe.priority = some o → o.move = m → o.block ∈ s.ckc.setOf m) ∨
    (∃ o, s.txe.priority = some o ∧ o.move = m ∧ o.block ∉ s.ckc.setOf m ∧
      s.withdrawPriority m = { s with txe := { s.txe with priority := none } }) := by
  unfold State.withdrawPriority
  cases h : s.txe.priority with
  | none => exact .inl ⟨rfl, nofun⟩
  | some o =>
    dsimp only
    by_cases hc : o.move = m ∧ o.block ∉ s.ckc.setOf m
    · exact .inr ⟨o, rfl, hc.1, hc.2, if_pos hc⟩
    · refine .inl ⟨if_neg hc, fun o' ho hm => ?_⟩
      obtain rfl := Option.some.inj ho
      exact not_not.mp fun hb => hc ⟨hm, hb⟩

/-! ### A group cut short -/

/-- After some of its stages memory is as it was, or as one of the stages left it. -/
theorem planesAfter_cases (before : Memory × Memory) (l : List (Memory × Memory)) (n : Nat) :
    planesAfter before l n = before ∨ planesAfter before l n ∈ l := by
  induction l generalizing before n with
  | nil => exact .inl rfl
  | cons x l ih =>
    cases n with
    | zero => exact .inl rfl
    | succ n =>
      rcases ih x n with h | h
      · exact .inr (by rw [planesAfter, h]; exact List.mem_cons_self)
      · exact .inr (List.mem_cons_of_mem _ h)

/-- The stages of a group: what the whole group leaves, and between the two repairs of a scrub word check the first. -/
theorem groupStages_cases {s : State} {x : Memory × Memory} (h : x ∈ s.groupStages) :
    s.mpt.grant ≠ .none ∧ (x ∈ s.scrubMidway ∨ ∃ t, s.groupInHand = .next t ∧ x = (t.planeP, t.planeQ)) := by
  unfold State.groupStages at h
  split at h
  · exact absurd h List.not_mem_nil
  · refine ⟨‹_›, ?_⟩
    split at h
    · rcases List.mem_append.mp h with h | h
      · split at h
        · exact .inl h
        · exact absurd h List.not_mem_nil
      · exact .inr ⟨_, ‹_›, List.mem_singleton.mp h⟩
    · exact absurd h List.not_mem_nil

/-- With the port granted for no group, a reset leaves memory as it is and counts no cut. -/
theorem intoReset_idle {s : State} (h : s.mpt.grant = .none) :
    s.intoReset = State.powerOnValue true s.planeP s.planeQ s.cuts s.pending := by
  have hs : s.groupStages = [] := by simp [State.groupStages, h]
  simp [State.intoReset, State.cutPlanes, hs, planesAfter]

/-! ### A group carried through -/

/-- With the port granted for no group, a REINIT takes effect on the state as it is. -/
@[simp] theorem groupEnded_idle {s : State} (h : s.mpt.grant = .none) : s.groupEnded = s := if_pos h

/-- What a REINIT takes effect on while the port is granted: the state itself, or the state with its group carried through. -/
theorem groupEnded_cases {s : State} (h : s.mpt.grant ≠ .none) :
    s.groupEnded = { s with cuts := s.cuts + 1 } ∨ s.groupEnded = { s.carryThrough with cuts := s.cuts + 1 } := by
  unfold State.groupEnded
  rw [if_neg h]
  cases Config.groupBegun s.cuts
  · exact .inl rfl
  · exact .inr rfl

/-- A word read of an abandoned operation whose word delivers no data changes nothing. -/
theorem carryRead_bad {s : State} {w : Nat} (h : (s.check true w (s.terms w)).data = none) : s.carryRead w = s := by
  unfold State.carryRead onPort
  simp only [Bool.not_true, Bool.false_eq_true, if_false]
  split <;> simp [State.after, repair_bad h]

/-- A step that goes on is followed; one that stops is not. -/
@[simp] theorem after_next (s t : State) : s.after (.next t) = t := rfl
@[simp] theorem after_fault (s : State) (f : Fault) : s.after (.fault f) = s := rfl
@[simp] theorem after_refused (s : State) (r : Refusal) : s.after (.refused r) = s := rfl

end Sys2Proof.Machine
end

