-- ==== Sys2Proof/Tests/Slice0.lean ====
section
/-!
SUPPORT. Tests: well-formedness refuses ill-formed commands, the worked examples of the spec, and for every statement with
hypotheses a state and operands that meet them (`witness_<statement>`). Expected numbers are the spec's; each test names
its section.
-/
namespace Sys2Proof.Tests

open Sys2Proof Sys2Proof.Machine

/-! ### Well-formedness -/

theorem test_wf_word_at_odd_address : Instr.wellFormed (.accessPresented ⟨3, .wordRead, false⟩) = false := by decide
theorem test_wf_fetch_at_odd_address : Instr.wellFormed (.accessPresented ⟨3, .fetch, false⟩) = false := by decide
theorem test_wf_upper_lane_at_odd_address :
    Instr.wellFormed (.accessPresented ⟨3, .byteRead .upper, false⟩) = false := by decide
theorem test_wf_lower_lane_at_even_address :
    Instr.wellFormed (.accessPresented ⟨2, .byteWrite .lower 1, false⟩) = false := by decide
theorem test_wf_write_half_reads : Instr.wellFormed (.lockedWriteHalfPresented ⟨2, .wordRead, true⟩) = false := by decide
theorem test_wf_write_half_unlocked :
    Instr.wellFormed (.lockedWriteHalfPresented ⟨2, .wordWrite 1, false⟩) = false := by decide
theorem test_wf_lock_negated : Instr.wellFormed (.lockNegated (some ⟨3, .wordRead, false⟩)) = false := by decide
theorem test_wf_no_units : Instr.wellFormed (.twinFrameReceived []) = false := by decide
theorem test_wf_known_code : Instr.wellFormed (.unknownCommand 0x18) = false := by decide
theorem test_wf_remap_short : Instr.wellFormed (.loadRemap 2 [⟨5, 0, 0⟩]) = false := by decide
theorem test_wf_remap_above_eight : Instr.wellFormed (.loadRemap 9 [⟨5, 0, 0⟩]) = false := by decide
theorem test_wf_accepts : (Instr.wellFormed (.accessPresented ⟨3, .byteRead .lower, false⟩) &&
    Instr.wellFormed (.unknownCommand 0x19) && Instr.wellFormed (.loadRemap 1 [⟨5, 0, 0⟩])) = true := by decide

/-! ### The worked coding cases (section 1.8) -/

/-- Case 1: key 1,000, word 37,283, data 4,660. -/
theorem test_case1_code_word :
    signature 37283 ⟨1000, false⟩ 0 = 38283 ∧ encode 4660 38283 = 305366143 := by decide
theorem test_case1_bit3_of_q :
    checkPair true 37283 ⟨1000, false⟩ 0 4660 305366135 =
      ⟨.qRepair, some 4660, 4660, 305366135, .wrongRemainder, .notTested, some 1, .qWritten⟩ := by decide
theorem test_case1_two_bits_of_q :
    (checkPair true 37283 ⟨1000, false⟩ 0 4660 304317559).cls = .qRepair ∧
    (checkPair true 37283 ⟨1000, false⟩ 0 4660 304317559).distance = some 2 := by decide
theorem test_case1_bit0_of_p :
    checkPair true 37283 ⟨1000, false⟩ 0 4661 305366143 =
      ⟨.pRepair, some 4660, 4661, 305366143, .valid, .differs, none, .pWritten⟩ := by decide

/-- Case 2: byte 171 into the upper lane. -/
theorem test_case2_merge : mergeByte .upper 171 4660 = 43828 ∧ encode 43828 38283 = 2871692671 := by decide

/-- Case 3: a CYCLIC word across epochs 7, 8, 9. -/
theorem test_case3_epochs :
    encode 3 (signature 40000 ⟨500, true⟩ 7) = 238820 ∧
    (checkPair true 40000 ⟨500, true⟩ 7 3 238820).cls = .clean ∧
    (checkPair true 40000 ⟨500, true⟩ 8 3 238820).cls = .stale ∧
    (checkPair true 40000 ⟨500, true⟩ 8 3 238820).qFinding = .previousEpoch ∧
    (checkPair true 40000 ⟨500, true⟩ 9 3 238820).cls = .uncorrectable := by decide

/-- Case 4: the previous epoch across the wrap. -/
theorem test_case4_wrap :
    encode 3 (signature 40000 ⟨500, true⟩ 255) = 235547 ∧
    (checkPair true 40000 ⟨500, true⟩ 0 3 235547).cls = .stale := by decide

/-- Case 5: words 65,521 apart. -/
theorem test_case5_aliases :
    signature 102804 ⟨1000, false⟩ 0 = 38283 ∧ signature 38307 ⟨1000, false⟩ 0 = 39307 := by decide

/-! ### The worked memory map (Chapter 2) -/

/-- Entry 2 of the worked map: WORK with all four attributes. -/
def work : Descriptor := ⟨.work, 1024, 1024, 900, .up, 1000, ⟨true, true, true, true⟩, some 2048⟩

/-- Entry 5: plain WORK, the marker word's region. -/
def plain : Descriptor := ⟨.work, 3456, 8, 8, .up, 4, ⟨false, false, false, false⟩, none⟩

/-- Entry 3: CYCLIC. -/
def cyclic : Descriptor := ⟨.cyclic, 3072, 256, 256, .up, 500, ⟨false, true, false, true⟩, none⟩

/-- The six descriptors of the worked map. -/
def map : Table :=
  (((((Vector.replicate 16 none).set 0 (some ⟨.code, 0, 512, 384, .up, 101, ⟨false, false, false, true⟩, none⟩)).set 1
    (some ⟨.const, 512, 64, 64, .up, 203, ⟨false, false, true, false⟩, none⟩)).set 2 (some work)).set 3
    (some cyclic)).set 4 (some ⟨.work, 3584, 256, 64, .down, 777, ⟨false, false, false, true⟩, none⟩) |>.set 5 (some plain)

/-- The parameters of the worked map. -/
def params : Params :=
  { Params.defaults with exponent := 19, spareBase := 4088, spareCount := 8, marker := 442368 }

theorem test_map_is_valid : validateTable map params = none := by decide
theorem test_map_layout_tag : layoutTagOf map = 6752 := by decide

/-- The accesses of the worked map, the load period closed. -/
theorem test_map_decodes :
    decodeAccess map false 442368 .wordWrite (0x000100 / 2) = .refused .cls none (some 0) ∧
    decodeAccess map false 442368 .wordWrite (0x01C200 / 2) = .refused .length (some .cls) (some 0) ∧
    decodeAccess map false 442368 .wordRead (0x025800 / 2) = .refused .unmapped none none ∧
    decodeAccess map false 442368 .wordWrite (0x0E7400 / 2) = .refused .length none (some 4) ∧
    decodeAccess map false 442368 .wordRead (0x09C400 / 2) = .refused .unmapped none none := by decide
theorem test_map_marker_word :
    decodeAccess map false 442368 .wordWrite (0x0D8000 / 2) =
      .permitted ⟨5, .work, 4, ⟨false, false, false, false⟩, .up, 3456, 0, none, true⟩ := by decide

/-! ### Formats (Chapter 11) -/

/-- R182: markers and verdict words. -/
theorem test_markers :
    markerKind 0xC312 = .commit ∧ loByte 0xC312 = 18 ∧ markerKind 0x3C12 = .rollback ∧ markerKind 0x5512 = .rollback ∧
    markerFormed 0x5512 = false ∧ verdictWord .committed 19 = 275 ∧ verdictWord .failed 25 = 793 := by decide

/-- R184 and section 7.9: frame checks. -/
theorem test_frame_checks :
    frameCheck TwinFrame.idle.body = 23294 ∧
    frameCheck (TwinFrame.mark ⟨20, 18, .commit, 2983247, 3104⟩).body = 46220 := by decide

/-! ### States for the witnesses -/

/-- The worked map in RUN, region 2's shadow VALID. -/
def running : State :=
  { State.reset with
    rgd := { State.reset.rgd with table := map, layoutTag := 6752, loadOpen := false }
    mli := { State.reset.mli with control := .run, params := params }
    ckc := { State.reset.ckc with ckState := State.reset.ckc.ckState.set 2 .valid } }

/-- A data word stored, coded, at a logical word. -/
def stored (w : Nat) (d : Word) (s : State) : State := s.writeWord w (s.terms w) d

/-- The access a bus cycle becomes, in a phase. -/
def accessIn (ph : Phase) (c : BusCycle) : Access :=
  { op := cycleOp c, word := cycleWord c, phase := ph, withdrawn := false
    record := match decodeAccess map false 442368 (cycleOp c).kind (cycleWord c) with
      | .permitted r => r
      | .refused _ _ _ => ⟨0, .closed, 0, ⟨false, false, false, false⟩, .up, 0, 0, none, false⟩ }

/-- That access current, with this grant. -/
def during (a : Access) (g : Grant) (s : State) : State :=
  { s with hbi := { s.hbi with access := some a }, mpt := { s.mpt with grant := g } }

/-- The engine granted and this kind ACTIVE. -/
def engine (k : EngineKind) (s : State) : State :=
  { s with mpt := { s.mpt with grant := .engine }, txe := { s.txe with active := some k } }

/-- A command frame open on the maintenance link, in a control state. -/
def linked (c : Control) (s : State) : State :=
  { s with mli := { s.mli with control := c, frame := .receiving } }

/-- A bus cycle to word 131,843 of block 1,030 of region 2. -/
def workCycle (x : Transfer) (lock : Bool) : BusCycle := ⟨263686, x, lock⟩

/-- A bus cycle to the second word of block 3,456, beside the marker word. -/
def plainCycle (x : Transfer) : BusCycle := ⟨884738, x, false⟩

/-- A bus cycle to the marker word. -/
def markerCycle (x : Transfer) (lock : Bool) : BusCycle := ⟨884736, x, lock⟩

/-- A state in which the cycle is presented. -/
def presents (c : BusCycle) (s : State) : State := { s with hbi := { s.hbi with presented := some c } }

/-- A marker held in DRAINING. -/
def draining (h : HeldMarker) (mode : TwinMode) : State :=
  let s := during (accessIn .heldMarker (markerCycle (.wordWrite 0xC300) false)) .none running
  { s with
    cau := { s.cau with marker := .draining, held := some h }
    mli := { s.mli with params := { s.mli.params with twinMode := mode } } }

/-- A copy or restore of block 1,030 in hand, at this word, with this FIFO. -/
def moving (m : Move) (offset : Nat) (mode : FifoMode) (fifo : List FifoEntry) (s : State) : State :=
  { s with
    mpt := { s.mpt with grant := .engine }
    ckc := { s.ckc with
      ckState := s.ckc.ckState.set 2 m.inFlight
      pass := match m with
        | .copy => [1030]
        | .restore => []
      restore := match m with
        | .copy => []
        | .restore => [1030] }
    txe := { s.txe with
      priority := some ⟨m, 2, 1030, offset, true⟩, active := some .priorityBlock, fifoMode := mode, fifo := fifo } }

/-- A retire copy of block 1,030 to spare 0 in hand. -/
def retiringAt (offset : Nat) (mode : FifoMode) (fifo : List FifoEntry) (s : State) : State :=
  let s := engine .retire s
  { s with
    txe := { s.txe with retire := some ⟨1030, 2, .working, 0, offset, true⟩, fifoMode := mode, fifo := fifo }
    sru := { s.sru with retireQueue := [1030] } }

/-- A clear of one block in hand, at this word. -/
def clearing (atStart : Bool) (offset : Nat) : State :=
  let s := engine .clear running
  { s with txe := { s.txe with clear := some ⟨atStart, [⟨5, .working, 3457, 1, .up⟩], 0, offset, true⟩ } }

/-- A scrub burst in hand, its cursor on word 131,843. -/
def scrubbing (s : State) : State :=
  let s := engine .scrubBurst s
  { s with txe := { s.txe with scrub := some ⟨8, true⟩ }, sru := { s.sru with cursor := some ⟨2, 1030, 3⟩ } }

/-! ### Witnesses: the protected word and the whole machine -/

/-- Bits 31 and 0 of plane Q, and another value of plane P. -/
theorem witness_DamageInOnePlane :
    (8 : Word) ≠ 7 ∧
    (checkPair true 5 ⟨1, false⟩ 0 8 (encode 7 6)).cls = .pRepair ∧
    (checkPair true 5 ⟨1, false⟩ 0 7 (encode 7 6 ^^^ BitVec.twoPow 32 31)).distance = some 1 ∧
    (checkPair true 5 ⟨1, true⟩ 0 7 (encode 7 6 ^^^ BitVec.twoPow 32 31)).cls = .uncorrectable ∧
    (checkPair true 5 ⟨1, false⟩ 0 7 (encode 7 6 ^^^ BitVec.twoPow 32 31 ^^^ BitVec.twoPow 32 0)).distance = some 2 ∧
    (checkPair true 5 ⟨1, true⟩ 0 7 (encode 7 6 ^^^ BitVec.twoPow 32 31 ^^^ BitVec.twoPow 32 0)).cls =
      .uncorrectable := by decide
theorem witness_WrongLocationIsSeen :
    22 < 23 ∧ (4194305 = 1 + 2 ^ 22 ∨ 1 = 4194305 + 2 ^ 22) ∧
    (checkPair true 1 ⟨0, false⟩ 0 0 (encode 9 (signature 4194305 ⟨0, false⟩ 0))).qFinding = .wrongRemainder := by decide
theorem witness_StepRunsFrontCommand : State.reset.pending = [] := rfl
/-- For QueueUntouched, ControlStateChanges and EpochCountsVerdicts: a command that goes on. -/
theorem witness_QueueUntouched : ∃ t, exec .hold (linked .run running) = .next t := ⟨_, rfl⟩
/-- A command that makes no group, and a read beyond a memory of 2^16 words. -/
theorem witness_OnlyGroupsTouchMemory :
    isGroup .hold = false ∧ (∃ t, exec .hold (linked .run running) = .next t) ∧
    let a := accessIn .atPort (workCycle .wordRead false)
    let s := during a .processor { running with mli := { running.mli with params := Params.defaults } }
    s.hbi.access = some a ∧ a.phase = .atPort ∧ s.mpt.grant = .processor ∧ a.op.isRead = true ∧
      s.memWords ≤ s.physWord a.word := ⟨rfl, ⟨_, rfl⟩, by decide⟩
/-- For the three invariants: a state that meets them takes a step. -/
theorem witness_PlanesStayCanonical :
    let s := { stored 131843 4660 running with pending := [.hold] }
    s.canonical ∧ ∃ t, step s = .next t := by
  refine ⟨?_, _, rfl⟩
  unfold State.canonical; decide
theorem witness_VitalEnableStaysLegal :
    let s := { running with fau := { running.fau with ven := true }, pending := [.hold] }
    s.vitalLegal ∧ ∃ t, step s = .next t := by
  refine ⟨?_, _, rfl⟩
  unfold State.vitalLegal; decide
/-- A machine in service: a full retire queue, a receive frame one unit short, a remap entry of each kind, a retire copy, a pass. -/
def inService : State :=
  { running with
    sru := { running.sru with retireQueue := [1030, 1031, 1032, 1033], remap := [⟨1030, 0, false⟩, ⟨1030, 7, true⟩] }
    ckc := { running.ckc with ckState := running.ckc.ckState.set 2 .copying, dirty := [1025], pass := [1024, 1026] }
    txe := { running.txe with
      retire := some ⟨1031, 2, .working, 6, 128, false⟩, checkpointPass := some ⟨some ⟨2, 1024, 128⟩, false, true⟩ }
    twl := { running.twl with rx := some [⟨true, 0xA501, true⟩] }
    pending := [.hold] }
theorem witness_CapacitiesKept :
    inService.withinCapacity ∧ inService.remapSound ∧ inService.tableSound ∧ ∃ t, step inService = .next t := by
  refine ⟨?_, ?_, ?_, _, rfl⟩
  · unfold State.withinCapacity; decide
  · unfold State.remapSound; decide
  · unfold State.tableSound Descriptor.inRange Rgd.stagedInRange Params.inRange; decide
/-- A marker held in DRAINING, and a verdict word due. -/
theorem witness_CapacitiesKept_marker :
    let s := { draining ⟨.commit, 0⟩ .single with pending := [.hold] }
    let u := { s with cau := { s.cau with held := none, verdictDue := true } }
    s.markerSound ∧ s.cau.held ≠ none ∧ u.markerSound ∧ u.cau.verdictDue = true ∧ ∃ t, step s = .next t :=
  ⟨⟨fun _ => ⟨_, rfl, rfl⟩, fun h => nomatch h⟩, by decide, ⟨fun _ => ⟨_, rfl, rfl⟩, fun _ => ⟨rfl, rfl⟩⟩, rfl, _, rfl⟩
theorem witness_CapacitiesKept_sets : inService.setsSound := by
  refine ⟨by unfold State.setsBound State.inRegion; decide, ⟨by decide, fun m => ?_, fun m => ?_⟩,
    by unfold State.setsQuiet; decide⟩ <;> cases m <;> decide
/-- The START clear's last word, in INIT; HRESET in reset, in CONFIG and in RUN. -/
theorem witness_ControlStateChanges :
    let s := { clearing true 127 with mli := { (clearing true 127).mli with control := .init } }
    (∀ o ∈ s.txe.clear, o.atStart = true → s.mli.control = .init) ∧
    (State.powerOnValue true [] [] 0 []).inReset = true ∧ State.reset.mli.control = .config ∧
    running.inReset = false ∧ running.mli.control = .run ∧ (∃ t, exec .clearWrite s = .next t) :=
  ⟨by decide, rfl, rfl, rfl, rfl, _, rfl⟩
theorem witness_HeldInReset : Instr.start ≠ .internalResetEnd := by decide
/-- In reset; with the port idle; and with a group in hand. -/
theorem witness_PowerAndResetCommands :
    (State.powerOnValue true [] [] 0 []).inReset = true ∧ running.mpt.grant = .none ∧
    (during (accessIn .atPort (workCycle .wordRead false)) .processor running).mpt.grant = .processor ∧
    (scrubbing running).mpt.grant = .engine := by decide

/-! ### Witnesses: the processor bus -/

theorem witness_AccessPresentedAndWithdrawn :
    let gone := { accessIn .atPort (workCycle .wordRead false) with withdrawn := true }
    let opened := during (accessIn .lockedOpen (workCycle .wordRead true)) .locked running
    running.hreset = false ∧ running.hbi.presented = none ∧ running.hbi.access = none ∧
    gone.withdrawn = true ∧ gone.phase ≠ .lockedOpen ∧
    (accessIn .atPort (workCycle .wordRead false)).phase ≠ .lockedOpen ∧
    opened.hreset = false ∧ opened.hbi.presented = none ∧
    (accessIn .lockedOpen (workCycle .wordRead true)).phase = .lockedOpen ∧
    (workCycle (.wordWrite 5) true).addr.toNat / 2 = (accessIn .lockedOpen (workCycle .wordRead true)).word ∧
    (workCycle (.wordWrite 5) false).lock = false := by decide
theorem witness_LockedOpenCycles :
    let a := accessIn .lockedOpen (workCycle .wordRead true)
    let s := during a .locked running
    s.hbi.access = some a ∧ a.phase = .lockedOpen ∧ s.hreset = false ∧ s.hbi.presented = none ∧
    (workCycle (.byteWrite .lower 5) true).addr.toNat / 2 = a.word ∧
    ¬((workCycle .wordRead true).lock = true ∧ (workCycle .wordRead true).addr.toNat / 2 = a.word ∧
      (workCycle .wordRead true).transfer.isWrite = true) := by decide
theorem witness_TakeAccessRefused :
    (presents ⟨0x000100, .wordWrite 1, false⟩ running).takes ⟨0x000100, .wordWrite 1, false⟩ (.refused .cls none (some 0)) ∧
    ∃ d, (presents (markerCycle .wordRead true) running).takes (markerCycle .wordRead true) (.permitted d) ∧
      d.marker = true ∧ (cycleOp (markerCycle .wordRead true)).kind = .locked := by
  refine ⟨by unfold State.takes; decide, ⟨5, .work, 4, ⟨false, false, false, false⟩, .up, 3456, 0, none, true⟩, ?_⟩
  unfold State.takes; decide
/-- The decode record of word 131,843. -/
def workRecord : DecodeRecord := ⟨2, .work, 1000, ⟨true, true, true, true⟩, .up, 1030, 3, some 2054, false⟩
theorem witness_TakeAccessToPort :
    (presents (workCycle (.wordWrite 7) false) running).takes (workCycle (.wordWrite 7) false) (.permitted workRecord) ∧
    workRecord.block ∉ running.ckc.restore ∧ workRecord.block ∉ running.ckc.pass ∧
    running.retiring workRecord.block = false ∧ workRecord.marker = false ∧ running.mpt.grant = .none ∧
    running.txe.active = none ∧ running.txe.highest = none := by
  refine ⟨by unfold State.takes; decide, by decide⟩
/-- A write held for a copy, an access held for a restore, and a write held for a retire copy. -/
theorem witness_TakeAccessHeld :
    let c := workCycle (.wordWrite 7) false
    let copying := { running with ckc := { running.ckc with pass := [1030] } }
    let restoring := { running with ckc := { running.ckc with restore := [1030] } }
    let retired := { running with txe := { running.txe with retire := some ⟨1030, 2, .working, 0, 0, false⟩ } }
    (presents c copying).takes c (.permitted workRecord) ∧ 1030 ∈ copying.ckc.pass ∧
    (presents c restoring).takes c (.permitted workRecord) ∧ 1030 ∈ restoring.ckc.restore ∧
    (presents c retired).takes c (.permitted workRecord) ∧ retired.retiring 1030 = true ∧
    (cycleOp c).kind.writes = true ∧ copying.passIsOn .copy 1030 = false ∧ copying.txe.priority = none := by
  unfold State.takes; decide
theorem witness_MarkerTaken :
    ∀ x ∈ [Transfer.wordWrite 0xC312, .wordWrite 0x5512, .byteWrite .upper 5],
      (presents (markerCycle x false) running).takes (markerCycle x false)
        (.permitted ⟨5, .work, 4, ⟨false, false, false, false⟩, .up, 3456, 0, none, true⟩) ∧
      running.retiring 3456 = false := by
  unfold State.takes; decide

/-! ### Witnesses: the processor's groups -/

/-- An access at the port, its word good: present, or bad: never written. -/
def portState (c : BusCycle) (g : Grant) (good : Bool) : State :=
  during (accessIn .atPort c) g (if good then stored 131843 4660 running else running)

theorem witness_ReadGroup : ∀ good : Bool,
    let s := portState (workCycle .wordRead false) .processor good
    s.canonical ∧ s.portFor (accessIn .atPort (workCycle .wordRead false)) .processor ∧
    (s.check true 131843 ⟨1000, false⟩).data = if good then some 4660 else none := by
  unfold State.canonical State.portFor; decide
theorem witness_PlainWriteGroup :
    let a := accessIn .atPort (plainCycle (.wordWrite 7))
    let s := during a .processor running
    s.canonical ∧ s.portFor a .processor ∧ a.op = .wordWrite 7 ∧ a.record.attrs.agreed = false := by
  unfold State.canonical State.portFor; decide
theorem witness_AgreedWriteGroup : ∀ good : Bool,
    let a := accessIn .atPort (workCycle (.wordWrite 7) false)
    let s := portState (workCycle (.wordWrite 7) false) .processor good
    s.canonical ∧ s.portFor a .processor ∧ a.op = .wordWrite 7 ∧ a.record.attrs.agreed = true ∧
    (s.check true a.word a.terms).cls = if good then .clean else .uncorrectable := by
  unfold State.canonical State.portFor; decide
theorem witness_ByteWriteGroup : ∀ good : Bool,
    let a := accessIn .atPort (workCycle (.byteWrite .upper 171) false)
    let s := portState (workCycle (.byteWrite .upper 171) false) .processor good
    s.canonical ∧ s.portFor a .processor ∧ a.op = .byteWrite .upper 171 ∧
    (s.check true a.word a.terms).data = (if good then some 4660 else none) ∧
    (43828 : Word).toNat = 256 * (171 : BitVec 8).toNat + (4660 : Word).toNat % 256 := by
  unfold State.canonical State.portFor; decide
theorem witness_LockedReadHalf : ∀ good : Bool,
    let a := accessIn .atPort (workCycle .wordRead true)
    let s := portState (workCycle .wordRead true) .locked good
    s.canonical ∧ s.portFor a .locked ∧ a.op = .locked none ∧ a.withdrawn = false ∧
    (s.check true a.word a.terms).data = if good then some 4660 else none := by
  unfold State.canonical State.portFor; decide
theorem witness_LockedWriteHalf :
    let a := { accessIn .atPort (workCycle .wordRead true) with op := .locked (some (.byte .upper 171)) }
    let s := { during a .locked (stored 131843 4660 running) with cdu := { latch := some ⟨.clean, some 4660⟩ } }
    s.canonical ∧ s.portFor a .locked ∧ a.op = .locked (some (.byte .upper 171)) ∧
    s.cdu.latch = some ⟨.clean, some 4660⟩ ∧
    (43828 : Word).toNat = 256 * (171 : BitVec 8).toNat + (4660 : Word).toNat % 256 := by
  unfold State.canonical State.portFor; decide
/-- A word not in the history, and one in it with room, none, and its block already in the retire queue. -/
theorem witness_RepairReported :
    let known := { running with sru := { running.sru with history := [⟨131843, .p⟩] } }
    let full := { known with sru := { known.sru with retireQueue := [1, 2, 3, 4] } }
    (∀ i, running.fau.counters.get i ≤ 65535) ∧ (∀ e ∈ running.sru.history, e.word ≠ 131843) ∧
    (∃ e ∈ known.sru.history, e.word = 131843) ∧ 131843 / 128 ∉ known.sru.retireQueue ∧
    known.sru.retireQueue.length < 4 ∧ full.sru.retireQueue.length = 4 ∧ full.fau.queue.length < 16 := by decide
/-- No other CHECKPOINT region of the map authorises block 1,030. -/
theorem map_checkpointed_once : ∀ r, ∀ d ∈ map.get r, d.attrs.checkpoint = true → d.authorised 1030 = true → r = 2 := by
  decide
theorem witness_DirtyMapMarked :
    map.get 2 = some work ∧ work.attrs.checkpoint = true ∧ work.authorised 1030 = true ∧
    (∀ r d, map.get r = some d → d.attrs.checkpoint = true → d.authorised 1030 = true → r = 2) ∧
    State.reset.ckc.ckState.get 2 = .none ∧ running.ckc.ckState.get 2 ≠ .none ∧
    (∀ b ∈ [1924, 3456], ∀ r, ∀ d ∈ map.get r, d.attrs.checkpoint = true → d.authorised b = false) :=
  ⟨by decide, by decide, by decide, map_checkpointed_once, by decide, by decide, by decide⟩

/-! ### Witnesses: the Transfer Engine -/

/-- A copy and a restore, each with its word good and bad, at the first word of a block and at the last of a chunk. -/
theorem witness_BlockMoveReads : ∀ good : Bool,
    let s := if good then stored 131843 4660 running else running
    let c := moving .copy 3 .filling [⟨7, 2, 0⟩] s
    let r := moving .restore 0 .empty [] (if good then stored 262912 9 running else running)
    c.canonical ∧ r.canonical ∧ c.txe.fifoMode ≠ .draining ∧ r.txe.fifoMode ≠ .draining ∧
    c.physWord (1030 * 128 + 3) < c.memWords ∧ r.physWord (2054 * 128 + 0) < r.memWords ∧
    (c.check true (1030 * 128 + 3) (c.terms (1030 * 128 + 3))).data = (if good then some 4660 else none) ∧
    (r.check true (2054 * 128 + 0) (r.terms (2054 * 128 + 0))).data = (if good then some 9 else none) ∧
    c.ckc.ckState.get 2 = .copying ∧ r.ckc.ckState.get 2 = .restoring := by
  unfold State.canonical; decide
theorem witness_moves :
    (moving .copy 3 .filling [] running).moves .copy ⟨2, 1030, 3⟩ work 1030 2054 ∧
    (moving .restore 128 .draining [⟨7, 127, 0⟩] running).moves .restore ⟨2, 1030, 128⟩ work 2054 1030 := by
  refine ⟨⟨by decide, by decide, by decide, 2048, by decide, ?_, ?_⟩, by decide, by decide, by decide, 2048, by decide,
    ?_, ?_⟩ <;> intro h <;> first | (exact ⟨rfl, rfl⟩) | (exact absurd h (by decide))
/-- Mid-chunk, at the end of a chunk, and (BlockMoved) at the end of a block, with an access held for it. -/
theorem witness_BlockMoveWrites :
    let s := moving .copy 32 .draining [⟨7, 30, 0⟩, ⟨8, 31, 0⟩] running
    s.canonical ∧ s.txe.fifo = ⟨7, 30, 0⟩ :: [⟨8, 31, 0⟩] ∧ s.physWord (2054 * 128 + 31) < s.memWords ∧ 32 < 128 ∧
    s.txe.highest = some .priorityBlock ∧ s.goesOn .priorityBlock := by
  refine ⟨by unfold State.canonical; decide, by decide, by decide, by decide, by decide, fun m h => ?_⟩
  cases m <;> exact nomatch h
/-- A checkpoint pass on block 1,030, S = `bs`, the last word of the block in the FIFO. -/
def passing (bs : List Nat) : State :=
  let s := moving .copy 128 .draining [⟨8, 127, 0⟩] running
  { s with
    ckc := { s.ckc with pass := bs }
    txe := { s.txe with
      priority := none, active := some .checkpointPass, checkpointPass := some ⟨some ⟨2, 1030, 128⟩, false, true⟩ } }
theorem witness_BlockMoved :
    let a := accessIn .heldBlock (workCycle (.wordWrite 7) false)
    let s := during a .engine (moving .copy 128 .draining [⟨8, 127, 0⟩] running)
    s.canonical ∧ s.physWord (2054 * 128 + 127) < s.memWords ∧ s.ckc.ckState.get 2 = Move.copy.inFlight ∧
    1030 ∈ s.ckc.setOf .copy ∧ a.record.block = 1030 ∧ a.phase = .heldBlock ∧ s.txe.active = some .priorityBlock ∧
    s.heldIsPlain .heldBlock (fun x => x.record.block = 1030) := by
  refine ⟨by unfold State.canonical; decide, by decide, by decide, by decide, by decide, by decide, by decide, ?_⟩
  intro x hx _ _
  obtain rfl : accessIn .heldBlock (workCycle (.wordWrite 7) false) = x := Option.some.inj hx
  decide
/-- A pass with a next block and one without, and no access held. -/
theorem witness_BlockMoved_pass :
    let s := passing [1030, 1031]
    s.movePos .copy = some ⟨2, 1030, 128⟩ ∧ s.txe.active = some Move.copy.passKind ∧ 1030 ∈ s.ckc.setOf .copy ∧
    (s.ckc.setOf .copy).Pairwise (· < ·) ∧ (∃ x ∈ s.ckc.setOf .copy, work.authorised x = true ∧ x ≠ 1030) ∧
    s.passCandidate { s.ckc with pass := [1031] } .copy 2 1031 ∧
    (∀ x ∈ (passing [1030]).ckc.setOf .copy, work.authorised x = true → x = 1030) ∧
    (∀ r b, ¬(passing [1030]).passCandidate { s.ckc with pass := [] } .copy r b) := by
  refine ⟨by decide, by decide, by decide, by decide, by decide, ⟨by decide, by decide, by decide, by decide⟩, by decide,
    fun r b h => absurd h.2.2.1 List.not_mem_nil⟩
/-- The end of a chunk of a pass that goes on, with a retire copy waiting, and of one whose place is to be discarded. -/
theorem witness_BlockMoveWrites_pass : ∀ stale : Bool,
    let s := moving .copy 32 .draining [⟨8, 31, 0⟩] running
    let u := { s with txe := { s.txe with
      priority := none, active := some Move.copy.passKind, retire := some ⟨1031, 2, .working, 0, 0, false⟩
      checkpointPass := some ⟨some ⟨2, 1030, 32⟩, stale, true⟩ } }
    u.movePos .copy = some ⟨2, 1030, 32⟩ ∧ u.txe.active = some Move.copy.passKind ∧
    u.txe.highest = some Move.copy.passKind ∧ (u.goesOn Move.copy.passKind ↔ stale = false) ∧
    (u.ckc.setOf .copy).Pairwise (· < ·) := by
  refine fun stale => ⟨rfl, rfl, rfl, ⟨fun h => ?_, fun h m hm => ?_⟩, List.pairwise_singleton _ _⟩
  · obtain ⟨o, p, ho, -, h⟩ := h .copy rfl
    cases ho; exact h
  · cases m
    · exact ⟨_, _, rfl, rfl, h⟩
    · exact nomatch hm
theorem witness_BlockMoveFails :
    let a := accessIn .heldBlock (workCycle (.wordWrite 7) false)
    let s := during a .engine (moving .copy 3 .filling [⟨7, 2, 0⟩] running)
    (s.check true (1030 * 128 + 3) (s.terms (1030 * 128 + 3))).data = none ∧ work.attrs.checkpoint = true ∧
    work.authorised 1030 = true ∧
    (∀ r d, map.get r = some d → d.attrs.checkpoint = true → d.authorised 1030 = true → r = 2) ∧
    s.heldIsPlain .heldBlock (fun x => x.record.region = 2) := by
  refine ⟨by decide, by decide, by decide, map_checkpointed_once, ?_⟩
  intro x hx _ _
  obtain rfl : accessIn .heldBlock (workCycle (.wordWrite 7) false) = x := Option.some.inj hx
  decide
/-- A good word read, a word written mid-chunk, and the last word of a chunk: the retire copy alone, and below a pass in hand. -/
theorem witness_RetireCopies :
    let s := retiringAt 3 .filling [⟨7, 2, 0⟩] (stored 131843 4660 running)
    let u := retiringAt 32 .draining [⟨7, 30, 0⟩, ⟨8, 31, 0⟩] running
    s.canonical ∧ s.engineOn .retire ∧ s.txe.fifoMode ≠ .draining ∧ s.physWord (1030 * 128 + 3) < s.memWords ∧
    (s.check true (1030 * 128 + 3) (s.terms (1030 * 128 + 3))).data = some 4660 ∧
    u.canonical ∧ u.engineOn .retire ∧ (u.mli.params.spareBase + 0) * 128 + 30 < u.memWords ∧
    let v := retiringAt 32 .draining [⟨8, 31, 0⟩] running
    let p := { v with txe := { v.txe with checkpointPass := some ⟨some ⟨2, 1031, 0⟩, false, false⟩ } }
    v.canonical ∧ v.engineOn .retire ∧ 32 < 128 ∧ v.txe.highest = some .retire ∧ EngineKind.retire ≠ Move.copy.passKind ∧
    EngineKind.retire ≠ Move.restore.passKind ∧ p.txe.highest = some Move.copy.passKind ∧
    p.txe.passSlot .copy = some ⟨some ⟨2, 1031, 0⟩, false, false⟩ := by
  unfold State.canonical State.engineOn; decide
/-- A retire copy whose last word is written, with a write held for it. -/
theorem witness_RetireCompletes :
    let a := accessIn .heldRetire (workCycle (.wordWrite 7) false)
    let s := during a .engine (retiringAt 128 .draining [⟨8, 127, 0⟩] running)
    s.canonical ∧ s.engineOn .retire ∧ (s.mli.params.spareBase + 0) * 128 + 127 < s.memWords ∧
    s.hbi.access = some a ∧ a.record.block = 1030 ∧ a.record.marker = false := by
  unfold State.canonical State.engineOn; decide
/-- A retire copy whose word is bad, with a write held for it. -/
theorem witness_RetireFails :
    let a := accessIn .heldRetire (workCycle (.wordWrite 7) false)
    let s := during a .engine (retiringAt 3 .filling [⟨7, 2, 0⟩] running)
    s.engineOn .retire ∧ s.txe.fifoMode ≠ .draining ∧
    (s.check true (1030 * 128 + 3) (s.terms (1030 * 128 + 3))).data = none ∧
    s.hbi.access = some a ∧ a.phase ≠ .heldBlock ∧ a.record.block = 1030 ∧ a.record.marker = false := by
  unfold State.engineOn; decide
/-- A retire copy whose word is bad, with a verdict at hand: SINGLE, and PAIRED with the link DOWN; and PAIRED with it UP, none. -/
theorem witness_RetireFails_atHand : ∀ mode ∈ [TwinMode.single, .paired],
    let s := retiringAt 3 .filling [⟨7, 2, 0⟩] (draining ⟨.commit, 0⟩ mode)
    let u := { s with twl := { s.twl with linkUp := true } }
    s.engineOn .retire ∧ s.txe.fifoMode ≠ .draining ∧ s.verdictAtHand = true ∧
    (s.check true (1030 * 128 + 3) (s.terms (1030 * 128 + 3))).data = none ∧ checkpointed s.rgd.table 1030 = true ∧
    u.verdictAtHand = (mode == .single) := by
  unfold State.engineOn; decide
/-- R104, R121: the mark of a retire copy that fails with the verdict at hand rolls the cycle back, its block is restored, and it taints
the epoch the verdict opens. -/
theorem test_retire_failure_meets_the_verdict :
    let s := (retiringAt 3 .filling [⟨7, 2, 0⟩] (draining ⟨.commit, 0⟩ .single)).retireRead ⟨1030, 2, .working, 0, 3, true⟩
    let t := s.fixKind ⟨.commit, 0⟩
    s.ckc.dirty = [1030] ∧ s.cau.taint = { TaintSet.empty with suspectBlock := true } ∧ t.cau.lastVerdict = .rolledBack ∧
    t.ckc.restore = [1030] ∧ t.cau.taint = { TaintSet.empty with suspectBlock := true } ∧ t.cau.carry = TaintSet.empty := by decide
/-- A marker write held for a retire copy of the marker block that completes, and for one that fails: a formed marker, an ill-formed
one, and a byte write. -/
theorem witness_RetireCompletes_marker : ∀ x ∈ [Transfer.wordWrite 0xC312, .wordWrite 0x5512, .byteWrite .upper 5],
    let a := accessIn .heldRetire (markerCycle x false)
    let r (offset : Nat) : RetireOp := ⟨3456, 5, .working, 0, offset, true⟩
    let s := during a .engine (retiringAt 128 .draining [⟨8, 127, 0⟩] running)
    let u := during a .engine (retiringAt 3 .filling [⟨7, 2, 0⟩] running)
    let done := { s with txe := { s.txe with retire := some (r 128) } }
    let fails := { u with txe := { u.txe with retire := some (r 3) } }
    a.record.marker = true ∧ a.record.block = 3456 ∧ a.phase = .heldRetire ∧ done.canonical ∧ done.engineOn .retire ∧
    fails.engineOn .retire ∧ (fails.check true (3456 * 128 + 3) (fails.terms (3456 * 128 + 3))).data = none ∧
    (cycleOp (markerCycle x false) = .wordWrite 0xC312 ∧ (0xC312 : Word).toNat / 256 = 195 ∨
      cycleOp (markerCycle x false) = .wordWrite 0x5512 ∧ (0x5512 : Word).toNat / 256 = 85 ∨
      cycleOp (markerCycle x false) = .byteWrite .upper 5) := by
  unfold State.canonical State.engineOn; decide
/-- A shadow block of a COPYING and of a RESTORING region, with an access held for the pass. -/
theorem witness_RetireFails_shadow : ∀ x ∈ [CkState.copying, .restoring],
    let s := during (accessIn .heldBlock (workCycle (.wordWrite 7) false)) .engine (retiringAt 3 .empty [] running)
    let u := { s with
      txe := { s.txe with retire := some ⟨2054, 2, .shadow, 0, 3, true⟩ }
      ckc := { s.ckc with ckState := s.ckc.ckState.set 2 x } }
    u.engineOn .retire ∧ u.ckc.ckState.get 2 = x ∧ u.physWord (2054 * 128 + 3) < u.memWords ∧
    (u.check true (2054 * 128 + 3) (u.terms (2054 * 128 + 3))).data = none ∧
    ∀ a ∈ u.hbi.access, a.phase = .heldBlock ∧ a.record.region = 2 ∧ a.record.marker = false := by
  unfold State.engineOn; decide
/-- A word inside the block, and the last word of the last block. -/
theorem witness_ClearWrites : ∀ start : Bool, ∀ offset ∈ [5, 127],
    (clearing start offset).canonical ∧ (clearing start offset).engineOn .clear ∧
    (clearing start offset).physWord (3457 * 128 + offset) < (clearing start offset).memWords ∧
    1 ≤ 0 + 1 ∧ 127 + 1 = 128 := by
  unfold State.canonical State.engineOn; decide
/-- A word of a dirty block, an UNCORRECTABLE word, and the cursor at NONE. -/
theorem witness_ScrubWordCheck :
    let s := scrubbing { stored 131843 4660 running with ckc := { running.ckc with dirty := [1030] } }
    s.canonical ∧ s.engineOn .scrubBurst ∧ s.physWord (1030 * 128 + 3) < s.memWords ∧
    (s.check true (1030 * 128 + 3) (s.terms (1030 * 128 + 3))).data = some 4660 ∧ 1030 ∈ s.ckc.dirty ∧
    ((scrubbing running).check true (1030 * 128 + 3) ((scrubbing running).terms (1030 * 128 + 3))).cls =
      .uncorrectable ∧
    (engine .scrubBurst running).engineOn .scrubBurst ∧ (engine .scrubBurst running).sru.cursor = none := by
  unfold State.canonical State.engineOn; decide
/-- The entries of the map that are scrubbed are 1 and 2: from 0, 3 and 16 on the first is 1, from 2 on it is 2. -/
theorem witness_ScrubWordCheck_order :
    (∀ n ∈ [0, 1, 3, 16], ∀ r, ∀ d ∈ map.get r, d.attrs.scrub = true → (1 + 16 - n) % 16 ≤ (r.val + 16 - n) % 16) ∧
    (∀ r, ∀ d ∈ map.get r, d.attrs.scrub = true → (2 + 16 - 2) % 16 ≤ (r.val + 16 - 2) % 16) ∧
    (∀ r, ∀ d ∈ State.reset.rgd.table.get r, d.attrs.scrub = false) := by decide
/-- The boundary words of an UP and of a DOWN region, and a cursor inside and just past the authorised blocks. -/
theorem witness_ScrubWordCheck_cursor :
    let down : Descriptor := ⟨.work, 3584, 256, 64, .down, 777, ⟨false, false, true, false⟩, none⟩
    126 < 127 ∧ work.dir = .up ∧ 1922 < work.base + work.len - 1 ∧ 1923 = work.base + work.len - 1 ∧
    work.authorised 1923 = true ∧ down.dir = .down ∧ down.base + down.span - down.len < 3777 ∧
    3776 = down.base + down.span - down.len ∧ down.authorised 3776 = true ∧ down.authorised 3777 = true ∧
    (∃ d ∈ map.get 2, d.attrs.scrub = true ∧ d.authorised 1923 = true) ∧
    (∀ d ∈ map.get 2, d.attrs.scrub = false ∨ d.authorised 1924 = false) := by decide
/-- A shadow equal, unequal, and unreadable. -/
theorem witness_ScrubAudit :
    let good := stored 131843 4660 running
    let equal := scrubbing (stored 262915 4660 good)
    equal.canonical ∧ equal.engineOn .scrubBurst ∧ map.get 2 = some work ∧ equal.ckc.ckState.get 2 = .valid ∧
    1030 ∉ equal.ckc.dirty ∧ 1030 ∉ equal.ckc.pass ∧ 262915 = (2048 + (1030 - work.base)) * 128 + 3 ∧
    equal.physWord 262915 < equal.memWords ∧ (equal.check true 131843 (equal.terms 131843)).cls = .clean ∧
    (equal.check true 262915 (equal.terms 262915)).data = some 4660 ∧
    ((scrubbing (stored 262915 5 good)).check true 262915 (equal.terms 262915)).data = some 5 ∧
    ((scrubbing good).check true 262915 (equal.terms 262915)).data = none := by
  unfold State.canonical State.engineOn; decide
/-- A working word repaired in plane P, in a COPYING region with an access held for it, and its shadow unreadable. -/
theorem witness_ScrubAudit_copying :
    let s := { stored 131843 4660 running with planeP := (stored 131843 4661 running).planeP }
    let u := during (accessIn .heldBlock (workCycle (.wordWrite 7) false)) .engine (scrubbing
      { s with ckc := { s.ckc with ckState := s.ckc.ckState.set 2 .copying, pass := [1031] } })
    u.canonical ∧ u.engineOn .scrubBurst ∧ u.ckc.ckState.get 2 = .copying ∧ 1030 ∉ u.ckc.pass ∧
    (u.check true 131843 (u.terms 131843)).cls = .pRepair ∧ (u.check true 262915 (u.terms 262915)).data = none ∧
    (∀ a ∈ u.hbi.access, a.record.region = 2 ∧ u.retiring a.record.block = false ∧ a.record.marker = false) := by
  unfold State.canonical State.engineOn; decide
theorem witness_DiagnosticReads :
    let s := engine .readWord running
    let u := { s with txe := { s.txe with readWord := some ⟨131843, true⟩ } }
    (linked .run running).listens ∧ (linked .run running).mli.readResult ≠ .pending ∧
    (524287 : BitVec 32).toNat < running.memWords ∧ running.memWords ≤ (524288 : BitVec 32).toNat ∧
    u.engineOn .readWord ∧ u.txe.readWord.map (·.word) = some 131843 ∧ u.physWord 131843 < u.memWords := by
  unfold State.listens State.engineOn; decide

/-- R58: the access of a group carried through at REINIT ends without an end on the bus; its write stays. -/
theorem test_carried_access_has_no_end :
    let s := portState (workCycle (.wordWrite 7) false) .processor true
    s.carryThrough.hbi = { access := none, presented := none, busEnd := none } ∧
    readPlaneP s.carryThrough.planeP 131843 = 7 := by decide
/-- R80, R177: the last write of the START clear carried through makes no clear-done report. -/
theorem test_carried_clear_makes_no_report :
    (clearing true 127).carryThrough.fau = running.fau ∧ (clearing true 127).carryThrough.mli = running.mli ∧
    readPlaneP (clearing true 127).carryThrough.planeP (3457 * 128 + 127) = 0 := by decide
/-- R80: a copy's word that cannot be read is not reported. -/
theorem test_carried_copy_failure_is_not_reported :
    (moving .copy 3 .empty [] running).carryThrough.fau = running.fau := by decide
/-- R58, R80: the group a REINIT carries through, where it is the processor's and where it is the engine's. -/
theorem witness_ControlCommands_carried :
    (portState (workCycle .wordRead false) .processor true).hbi.access.bind (·.group) = some .procReadGroup ∧
    (moving .copy 3 .empty [] running).engineCommand = some .copyWordRead ∧
    (scrubbing running).engineCommand = some .scrubWordCheck := by decide

/-! ### Witnesses: scheduling, cycle and agreement -/

/-- A head with a free spare, with none, and of a block no longer owned: working, shadow, none; a pass in flight. -/
theorem witness_RetireTaken :
    let s := { running with sru := { running.sru with retireQueue := [1030], remap := [⟨9, 0, true⟩] } }
    let none8 := (List.range 8).map fun i => (⟨100 + i, i, true⟩ : RemapEntry)
    s.txe.retire = none ∧ 1 < s.mli.params.spareCount ∧ (∀ e ∈ s.sru.remap, e.spare ≠ 1) ∧
    (∀ j < 1, ∃ e ∈ s.sru.remap, e.spare = j) ∧ (∀ i < 8, ∃ e ∈ none8, e.spare = i) ∧
    running.sru.retireQueue = [] := by decide
theorem witness_RetireTaken_owner :
    work.authorised 1030 = true ∧ (∀ r, ∀ d ∈ map.get r, d.authorised 1030 = true → r = 2) ∧
    work.shadow = some 2048 ∧ work.authorised (work.base + (2947 - 2048)) = true ∧
    (∀ r, ∀ d ∈ map.get r, d.authorised 2947 = false ∧ (d.inShadow 2947 = true → r = 2)) ∧
    (∀ r, ∀ d ∈ map.get r, d.authorised 2948 = false ∧
      ∀ sb ∈ d.shadow, sb ≤ 2948 → 2948 < sb + d.span → d.authorised (d.base + (2948 - sb)) = false) := by decide
theorem owner_1030 : ownerOf map 1030 = some (2, .working) := by decide
theorem witness_RetireTaken_head :
    running.headFree 1030 ∧
    ¬{ running with ckc := { running.ckc with ckState := running.ckc.ckState.set 2 .copying } }.headFree 1030 ∧
    ¬(during (accessIn .atPort (workCycle (.wordWrite 7) false)) .processor running).headFree 1030 := by
  refine ⟨⟨?_, fun a h => nomatch h⟩, fun h => ?_, fun h => ?_⟩
  · rintro r part d wb h1 - rfl
    obtain ⟨rfl, rfl⟩ := Prod.mk.inj (Option.some.inj (owner_1030.symm.trans h1))
    exact ⟨by decide, by decide, (by decide : 1030 ∉ running.ckc.pass), (by decide : 1030 ∉ running.ckc.restore)⟩
  · exact (h.1 2 .working work 1030 owner_1030 (by decide) rfl).1 (by decide)
  · exact absurd (h.2 _ rfl (by decide) (.inl (by decide))) (by decide)
theorem witness_TimersExpire :
    let s := { running with sru := { running.sru with scrubTimer := some 100 }
                            cau := { running.cau with deadlineTimer := some 5 } }
    s.sru.scrubTimer ≠ none ∧ s.mli.control = .run ∧ s.cau.marker = .opened ∧ s.txe.scrub = none ∧
    s.cau.deadlineTimer ≠ none ∧ running.cau.deadlineTimer = none := by decide
theorem witness_VerdictTable :
    (⟨20, 18, .commit, 1, 1⟩ : Mark).n ≠ 19 ∧ (⟨20, 18, .commit, 1, 1⟩ : Mark).n = 18 := by decide
/-- No block of the map is authorised twice: the windows of its entries do not meet. -/
theorem map_disjoint :
    ∀ r r' : Region, ∀ d ∈ map.get r, ∀ d' ∈ map.get r', r = r' ∨ d.base + d.span ≤ d'.base ∨ d'.base + d'.span ≤ d.base := by
  decide
theorem map_in_window : ∀ r : Region, ∀ d ∈ map.get r, d.base ≤ d.authLow ∧ d.authLow + d.len ≤ d.base + d.span := by decide
theorem map_authorised_once (r r' : Region) (d d' : Descriptor) (x : Nat) (hd : map.get r = some d)
    (hd' : map.get r' = some d') (hx : d.authorised x = true) (hx' : d'.authorised x = true) : r = r' := by
  have h := map_disjoint r r' d hd d' hd'
  have h1 := map_in_window r d hd
  have h2 := map_in_window r' d' hd'
  simp only [Descriptor.authorised, decide_eq_true_eq] at hx hx'
  rcases h with h | h | h <;> first | exact h | omega
theorem map_apart {s : State} (h : s.rgd.table = map := by rfl) : s.tableApart := by
  refine ⟨fun r d hd => ?_, fun r r' d d' x hd hd' => ?_⟩
  · exact (by decide : ∀ r, ∀ d ∈ map.get r, 1 ≤ d.len) r d (h ▸ hd)
  · exact map_authorised_once r r' d d' x (h ▸ hd) (h ▸ hd')
/-- No block lies in two windows; block 8,191 lies in none; block 384 lies just past the authorised blocks of region 0; and
region 0 permits a write to its first block only in the load period. -/
theorem witness_DecodeInOrder :
    (∀ (w : Nat) (r r' : Region) (d d' : Descriptor), map.get r = some d → map.get r' = some d' →
      d.inWindow (w / 128) = true → d'.inWindow (w / 128) = true → r = r') ∧
    (∀ r : Region, ∀ d ∈ map.get r, d.inWindow 8191 = false) ∧
    (∃ d ∈ map.get 0, d.inWindow 384 = true ∧ d.authorised 384 = false ∧ d.inWindow 0 = true ∧ d.authorised 0 = true ∧
      classCheck d.cls .wordWrite true = true ∧ classCheck d.cls .wordWrite false = false) := by
  refine ⟨fun w r r' d d' hd hd' hx hx' => ?_, by decide, by decide⟩
  have h := map_disjoint r r' d hd d' hd'
  simp only [Descriptor.inWindow, decide_eq_true_eq] at hx hx'
  rcases h with h | h | h <;> first | exact h | omega
theorem witness_CycleCommitted :
    let s := draining ⟨.commit, 0⟩ .single
    s.cau.marker = .draining ∧ s.cau.localMark = none ∧ s.passInFlight = false ∧ s.mli.params.twinMode = .single ∧
    (∃ a, s.hbi.access = some a ∧ a.phase = .heldMarker) ∧ s.cau.taint = TaintSet.empty ∧ s.cau.cycle = 0 ∧
    s.txe.priority = none ∧ s.tableApart :=
  ⟨rfl, rfl, by decide, rfl, ⟨_, rfl, rfl⟩, rfl, rfl, rfl, map_apart⟩
/-- At the verdict: a dirty VALID region whose block, or another, is being retired, and a BROKEN region. -/
theorem witness_CycleCommitted_sets : ∀ x ∈ [CkState.valid, .broken], ∀ b ∈ [1030, 3457],
    let s := draining ⟨.commit, 0⟩ .single
    let u := { s with
      ckc := { s.ckc with ckState := s.ckc.ckState.set 2 x, dirty := [1030] }
      txe := { s.txe with retire := some ⟨b, 2, .working, 0, 0, false⟩ } }
    u.passInFlight = false ∧ u.txe.priority = none ∧ u.ckc.ckState.get 2 = x ∧
    (∃ o ∈ u.txe.retire, u.retireWorking o = b) ∧ work.authorised 1030 = true := by decide
/-- A ROLLBACK marker, and a COMMIT with a wrong cycle number, a region VALID or BROKEN. -/
theorem witness_CycleRolledBackOrFailed : ∀ h ∈ [⟨.rollback, 0⟩, (⟨.commit, 1⟩ : HeldMarker)],
    ∀ x ∈ [CkState.valid, .broken],
    let s := draining h .single
    let u := { s with ckc := { s.ckc with ckState := s.ckc.ckState.set 2 x, dirty := [1030] } }
    u.passInFlight = false ∧ (h.kind = .rollback ∨ u.cau.taint ≠ TaintSet.empty ∨ h.n ≠ u.cau.cycle) ∧
    u.txe.priority = none ∧ u.ckc.ckState.get 2 = x := by decide
/-- The link UP and DOWN when the kind is fixed, and a MARK awaiting its twin at the timer's expiry. -/
theorem witness_PairedMarker :
    let s := draining ⟨.commit, 0⟩ .paired
    let w := { s with cau := { s.cau with
      marker := .awaitingTwin, localMark := some ⟨0, 0, .commit, 0, 6752⟩, agreementTimer := some 50 } }
    s.passInFlight = false ∧ s.cau.slot = none ∧ s.twl.linkUp = false ∧ s.mli.params.twinMode = .paired ∧
    w.cau.agreementTimer ≠ none ∧ w.cau.slot = none ∧ w.cau.marker = .awaitingTwin ∧ s.txe.priority = none ∧
    w.passInFlight = false ∧ w.txe.priority = none := by decide
/-- The twin's MARK already in the slot: alike, and of another digest; a frame being sent, and none. -/
theorem witness_PairedMarker_slot :
    let s := draining ⟨.commit, 0⟩ .paired
    let m : Mark := ⟨0, 0, .commit, 0, 6752⟩
    let u := { s with
      twl := { s.twl with linkUp := true, sending := some .idle }, cau := { s.cau with slot := some m } }
    u.passInFlight = false ∧ u.twl.linkUp = true ∧ u.cau.slot = some m ∧ u.twl.sending ≠ none ∧ s.twl.sending = none ∧
    (Verdict.committed, none) = decideVerdict .paired u.cau.cycle m (some m) ∧
    (Verdict.failed, some FaultKind.disagree) =
      decideVerdict .paired u.cau.cycle m (some { m with digest := 1 }) := by decide
/-- A local MARK awaiting its twin: a twin MARK alike, one that asks for a rollback, and one of another digest; the passes are told. -/
theorem witness_FramesReceived_verdict :
    let m : Mark := ⟨0, 0, .commit, 0, 6752⟩
    let s := draining ⟨.commit, 0⟩ .paired
    let w := { s with cau := { s.cau with marker := .awaitingTwin, localMark := some m, agreementTimer := some 50 } }
    w.inReset = false ∧ w.twl.rx = none ∧ w.mli.control ≠ .config ∧ w.mli.params.twinMode = .paired ∧
    m.epoch = w.cau.epoch ∧ w.cau.slot = none ∧ w.cau.localMark = some m ∧
    (Verdict.committed, none) = decideVerdict .paired w.cau.cycle m (some m) ∧
    (Verdict.rolledBack, none) = decideVerdict .paired w.cau.cycle m (some { m with kind := .rollback }) ∧
    (Verdict.failed, some FaultKind.disagree) = decideVerdict .paired w.cau.cycle m (some { m with digest := 1 }) ∧
    (∃ a, w.hbi.access = some a ∧ a.phase = .heldMarker) ∧ w.passInFlight = false ∧ w.txe.priority = none ∧ w.tableApart :=
  ⟨rfl, rfl, by decide, rfl, rfl, rfl, rfl, by decide, by decide, by decide, ⟨_, rfl, rfl⟩, by decide, rfl, map_apart⟩
theorem witness_VerdictWordWritten :
    let s := draining ⟨.commit, 0⟩ .single
    let w := { s with cau := { s.cau with verdictDue := true, lastVerdict := .committed, cycle := 19 }
                      mpt := { s.mpt with grant := .processor } }
    w.canonical ∧ w.cau.verdictDue = true ∧ w.mpt.grant = .processor ∧ w.physWord 442368 < w.memWords ∧
    (275 : Word).toNat = 256 * 1 + w.cau.cycle.toNat := by
  unfold State.canonical; decide

/-! ### Witnesses: the twin link, faults, the maintenance link -/

/-- A unit of a frame altered; nothing sent, and a frame being sent. -/
theorem witness_TwinFramesOnTheLine :
    TwinFrame.idle.received[1]? = some ⟨false, 23294, true⟩ ∧ (23295 : Unit16) ≠ 23294 ∧
    judgeFrame (TwinFrame.idle.received.set 1 ⟨false, 23295, true⟩) = none ∧ running.twl.sending = none ∧
    { running with twl := { running.twl with sending := some .idle } }.twl.sending = some .idle := by decide
/-- A MARK of epoch 255 in epoch 0 is late; one of epoch 0 is current; one of epoch 1 is neither. -/
theorem witness_FramesReceived :
    let s := { running with mli := { running.mli with params := { params with twinMode := .paired } } }
    s.inReset = false ∧ s.twl.rx = none ∧ s.mli.control ≠ .config ∧ s.mli.params.twinMode = .paired ∧
    s.cau.slot = none ∧ s.cau.localMark = none ∧ (255 : Count8) + 1 = s.cau.epoch ∧ (0 : Count8) = s.cau.epoch ∧
    (1 : Count8) ≠ s.cau.epoch ∧ (1 : Count8) + 1 ≠ s.cau.epoch := by decide
/-- A frame of one unit open: the flagged unit of the next one, its own bad last unit, a unit that joins it; a frame that does not
open with a flagged unit. -/
theorem witness_LinkTimers :
    let s := { running with twl := { running.twl with rx := some [⟨true, 0xA501, true⟩] } }
    s.inReset = false ∧ judgeFrame [⟨true, 0xA501, true⟩] = none ∧ (0xA501 = 0xA501 ∧ 0 + 2 = 2) ∧
    judgeFrame [⟨true, 0xA501, true⟩, ⟨false, 0, true⟩] = none ∧
    ¬((0xA502 : Unit16) = 0xA501 ∧ 0 + 2 = 2 ∨ (0xA502 : Unit16) = 0xA502 ∧ 0 + 2 = 7) ∧
    judgeFrame [⟨false, 0xA501, true⟩] = none ∧ State.reset.twl.idleTimer = true ∧
    State.reset.twl.sending = none ∧ State.reset.twl.waiting = none := by decide
/-- A queue with room and a full one. -/
theorem witness_FaultTaken :
    let r := running.recordOf (bareFault .linkLate .twinLink)
    let full := { running.fau with queue := List.replicate 16 r }
    (∀ i, full.counters.get i ≤ 65535) ∧ full.queue.length = 16 ∧ running.fau.queue.length < 16 ∧ r.vital = false ∧
    (running.recordOf (bareFault .cycleOverrun .marker)).vital = true := by decide
/-- For every statement about a maintenance command: a frame open in each control state. -/
theorem witness_listens : ∀ c ∈ [Control.config, .init, .run, .hold],
    (linked c running).listens ∧ (linked c running).mli.control = c := by
  unfold State.listens; decide
/-- A command with operands, an unknown one, the chip select, and the two driven states of the data output. -/
theorem witness_LinkFraming :
    Instr.wellFormed (.setParam 1 22) = true ∧ commandUnits (.setParam 1 22) = some [5, 1, 0, 22] ∧
    Instr.wellFormed (.loadRemap 8 (List.replicate 8 ⟨0, 0, 0⟩)) = true ∧
    running.inReset = false ∧ running.mli.frame = .idle ∧ running.mli.frame ≠ .receiving ∧
    (linked .run running).mli.frame = .receiving ∧
    { running with mli := { running.mli with frame := .responding, response := [0] } }.mli.frame = .responding ∧
    ((0 : Unit16).toNat = 0 ∧ 24 < (25 : Unit16).toNat) := by decide
/-- Commands with and without operands; no frame RECEIVING, a command already in, and the part in reset. -/
theorem witness_LinkFraming_unheard :
    (∀ c ∈ [Instr.getStatus, .selectRegion 3, .retireBlock 5, .unknownCommand 77], (commandUnits c).isSome = true) ∧
    running.mli.frame ≠ .receiving ∧
    { (linked .run running) with mli := { (linked .run running).mli with code := some 3 } }.mli.code ≠ none ∧
    (State.powerOnValue true [] [] 0 []).inReset = true := by decide
theorem witness_ReadCommands :
    (15 : Unit16).toNat < 16 ∧ 16 ≤ (16 : Unit16).toNat ∧ 1 ≤ (1 : Unit16).toNat ∧ (9 : Unit16).toNat ≤ 9 ∧
    (0 : Unit16).toNat = 0 ∧ 9 < (10 : Unit16).toNat ∧
    running.fau.queue = [] ∧ (running.takeFault (bareFault .linkLate .twinLink)).fau.queue ≠ [] := by decide
/-- An entry absent and present, and each kind of slot occupied. -/
theorem witness_ReadCommands_slots :
    map.get 6 = none ∧ map.get 2 = some work ∧ work.shadow = some 2048 ∧ inService.txe.fifoMode ≠ .draining ∧
    inService.txe.retire ≠ none ∧ inService.txe.slotBegun .readWord = none ∧
    (inService.txe.passSlot .copy).bind (·.pos) = some ⟨2, 1024, 128⟩ ∧
    (moving .restore 3 .filling [⟨7, 2, 0⟩] running).txe.priority = some ⟨.restore, 2, 1030, 3, true⟩ ∧
    (scrubbing running).txe.scrub ≠ none ∧
    (clearing true 5).txe.clear.map (·.ranges) = some [⟨5, .working, 3457, 1, .up⟩] := by decide
theorem witness_RegionLoading :
    loadField Staging.empty 0 4 = some { Staging.empty with cls := .work } ∧ loadField Staging.empty 0 6 = none ∧
    loadField Staging.empty 1 32767 = some { Staging.empty with base := 32767 } ∧
    loadField Staging.empty 1 32768 = none ∧ (linked .hold running).installBusy = false ∧
    (during (accessIn .atPort (workCycle .wordRead false)) .processor (linked .hold running)).installBusy = true := by
  decide
/-- The plain region reinstalled from its staged fields in HOLD, in its own entry; made absent, which the marker word forbids. -/
theorem witness_RegionInstalled :
    let g : Staging := ⟨.work, 3456, 8, 8, .up, 4, ⟨false, false, false, false⟩, 32767⟩
    let s := linked .hold running
    let u := { s with rgd := { s.rgd with phase := 7, pointer := 5, staging := { g with shadow := 0 } } }
    u.rgd.phase = 7 ∧ (32767 : Unit16).toNat ≤ 32767 ∧ u.installBusy = false ∧
    validateTable (u.rgd.table.put u.rgd.pointer (some g.toDescriptor)) u.mli.params = none ∧
    s.rgd.phase = 0 ∧ validateTable (s.rgd.table.put s.rgd.pointer none) s.mli.params = none ∧
    validateTable (s.rgd.table.put 5 none) s.mli.params = some (.markerPlace, none) ∧
    validateTable (s.rgd.table.put 6 (some plain)) s.mli.params = some (.windowOverlap, some 5) := by decide
/-- An entry absent before; one of another key; one longer by a block, and one shorter. -/
theorem witness_RegionInstalled_clears :
    map.get 6 = none ∧ (∀ r, ∀ d ∈ State.reset.rgd.table.get r, d.attrs.agreed = false) ∧
    1 ≤ plain.len ∧ plain.len ≤ plain.span ∧ { plain with key := 5 }.key ≠ plain.key ∧
    { plain with len := 7 }.len < plain.len ∧ plain.dir ≠ .down := by decide
theorem witness_SettingCommands :
    (params.set 1 22).isSome = true ∧ params.set 1 23 = none ∧ (∀ e ∈ [(⟨5, 0, 0⟩ : RemapOperand)], e.state.toNat ≤ 1 ∧
      e.spare.toNat < params.spareCount ∧ e.block.toNat < params.blocks) ∧ 8 < (9 : Unit16).toNat ∧
    (63 : Unit16).toNat < 64 ∧ 64 ≤ (64 : Unit16).toNat := by decide
/-- A member pending and enabled, and one pending and not enabled. -/
theorem witness_SettingCommands_alarm :
    let s := { running with fau := { running.fau with
      pending := { AlarmSet.none with retired := true, queueFull := true }, mask := { AlarmSet.none with retired := true } } }
    s.fau.pending.retired = true ∧ s.fau.mask.retired = true ∧ s.fau.pending.queueFull = true ∧
    s.fau.mask.queueFull = false := by decide
/-- Entries that R151 refuses: a state, a spare and a block out of range, a spare twice, a block LIVE twice. -/
theorem witness_SettingCommands_remap :
    1 < (2 : Unit16).toNat ∧ params.spareCount ≤ (8 : Unit16).toNat ∧ params.blocks ≤ (4096 : Unit16).toNat ∧
    ¬[(⟨5, 0, 0⟩ : RemapOperand), ⟨6, 0, 1⟩].Pairwise (fun a b => a.spare ≠ b.spare) ∧
    ¬[(⟨5, 0, 0⟩ : RemapOperand), ⟨5, 1, 0⟩].Pairwise (fun a b => a.state = 0 → b.state = 0 → a.block ≠ b.block) := by
  decide
theorem witness_ControlCommands :
    validateStart running.rgd params = none ∧
    validateStart { running.rgd with phase := 1 } params = some (.stagingPartial, none) ∧
    (∀ o, running.txe.clear = some o → o.atStart = true) := by
  exact ⟨by decide, by decide, (by decide : ∀ o ∈ running.txe.clear, o.atStart = true)⟩
/-- HOLD in RUN: a retire copy ACTIVE beside a waiting burst, a burst ACTIVE above nothing, and a burst ACTIVE with a retire copy
requested since. -/
theorem witness_ControlCommands_hold :
    let a := linked .run (retiringAt 3 .filling [⟨7, 2, 0⟩] { running with txe := { running.txe with scrub := some ⟨8, false⟩ } })
    let b := linked .run (scrubbing running)
    let c := { b with txe := { b.txe with retire := some ⟨1031, 2, .working, 0, 0, false⟩ } }
    a.listens ∧ b.listens ∧ c.listens ∧ a.txe.active = some .retire ∧ EngineKind.retire ≠ .scrubBurst ∧
    a.mpt.grant ≠ .none ∧ b.txe.active = some .scrubBurst ∧ { b.txe with scrub := none }.highest = none ∧
    c.txe.active = some .scrubBurst ∧ { c.txe with scrub := none }.highest = some .retire ∧
    EngineKind.retire ≠ Move.copy.passKind ∧ EngineKind.retire ≠ Move.restore.passKind := by
  unfold State.listens; decide
/-- A table of one descriptor. -/
def single (d : Descriptor) : Table := (Vector.replicate 16 none).set 0 (some d)
theorem single_get (d : Descriptor) (r : Region) (d' : Descriptor) (h : d' ∈ (single d).get r) : r = 0 ∧ d' = d := by
  fin_cases r
  · exact ⟨rfl, (Option.some.inj h).symm⟩
  all_goals exact nomatch h
/-- The spare pool past the memory; a window past it, after an entry within it; no place for the marker word. -/
theorem witness_ControlCommands_ranges :
    failsRow State.reset.rgd.table { params with spareBase := 4089 } .spareRange ∧
    breaksRow map { params with exponent := 16 } .windowRange 1 ∧
    (∀ r' < 1, ¬breaksRow map { params with exponent := 16 } .windowRange r') ∧
    breaksRow (single { work with shadow := some 3073 }) { params with exponent := 19 } .shadowRange 0 ∧
    ¬failsRow (single { work with shadow := some 3073 }) params .windowRange ∧
    failsRow State.reset.rgd.table params .markerPlace := by
  simp only [failsRow, breaksRow]; decide
theorem nothing_breaks (p : Params) (k : Reason) (r : Region) : ¬breaksRow State.reset.rgd.table p k r := by
  rintro ⟨d, h, -⟩
  exact absurd ((by decide : ∀ r, ∀ d ∈ State.reset.rgd.table.get r, False) r d h) id
/-- Two windows that meet; a window and a shadow over a spare; a shadow over its own window. -/
theorem witness_ControlCommands_overlaps :
    breaksRow ((single plain).set 1 (some plain)) params .windowOverlap 0 ∧
    (∀ r, ¬breaksRow (single plain) params .windowOverlap r) ∧
    breaksRow (single plain) { params with spareBase := 3463 } .spareOverlap 0 ∧
    (∀ r, ¬breaksRow (single plain) { params with spareCount := 0 } .spareOverlap r) ∧
    breaksRow (single { work with shadow := some 3072 }) { params with spareBase := 4095 } .shadowOverlap 0 ∧
    breaksRow (single { work with shadow := some 2047 }) params .shadowOverlap 0 := by
  refine ⟨⟨plain, rfl, 1, by decide, plain, rfl, 3456, by decide⟩, ?_, ⟨plain, rfl, 3463, by unfold Params.inSpares; decide⟩,
    ?_, ⟨_, rfl, 4095, by unfold Params.inSpares; decide⟩,
    ⟨_, rfl, 2047, by decide, .inr ⟨0, _, rfl, .inl (by decide)⟩⟩⟩
  · rintro r ⟨d, hd, r', hr, d', hd', -⟩
    obtain ⟨rfl, -⟩ := single_get _ r d hd
    obtain ⟨rfl, -⟩ := single_get _ r' d' hd'
    exact absurd hr (by decide)
  · rintro r ⟨d, -, b, ⟨h1, h2⟩, -⟩
    exact absurd (Nat.lt_of_le_of_lt h1 h2) (Nat.lt_irrefl _)
/-- The START clears of a table in range, and each control state that takes or turns away a RELEASE. -/
theorem witness_ControlCommands_clears :
    (∀ r, ∀ d ∈ map.get r, 1 ≤ d.len ∧ d.len ≤ d.span) ∧ 16 ≤ params.exponent ∧
    running.txe.clear = none ∧ (clearing false 5).txe.clear.map (·.atStart) = some false := by decide
theorem witness_RequestCommands :
    ownerOf map (1030 : Unit16).toNat ≠ none ∧ ownerOf map (3000 : Unit16).toNat = none ∧
    running.cau.localMark = none ∧ running.sru.retireQueue.length < 4 ∧ running.fau.qualified = false := by decide

end Sys2Proof.Tests
end

section
/-!
PROOFS. The memory planes under every command: which commands leave them alone, that every word operation keeps them
canonical, and that no command is refused (Chapter 1, R59).
-/
namespace Sys2Proof.Machine

/-! ### What an answer leaves of memory -/

/-- The answer is no refusal, and a next state it gives has canonical planes where `s` has them. -/
def keepsCanonical (s : State) : Answer → Prop
  | .next t => s.canonical → t.canonical
  | .fault _ => True
  | .refused _ => False

/-- The two memory planes. -/
def State.planes (s : State) : Memory × Memory := (s.planeP, s.planeQ)

theorem planes_eq_iff {s t : State} : t.planes = s.planes ↔ t.planeP = s.planeP ∧ t.planeQ = s.planeQ := Prod.mk_inj

/-- The answer is a next state with the planes of `s`. -/
def keepsPlanes (s : State) (x : Answer) : Prop := ∃ t, x = .next t ∧ t.planes = s.planes

theorem keepsCanonical_self (s : State) : keepsCanonical s (.next s) := id

theorem keepsCanonical_of_keepsPlanes {s : State} {x : Answer} (h : keepsPlanes s x) : keepsCanonical s x := by
  obtain ⟨t, rfl, ht⟩ := h
  obtain ⟨hp, hq⟩ := planes_eq_iff.mp ht
  intro hs
  rwa [State.canonical, hp, hq]

/-- A step at the port keeps the canonical form where its group does. -/
theorem onPort_keepsCanonical {s : State} {ready : Bool} {addrs : List Nat} {f : State → State}
    (hf : s.canonical → (f s).canonical) : keepsCanonical s (onPort s ready addrs f) := by
  unfold onPort
  split
  · exact keepsCanonical_self s
  · split
    · exact hf
    · trivial

/-- What a step leads to is canonical where the step keeps the form. -/
theorem after_canonical {s : State} {x : Answer} (hx : keepsCanonical s x) (hs : s.canonical) : (s.after x).canonical := by
  cases x with
  | next t => exact hx hs
  | fault _ => exact hs
  | refused _ => exact hx.elim

/-! ### Word operations -/

theorem putP_canonical {s : State} (h : s.canonical) (pw : Nat) (p : Word) : (s.putP pw p).canonical :=
  ⟨wf_writePlaneP pw p h.1, h.2⟩

theorem putQ_canonical {s : State} (h : s.canonical) (pw : Nat) (q : Code) : (s.putQ pw q).canonical :=
  ⟨h.1, wf_writePlaneQ pw q h.2⟩

theorem putPair_canonical {s : State} (h : s.canonical) (pw : Nat) (p : Word) (q : Code) :
    (s.putPair pw p q).canonical :=
  ⟨wf_writePlaneP pw p h.1, wf_writePlaneQ pw q h.2⟩

theorem writeWord_canonical {s : State} (h : s.canonical) (w : Nat) (t : Terms) (d : Word) :
    (s.writeWord w t d).canonical := putPair_canonical h _ _ _

theorem repair_canonical {s : State} (h : s.canonical) (w : Nat) (t : Terms) (rep : CheckReport) :
    (s.repair w t rep).canonical := by
  unfold State.repair
  split
  · simpa [State.canonical] using putP_canonical h (s.physWord w) (codeData rep.rawQ)
  · simpa [State.canonical] using putQ_canonical h (s.physWord w) (encode rep.rawP (signature w t s.cau.epoch))
  · exact h
  · exact h

/-! ### The processor side's groups -/

theorem readGroup_canonical {s : State} (h : s.canonical) (a : Access) : (s.readGroup a).canonical := by
  have hr := repair_canonical h a.word a.terms (s.check true a.word a.terms)
  unfold State.readGroup
  dsimp only
  split <;> simpa [State.canonical] using hr

theorem plainWrite_canonical {s : State} (h : s.canonical) (a : Access) (d : Word) : (s.plainWrite a d).canonical := by
  simpa [State.canonical, State.plainWrite] using writeWord_canonical h a.word a.terms d

theorem agreedWrite_canonical {s : State} (h : s.canonical) (a : Access) (d : Word) :
    (s.agreedWrite a d).canonical := by
  have hw := writeWord_canonical (s := s.loadLatch (s.check true a.word a.terms)) h a.word a.terms d
  unfold State.agreedWrite
  dsimp only
  split <;> simpa [State.canonical] using hw

theorem byteWrite_canonical {s : State} (h : s.canonical) (a : Access) (l : Lane) (b : BitVec 8) :
    (s.byteWrite a l b).canonical := by
  unfold State.byteWrite
  dsimp only
  split
  next old _ =>
    have hw := writeWord_canonical (s := s.loadLatch (s.check true a.word a.terms)) h a.word a.terms (mergeByte l b old)
    simpa [State.canonical] using hw
  next => simpa [State.canonical] using h

theorem lockedRead_canonical {s : State} (h : s.canonical) (a : Access) : (s.lockedRead a).canonical := by
  have hr := repair_canonical h a.word a.terms (s.check true a.word a.terms)
  unfold State.lockedRead
  dsimp only
  split
  · split
    · simpa [State.canonical] using hr
    · exact hr
  · simpa [State.canonical] using hr

theorem lockedWrite_canonical {s : State} (h : s.canonical) (a : Access) (x : WriteHalf) :
    (s.lockedWrite a x).canonical := by
  simpa [State.canonical, State.lockedWrite] using
    writeWord_canonical h a.word a.terms (halfData x s.cdu.latchData)

theorem writeVerdictWord_canonical {s : State} (h : s.canonical) (a : Access) : (s.writeVerdictWord a).canonical := by
  simpa [State.canonical, State.writeVerdictWord] using
    writeWord_canonical h a.word a.terms (verdictWord s.cau.lastVerdict s.cau.cycle)

theorem accessGroup_keepsCanonical {s : State} {g : Grant} {p : AccessOp → Bool} {f : Access → State → State}
    (hf : ∀ a, s.canonical → (f a s).canonical) : keepsCanonical s (s.accessGroup g p f) := by
  unfold State.accessGroup
  split
  · exact onPort_keepsCanonical (hf _)
  · exact keepsCanonical_self s

theorem execProcReadGroup_keepsCanonical (s : State) : keepsCanonical s (execProcReadGroup s) :=
  accessGroup_keepsCanonical fun a h => readGroup_canonical h a

theorem execProcPlainWriteGroup_keepsCanonical (s : State) : keepsCanonical s (execProcPlainWriteGroup s) := by
  unfold execProcPlainWriteGroup
  split
  · exact onPort_keepsCanonical fun h => plainWrite_canonical h _ _
  · exact keepsCanonical_self s

theorem execProcAgreedWriteGroup_keepsCanonical (s : State) : keepsCanonical s (execProcAgreedWriteGroup s) := by
  unfold execProcAgreedWriteGroup
  split
  · exact onPort_keepsCanonical fun h => agreedWrite_canonical h _ _
  · exact keepsCanonical_self s

theorem execProcByteWriteGroup_keepsCanonical (s : State) : keepsCanonical s (execProcByteWriteGroup s) := by
  unfold execProcByteWriteGroup
  split
  · exact onPort_keepsCanonical fun h => byteWrite_canonical h _ _ _
  · exact keepsCanonical_self s

theorem execLockedReadHalfGroup_keepsCanonical (s : State) : keepsCanonical s (execLockedReadHalfGroup s) :=
  accessGroup_keepsCanonical fun a h => lockedRead_canonical h a

theorem execLockedWriteHalfGroup_keepsCanonical (s : State) : keepsCanonical s (execLockedWriteHalfGroup s) := by
  unfold execLockedWriteHalfGroup
  split
  · exact onPort_keepsCanonical fun h => lockedWrite_canonical h _ _
  · exact keepsCanonical_self s

theorem execVerdictWordWrite_keepsCanonical (s : State) : keepsCanonical s (execVerdictWordWrite s) := by
  unfold execVerdictWordWrite
  split
  · exact onPort_keepsCanonical fun h => writeVerdictWord_canonical h _
  · exact keepsCanonical_self s

/-! ### The engine's groups -/

theorem moveRead_canonical {s : State} (h : s.canonical) (m : Move) (p : PassPos) : (s.moveRead m p).canonical := by
  have hr := repair_canonical h (s.moveSourceWord m p) (s.terms (s.moveSourceWord m p))
    (s.check true (s.moveSourceWord m p) (s.terms (s.moveSourceWord m p)))
  unfold State.moveRead
  dsimp only
  split <;> simpa [State.canonical] using hr

theorem moveWrite_canonical {s : State} (h : s.canonical) (m : Move) (p : PassPos) (e : FifoEntry) :
    (s.moveWrite m p e).canonical := by
  have hw := writeWord_canonical h (s.moveTargetWord m p e) (s.terms (s.moveTargetWord m p e)) e.data
  unfold State.moveWrite
  dsimp only
  split
  · simpa [State.canonical] using hw
  · split <;> simpa [State.canonical] using hw

theorem retireRead_canonical {s : State} (h : s.canonical) (o : RetireOp) : (s.retireRead o).canonical := by
  have hr := repair_canonical h (o.word o.offset) (s.terms (o.word o.offset))
    (s.check true (o.word o.offset) (s.terms (o.word o.offset)))
  unfold State.retireRead
  dsimp only
  split <;> simpa [State.canonical] using hr

theorem retireWrite_canonical {s : State} (h : s.canonical) (o : RetireOp) (e : FifoEntry) :
    (s.retireWrite o e).canonical := by
  have hw := putPair_canonical h (s.spareWord o.spare e.offset) e.data
    (encode e.data (signature (o.word e.offset) (s.terms (o.word e.offset)) e.epoch))
  unfold State.retireWrite
  dsimp only
  split
  · simpa [State.canonical] using hw
  · split <;> simpa [State.canonical] using hw

theorem clearStep_canonical {s : State} (h : s.canonical) (o : ClearOp) (w : Nat) : (s.clearStep o w).canonical := by
  have hw := writeWord_canonical h w (s.terms w) 0
  unfold State.clearStep
  dsimp only
  split
  · split <;> simpa [State.canonical] using hw
  · split <;> simpa [State.canonical] using hw

theorem audit_canonical {s : State} (h : s.canonical) (c : Cursor) (d : Word) : (s.audit c d).canonical := by
  have hr := repair_canonical h (s.cursorShadow c) (s.terms (s.cursorShadow c))
    (s.check true (s.cursorShadow c) (s.terms (s.cursorShadow c)))
  unfold State.audit
  dsimp only
  split
  · split
    · exact hr
    · simpa [State.canonical] using hr
  · simpa [State.canonical] using hr

theorem scrubCheck_canonical {s : State} (h : s.canonical) (c : Cursor) : (s.scrubCheck c).canonical := by
  have hr := repair_canonical (s := { s with sru := { s.sru with cursor := scrubNext s.rgd.table c } }) h c.word
    (s.terms c.word) (s.check true c.word (s.terms c.word))
  unfold State.scrubCheck
  dsimp only
  split
  · split
    · exact audit_canonical hr c _
    · exact hr
  · simpa [State.canonical] using hr

theorem scrubStep_canonical {s : State} (h : s.canonical) (c : Cursor) : (s.scrubStep c).canonical := by
  simpa [State.canonical, State.scrubStep] using scrubCheck_canonical h c

theorem diagnose_canonical {s : State} (h : s.canonical) (w : Nat) : (s.diagnose w).canonical := by
  simpa [State.canonical] using h

theorem moveReadStep_keepsCanonical (m : Move) (s : State) : keepsCanonical s (moveReadStep m s) := by
  unfold moveReadStep
  split
  · exact onPort_keepsCanonical fun h => moveRead_canonical h m _
  · exact keepsCanonical_self s

theorem moveWriteStep_keepsCanonical (m : Move) (s : State) : keepsCanonical s (moveWriteStep m s) := by
  unfold moveWriteStep
  split
  · exact onPort_keepsCanonical fun h => moveWrite_canonical h m _ _
  · exact keepsCanonical_self s

theorem execRetireWordRead_keepsCanonical (s : State) : keepsCanonical s (execRetireWordRead s) := by
  unfold execRetireWordRead
  split
  · exact onPort_keepsCanonical fun h => retireRead_canonical h _
  · exact keepsCanonical_self s

theorem execRetireWordWrite_keepsCanonical (s : State) : keepsCanonical s (execRetireWordWrite s) := by
  unfold execRetireWordWrite
  split
  · exact onPort_keepsCanonical fun h => retireWrite_canonical h _ _
  · exact keepsCanonical_self s

theorem execClearWrite_keepsCanonical (s : State) : keepsCanonical s (execClearWrite s) := by
  unfold execClearWrite
  split
  · exact onPort_keepsCanonical fun h => clearStep_canonical h _ _
  · exact keepsCanonical_self s

theorem execScrubWordCheck_keepsCanonical (s : State) : keepsCanonical s (execScrubWordCheck s) := by
  unfold execScrubWordCheck
  split
  · split
    · exact onPort_keepsCanonical fun h => scrubStep_canonical h _
    · exact keepsCanonical_of_keepsPlanes ⟨_, rfl, by simp [State.planes]⟩
  · exact keepsCanonical_self s

theorem execDiagnosticRead_keepsCanonical (s : State) : keepsCanonical s (execDiagnosticRead s) := by
  unfold execDiagnosticRead
  split
  · exact onPort_keepsCanonical fun h => diagnose_canonical h _
  · exact keepsCanonical_self s

/-! ### The group in hand, cut short or carried through (R58, R66) -/

theorem procGroup_keepsCanonical (s : State) (a : Access) : keepsCanonical s (s.procGroup a) := by
  unfold State.procGroup
  split
  · exact execVerdictWordWrite_keepsCanonical s
  · exact execProcReadGroup_keepsCanonical s
  · exact execProcReadGroup_keepsCanonical s
  · exact execProcReadGroup_keepsCanonical s
  · split
    · exact execProcAgreedWriteGroup_keepsCanonical s
    · exact execProcPlainWriteGroup_keepsCanonical s
  · exact execProcByteWriteGroup_keepsCanonical s
  · exact execLockedReadHalfGroup_keepsCanonical s
  · exact execLockedWriteHalfGroup_keepsCanonical s

theorem moveGroup_keepsCanonical (s : State) (m : Move) : keepsCanonical s (s.moveGroup m) := by
  unfold State.moveGroup
  split
  · exact moveWriteStep_keepsCanonical m s
  · exact moveReadStep_keepsCanonical m s

theorem engineGroup_keepsCanonical (s : State) (k : EngineKind) : keepsCanonical s (s.engineGroup k) := by
  unfold State.engineGroup
  cases k with
  | clear => exact execClearWrite_keepsCanonical s
  | priorityBlock =>
    cases s.txe.priority with
    | none => exact keepsCanonical_self s
    | some o => exact moveGroup_keepsCanonical s o.move
  | readWord => exact execDiagnosticRead_keepsCanonical s
  | restorePass => exact moveGroup_keepsCanonical s .restore
  | checkpointPass => exact moveGroup_keepsCanonical s .copy
  | retire =>
    dsimp only
    split
    · exact execRetireWordWrite_keepsCanonical s
    · exact execRetireWordRead_keepsCanonical s
  | scrubBurst => exact execScrubWordCheck_keepsCanonical s

theorem groupInHand_keepsCanonical (s : State) : keepsCanonical s s.groupInHand := by
  unfold State.groupInHand
  split
  · exact keepsCanonical_self s
  · split
    · exact procGroup_keepsCanonical s _
    · exact keepsCanonical_self s
  · split
    · exact procGroup_keepsCanonical s _
    · exact keepsCanonical_self s
  · split
    · exact engineGroup_keepsCanonical s _
    · exact keepsCanonical_self s

/-- Between the two repairs of a scrub word check the planes are canonical. -/
theorem scrubMidway_wf {s : State} (h : s.canonical) {x : Memory × Memory} (hx : x ∈ s.scrubMidway) :
    x.1.wf = true ∧ x.2.wf = true := by
  unfold State.scrubMidway at hx
  split at hx
  · obtain rfl := List.mem_singleton.mp hx
    exact repair_canonical h _ _ _
  · exact absurd hx List.not_mem_nil

/-- Every stage of the group in hand leaves the planes canonical. -/
theorem groupStages_wf {s : State} (h : s.canonical) {x : Memory × Memory} (hx : x ∈ s.groupStages) :
    x.1.wf = true ∧ x.2.wf = true := by
  obtain ⟨-, hmid | ⟨t, ht, rfl⟩⟩ := groupStages_cases hx
  · exact scrubMidway_wf h hmid
  · have hk := groupInHand_keepsCanonical s
    rw [ht] at hk
    exact hk h

/-- A group cut short at whatever stage leaves the planes canonical. -/
theorem intoReset_canonical {s : State} (h : s.canonical) : s.intoReset.canonical := by
  rcases planesAfter_cases (s.planeP, s.planeQ) s.groupStages (Config.cutAfter s.cuts) with hb | hm
  · change s.cutPlanes = _ at hb
    simpa [State.canonical, State.intoReset, State.powerOnValue, hb] using h
  · exact groupStages_wf h hm

theorem carryRead_canonical {s : State} (h : s.canonical) (w : Nat) : (s.carryRead w).canonical :=
  after_canonical (onPort_keepsCanonical fun h => repair_canonical h _ _ _) h

theorem withMemoryOf_canonical {s t : State} (h : t.canonical) : (s.withMemoryOf t).canonical := h

theorem carryMove_canonical {s : State} (h : s.canonical) (m : Move) : (s.carryMove m).canonical := by
  unfold State.carryMove
  split
  · exact carryRead_canonical h _
  · exact withMemoryOf_canonical (after_canonical (moveWriteStep_keepsCanonical m s) h)

theorem carryRetire_canonical {s : State} (h : s.canonical) : s.carryRetire.canonical := by
  unfold State.carryRetire
  split
  · exact carryRead_canonical h _
  · exact after_canonical (execRetireWordWrite_keepsCanonical s) h

theorem carryEngine_canonical {s : State} (h : s.canonical) (k : EngineKind) : (s.carryEngine k).canonical := by
  unfold State.carryEngine
  cases k with
  | clear => exact withMemoryOf_canonical (after_canonical (execClearWrite_keepsCanonical s) h)
  | priorityBlock =>
    cases s.txe.priority with
    | none => exact h
    | some o => exact carryMove_canonical h o.move
  | readWord => exact h
  | restorePass => exact carryMove_canonical h .restore
  | checkpointPass => exact carryMove_canonical h .copy
  | retire => exact carryRetire_canonical h
  | scrubBurst => exact after_canonical (execScrubWordCheck_keepsCanonical s) h

theorem carryAccess_canonical {s : State} (h : s.canonical) (a : Access) : (s.carryAccess a).canonical :=
  after_canonical (s := { s with hbi := { s.hbi with access := some { a with withdrawn := true } } })
    (procGroup_keepsCanonical _ _) h

theorem carryThrough_canonical {s : State} (h : s.canonical) : s.carryThrough.canonical := by
  unfold State.carryThrough
  split
  · exact h
  · split
    · exact carryAccess_canonical h _
    · exact h
  · split
    · exact carryAccess_canonical h _
    · exact h
  · split
    · exact carryEngine_canonical (s := { s with hbi := { s.hbi with access := none } }) h _
    · exact h

theorem groupEnded_canonical {s : State} (h : s.canonical) : s.groupEnded.canonical := by
  by_cases hg : s.mpt.grant = .none
  · rwa [groupEnded_idle hg]
  · rcases groupEnded_cases hg with he | he <;> rw [he]
    · exact h
    · exact carryThrough_canonical h

/-! ### The commands that make no word operation -/

/-- A maintenance command keeps the planes where carrying it out does. -/
theorem command_keepsPlanes (s : State) (code : Nat) (ops : List Unit16) {f : State → State}
    (hf : ∀ m, (f { s with mli := m }).planes = s.planes) : keepsPlanes s (.next (s.command code ops f)) :=
  ⟨_, rfl, command_field State.planes s code ops f hf⟩

theorem execUnknownCommand_keepsPlanes (code : Unit16) (s : State) : keepsPlanes s (execUnknownCommand code s) := by
  unfold execUnknownCommand
  split
  · exact ⟨_, rfl, rfl⟩
  · exact command_keepsPlanes s _ _ fun _ => rfl

theorem execLoadRemap_keepsPlanes (n : Unit16) (es : List RemapOperand) (s : State) :
    keepsPlanes s (execLoadRemap n es s) := by
  unfold execLoadRemap
  split
  · exact command_keepsPlanes s _ _ fun _ => rfl
  · exact command_keepsPlanes s _ _ fun _ => by unfold State.loadRemap; (repeat' split) <;> rfl

theorem exec_keepsPlanes {c : Instr} (s : State) (hc : isGroup c = false) (h1 : c ≠ .powerOn) (h2 : c ≠ .systemResetAssert)
    (h3 : c ≠ .reinit) : keepsPlanes s (exec c s) := by
  cases c
  case powerOn => exact absurd rfl h1
  case systemResetAssert => exact absurd rfl h2
  case reinit => exact absurd rfl h3
  case internalResetEnd => exact ⟨_, rfl, by split <;> rfl⟩
  case accessPresented c => exact ⟨_, rfl, by simp [State.planes]⟩
  case takeAccess => exact ⟨_, rfl, by (repeat' split) <;> simp [State.planes]⟩
  case presentedAccessWithdrawn => exact ⟨_, rfl, rfl⟩
  case accessWithdrawn => exact ⟨_, rfl, by (repeat' split) <;> simp [State.planes]⟩
  case lockedWriteHalfPresented c => exact ⟨_, rfl, by simp [State.planes]⟩
  case lockNegated o => exact ⟨_, rfl, by split <;> simp [State.planes]⟩
  case retireTake => exact ⟨_, rfl, by (repeat' split) <;> simp [State.planes]⟩
  case scrubTimerExpiry => exact ⟨_, rfl, by split <;> simp [State.planes]⟩
  case fixLocalKind => exact ⟨_, rfl, by split <;> simp [State.planes]⟩
  case agreementTimerExpiry => exact ⟨_, rfl, by (repeat' split) <;> simp [State.planes]⟩
  case cycleDeadlineExpiry => exact ⟨_, rfl, by split <;> simp [State.planes]⟩
  case twinFrameReceived us => exact ⟨_, rfl, by split <;> simp [State.planes]⟩
  case twinLineIdleTimeout => exact ⟨_, rfl, by split <;> simp [State.planes]⟩
  case linkTimerExpiry => exact ⟨_, rfl, by split <;> simp [State.planes]⟩
  case idleFrameTimerExpiry => exact ⟨_, rfl, by split <;> rfl⟩
  case transmitFrameEnd => exact ⟨_, rfl, by (repeat' split) <;> rfl⟩
  case chipSelectAssert => exact ⟨_, rfl, by split <;> rfl⟩
  case chipSelectNegate => exact ⟨_, rfl, rfl⟩
  case unknownCommand code => exact execUnknownCommand_keepsPlanes code s
  case loadRemap n es => exact execLoadRemap_keepsPlanes n es s
  case getStatus => exact command_keepsPlanes s _ _ fun _ => rfl
  case selectRegion e => exact command_keepsPlanes s _ _ fun _ => by (repeat' split) <;> rfl
  case regionField v => exact command_keepsPlanes s _ _ fun _ => by (repeat' split) <;> simp [State.planes]
  case readRegion e => exact command_keepsPlanes s _ _ fun _ => by split <;> rfl
  case setParam sel v => exact command_keepsPlanes s _ _ fun _ => by (repeat' split) <;> rfl
  case readParam sel => exact command_keepsPlanes s _ _ fun _ => by split <;> rfl
  case readRemap => exact command_keepsPlanes s _ _ fun _ => rfl
  case start => exact command_keepsPlanes s _ _ fun _ => by (repeat' split) <;> simp [State.planes]
  case hold => exact command_keepsPlanes s _ _ fun _ => by split <;> simp [State.planes]
  case release => exact command_keepsPlanes s _ _ fun _ => by (repeat' split) <;> rfl
  case popFault => exact command_keepsPlanes s _ _ fun _ => by split <;> rfl
  case peekFault => exact command_keepsPlanes s _ _ fun _ => by split <;> rfl
  case readCounters => exact command_keepsPlanes s _ _ fun _ => rfl
  case clearCounters => exact command_keepsPlanes s _ _ fun _ => rfl
  case setAlarmMask m => exact command_keepsPlanes s _ _ fun _ => by split <;> rfl
  case ackAlarm m => exact command_keepsPlanes s _ _ fun _ => by split <;> rfl
  case enableVital => exact command_keepsPlanes s _ _ fun _ => by split <;> rfl
  case requestRollback => exact command_keepsPlanes s _ _ fun _ => by split <;> rfl
  case retireBlock b => exact command_keepsPlanes s _ _ fun _ => by dsimp only; (repeat' split) <;> simp [State.planes]
  case readWordRequest w => exact command_keepsPlanes s _ _ fun _ => by (repeat' split) <;> simp [State.planes]
  case readWordCollection => exact command_keepsPlanes s _ _ fun _ => by split <;> rfl
  case readEngine => exact command_keepsPlanes s _ _ fun _ => rfl
  all_goals exact Bool.noConfusion hc

/-! ### Every command -/

theorem execReinit_keepsCanonical (s : State) : keepsCanonical s (execReinit s) := fun h => by
  rcases command_cases s 0x0A [] fun s => (s.groupEnded.reinitialise).answer .done [] with hc | hc <;> rw [hc]
  · exact h
  · exact groupEnded_canonical (s := { s with mli := { s.mli with code := some (unit 0x0A), operands := [] } }) h

/-- No command is refused, and every one keeps the planes canonical. -/
theorem exec_keepsCanonical (c : Instr) (s : State) : keepsCanonical s (exec c s) := by
  cases c
  case powerOn => exact intoReset_canonical
  case systemResetAssert => exact intoReset_canonical
  case reinit => exact execReinit_keepsCanonical s
  case procReadGroup => exact execProcReadGroup_keepsCanonical s
  case procPlainWriteGroup => exact execProcPlainWriteGroup_keepsCanonical s
  case procAgreedWriteGroup => exact execProcAgreedWriteGroup_keepsCanonical s
  case procByteWriteGroup => exact execProcByteWriteGroup_keepsCanonical s
  case lockedReadHalfGroup => exact execLockedReadHalfGroup_keepsCanonical s
  case lockedWriteHalfGroup => exact execLockedWriteHalfGroup_keepsCanonical s
  case verdictWordWrite => exact execVerdictWordWrite_keepsCanonical s
  case copyWordRead => exact moveReadStep_keepsCanonical .copy s
  case copyWordWrite => exact moveWriteStep_keepsCanonical .copy s
  case restoreWordRead => exact moveReadStep_keepsCanonical .restore s
  case restoreWordWrite => exact moveWriteStep_keepsCanonical .restore s
  case retireWordRead => exact execRetireWordRead_keepsCanonical s
  case retireWordWrite => exact execRetireWordWrite_keepsCanonical s
  case clearWrite => exact execClearWrite_keepsCanonical s
  case scrubWordCheck => exact execScrubWordCheck_keepsCanonical s
  case diagnosticRead => exact execDiagnosticRead_keepsCanonical s
  all_goals exact keepsCanonical_of_keepsPlanes (exec_keepsPlanes s rfl nofun nofun nofun)

/-- Settles O8: a step is a command on the state with the queue's rest, or idles, and every command keeps the form. -/
theorem planesStayCanonical : Obligations.PlanesStayCanonical := by
  intro s t hs ht
  unfold step at ht
  split at ht
  · cases ht
    exact hs
  next c rest _ =>
    have hk := exec_keepsCanonical c { s with pending := rest }
    rw [ht] at hk
    exact hk hs

/-! ### Which commands touch memory -/

/-- A command that makes no word operation goes on. -/
theorem exec_goes_on {c : Instr} (s : State) (hc : isGroup c = false) : ∃ t, exec c s = .next t := by
  by_cases hr : c = .powerOn ∨ c = .systemResetAssert ∨ c = .reinit
  · rcases hr with rfl | rfl | rfl <;> exact ⟨_, rfl⟩
  · push Not at hr
    obtain ⟨h1, h2, h3⟩ := hr
    obtain ⟨t, ht, -⟩ := exec_keepsPlanes s hc h1 h2 h3
    exact ⟨t, ht⟩

/-- A granted read whose word lies beyond the memory fitted stops. -/
theorem execProcReadGroup_beyond {s : State} {a : Access} (ha : s.hbi.access = some a) (hp : a.phase = .atPort)
    (hg : s.mpt.grant = .processor) (ho : a.op.isRead = true) (hb : s.memWords ≤ s.physWord a.word) :
    execProcReadGroup s = .fault .addressBeyondMemory := by
  have hgr : s.granted .processor AccessOp.isRead = some a := by simp [State.granted, ha, hp, hg, ho]
  simp [execProcReadGroup, State.accessGroup, hgr, onPort, Nat.not_lt.mpr hb]

/-- Settles O7, from what each command leaves of the planes. -/
theorem onlyGroupsTouchMemory : Obligations.OnlyGroupsTouchMemory := by
  refine ⟨?planes, fun c s hc => exec_goes_on s hc, ?refused,
    fun s a ha hp hg ho hb => execProcReadGroup_beyond ha hp hg ho hb⟩
  case planes =>
    intro c s t hc h1 h2 h3 ht
    obtain ⟨u, hu, hp⟩ := exec_keepsPlanes s hc h1 h2 h3
    obtain rfl : t = u := by simpa [ht] using hu
    exact planes_eq_iff.mp hp
  case refused =>
    intro c s r hr
    have hk := exec_keepsCanonical c s
    rw [hr] at hk
    exact hk

end Sys2Proof.Machine
end

section
/-! PROOFS. The code of the protected word: what a check makes of a code word and of a damaged one (Chapter 1). -/
namespace Sys2Proof.Machine

/-! ### Code words (R2, R4, R5) -/

theorem encode_toNat (d : Word) {s : Nat} (hs : s < 65521) : (encode d s).toNat = 65521 * d.toNat + s := by
  have hd := d.isLt
  simp only [encode, Config.prime, BitVec.toNat_ofNat]
  omega

theorem encode_le_maxCode (d : Word) {s : Nat} (hs : s < 65521) : (encode d s).toNat ≤ 4293984255 := by
  have hd := d.isLt
  rw [encode_toNat d hs]
  omega

theorem codeMatches_iff (q : Code) (s : Nat) : codeMatches q s = true ↔ q.toNat ≤ 4293984255 ∧ q.toNat % 65521 = s := by
  rw [codeMatches, Bool.and_eq_true, decide_eq_true_iff, decide_eq_true_iff, Config.maxCode, Config.prime]

/-- A code word is valid for its own signature and for no other. -/
theorem codeMatches_encode (d : Word) {s : Nat} (hs : s < 65521) (s' : Nat) :
    codeMatches (encode d s) s' = true ↔ s = s' := by
  have hle := encode_le_maxCode d hs
  rw [codeMatches_iff, encode_toNat d hs] at *
  omega

@[simp] theorem codeData_encode (d : Word) {s : Nat} (hs : s < 65521) : codeData (encode d s) = d := by
  apply BitVec.eq_of_toNat_eq
  have hd := d.isLt
  rw [codeData, BitVec.toNat_ofNat, encode_toNat d hs, Config.prime]
  omega

/-! ### Signatures (R2) -/

/-- Words of one region share a signature exactly when their indices agree modulo the prime. -/
theorem signature_eq_iff_word (w v : Nat) (t : Terms) (e : Count8) :
    signature w t e = signature v t e ↔ w % 65521 = v % 65521 := by
  simp only [signature, Config.prime]
  omega

/-- The epoch terms of a cyclic word are all different. -/
theorem signature_eq_iff_epoch (w key : Nat) (a b : Count8) :
    signature w ⟨key, true⟩ a = signature w ⟨key, true⟩ b ↔ a = b := by
  refine ⟨fun h => BitVec.eq_of_toNat_eq ?_, fun h => by rw [h]⟩
  have ha := a.isLt
  have hb := b.isLt
  simp only [signature, epochTerm, Config.prime, Config.epochFactor, if_true] at h
  omega

/-! ### The check of a pair (R7, R8, R9) -/

/-- A check with a valid q. -/
theorem checkPair_valid {w : Nat} {t : Terms} {e : Count8} {q : Code} (hq : codeMatches q (signature w t e) = true)
    (b : Bool) (p : Word) :
    checkPair b w t e p q =
      { cls := if codeData q = p then .clean else .pRepair
        data := some (codeData q), rawP := p, rawQ := q, qFinding := .valid
        pFinding := if p = codeData q then .agrees else .differs
        distance := none, repair := repairFieldOf b (if codeData q = p then .clean else .pRepair) } := by
  by_cases hp : codeData q = p <;> simp [checkPair, qFindingOf, hq, pFindingOf, classify, deliveredData, hp]

theorem qFindingOf_valid_iff (cyclic : Bool) (s sPrev : Nat) (q : Code) :
    qFindingOf cyclic s sPrev q = .valid ↔ codeMatches q s = true := by
  unfold qFindingOf
  cases codeMatches q s with
  | true => simp
  | false =>
    rw [if_neg Bool.false_ne_true]
    split
    · simp
    · split <;> simp

theorem checkPair_qFinding_valid_iff (b : Bool) (w : Nat) (t : Terms) (e : Count8) (p : Word) (q : Code) :
    (checkPair b w t e p q).qFinding = .valid ↔ codeMatches q (signature w t e) = true :=
  qFindingOf_valid_iff _ _ _ _

/-- A check of a cyclic word whose q matches the previous epoch. -/
theorem checkPair_previous_cls {w : Nat} {t : Terms} {e : Count8} {q : Code} (ht : t.cyclic = true)
    (hq : codeMatches q (signature w t e) = false) (hprev : codeMatches q (signature w t (e - 1)) = true) (b : Bool)
    (p : Word) : (checkPair b w t e p q).cls = if codeData q = p then .stale else .uncorrectable := by
  have hf : qFindingOf t.cyclic (signature w t e) (signature w t (e - 1)) q = .previousEpoch := by
    rw [qFindingOf, hq, hprev, ht]
    rfl
  simp only [checkPair, hf, classify]

/-- A q that is neither valid nor of the previous epoch is out of range, or of a wrong remainder. -/
theorem qFindingOf_neither {cyclic : Bool} {s sPrev : Nat} {q : Code} (hq : codeMatches q s = false)
    (hprev : cyclic = true → codeMatches q sPrev = false) :
    qFindingOf cyclic s sPrev q = .outOfRange ∨ qFindingOf cyclic s sPrev q = .wrongRemainder := by
  have hp : (cyclic && codeMatches q sPrev) = false := by
    cases cyclic
    · rfl
    · exact hprev rfl
  simp only [qFindingOf, hq, hp, Bool.false_eq_true, if_false]
  split
  · exact .inl rfl
  · exact .inr rfl

/-- A check whose q is neither valid nor of the previous epoch weighs the distance from the code word of p. -/
theorem checkPair_neither {w : Nat} {t : Terms} {e : Count8} {q : Code} (hq : codeMatches q (signature w t e) = false)
    (hprev : t.cyclic = true → codeMatches q (signature w t (e - 1)) = false) (b : Bool) (p : Word) :
    (checkPair b w t e p q).cls =
      (if t.cyclic = false ∧ bitDistance q (encode p (signature w t e)) ≤ 2 then .qRepair else .uncorrectable) ∧
    (checkPair b w t e p q).distance = some (bitDistance q (encode p (signature w t e))) := by
  rcases qFindingOf_neither hq hprev with hf | hf <;> simp only [checkPair, hf, classify] <;> simp

/-- A cyclic word whose q is neither valid nor of the previous epoch is UNCORRECTABLE. -/
theorem checkPair_cyclic_neither {w : Nat} {t : Terms} {e : Count8} {q : Code} (ht : t.cyclic = true)
    (hq : codeMatches q (signature w t e) = false) (hprev : codeMatches q (signature w t (e - 1)) = false) (b : Bool)
    (p : Word) : (checkPair b w t e p q).cls = .uncorrectable := by
  rw [(checkPair_neither hq (fun _ => hprev) b p).1, if_neg (by simp [ht])]

/-- A word that is not cyclic, its q not valid but within two bits of the code word of p, is Q_REPAIR. -/
theorem checkPair_near {w : Nat} {t : Terms} {e : Count8} {p : Word} {q : Code} (ht : t.cyclic = false)
    (hq : codeMatches q (signature w t e) = false) (hd : bitDistance q (encode p (signature w t e)) ≤ 2) (b : Bool) :
    (checkPair b w t e p q).cls = .qRepair ∧ (checkPair b w t e p q).data = some p ∧
      (checkPair b w t e p q).distance = some (bitDistance q (encode p (signature w t e))) := by
  obtain ⟨hcls, hdist⟩ := checkPair_neither hq (fun hc => absurd (ht.symm.trans hc) Bool.false_ne_true) b p
  rw [if_pos ⟨ht, hd⟩] at hcls
  refine ⟨hcls, ?_, hdist⟩
  change deliveredData (checkPair b w t e p q).cls p q = some p
  rw [hcls]
  rfl

/-- Settles O1: a code word is valid for its own signature and carries its data. -/
theorem codeWordRoundTrip : Obligations.CodeWordRoundTrip := by
  intro b w t e d
  have hs := signature_lt w t e
  refine ⟨encode_toNat d hs, encode_le_maxCode d hs, ?_⟩
  rw [checkPair_valid ((codeMatches_encode d hs _).mpr rfl)]
  simp [codeData_encode d hs, repairFieldOf]

/-- Settles O3: a code word matches the epochs whose signature it was written under, and the epoch terms are all different. -/
theorem epochWheel : Obligations.EpochWheel := by
  intro b w key d written now
  have hs := signature_lt w ⟨key, true⟩ written
  have hmatch (x : Count8) : codeMatches (encode d (signature w ⟨key, true⟩ written)) (signature w ⟨key, true⟩ x) =
      decide (written = x) := by
    rw [Bool.eq_iff_iff, codeMatches_encode d hs, signature_eq_iff_epoch, decide_eq_true_iff]
  by_cases hnow : now = written
  · rw [if_pos hnow, checkPair_valid (by simp [hmatch, hnow])]
    simp [codeData_encode d hs]
  · have hq : codeMatches (encode d (signature w ⟨key, true⟩ written)) (signature w ⟨key, true⟩ now) = false := by
      simp [hmatch, Ne.symm hnow]
    rw [if_neg hnow]
    by_cases hnext : now = written + 1
    · rw [if_pos hnext, checkPair_previous_cls rfl hq (by simp [hmatch, hnext])]
      simp [codeData_encode d hs]
    · have hne : written ≠ now - 1 := fun h => hnext (by rw [h, BitVec.sub_add_cancel])
      rw [if_neg hnext, checkPair_cyclic_neither rfl hq (by rw [hmatch, decide_eq_false hne])]

/-- One wrong address bit changes the word's index modulo the prime. -/
theorem two_pow_not_multiple {i : Nat} (hi : i < 23) : 2 ^ i % 65521 ≠ 0 :=
  (by decide : ∀ i < 23, 2 ^ i % 65521 ≠ 0) i hi

/-- Settles O4: a code word is valid under its own signature alone, which tells the indices apart modulo the prime. -/
theorem wrongLocationIsSeen : Obligations.WrongLocationIsSeen := by
  refine ⟨signature_eq_iff_word, ?_⟩
  intro b w v i t e p d hi hwv hval
  rw [checkPair_qFinding_valid_iff, codeMatches_encode d (signature_lt v t e), signature_eq_iff_word] at hval
  have hpow := two_pow_not_multiple hi
  omega

/-! ### Changed bits of plane Q (R6, R16) -/

/-- What changing bit i adds to a number: its weight down where the bit was set, and up where it was clear. -/
def bitChange (wasSet : Bool) (i : Nat) : Int := if wasSet then -((2 ^ i : Nat) : Int) else ((2 ^ i : Nat) : Int)

/-- The number after bit i is changed. -/
theorem xor_two_pow (n i : Nat) : ((n ^^^ 2 ^ i : Nat) : Int) = n + bitChange (n.testBit i) i := by
  have hdiv : (n ^^^ 2 ^ i) / 2 ^ i = n / 2 ^ i ^^^ 1 := by
    rw [Nat.xor_div_two_pow, Nat.div_self (Nat.two_pow_pos i)]
  have hmod : (n ^^^ 2 ^ i) % 2 ^ i = n % 2 ^ i := by rw [Nat.xor_mod_two_pow, Nat.mod_self, Nat.xor_zero]
  have hx := Nat.div_add_mod (n ^^^ 2 ^ i) (2 ^ i)
  have hn := Nat.div_add_mod n (2 ^ i)
  rw [hdiv, hmod] at hx
  rw [bitChange, Nat.testBit_eq_decide_div_mod_eq]
  rcases Nat.even_or_odd (n / 2 ^ i) with he | ho
  · rw [Nat.xor_one_of_even he, Nat.mul_succ] at hx
    rw [if_neg (by simp [Nat.even_iff.mp he])]
    omega
  · have hpos := ho.pos
    rw [Nat.xor_one_of_odd ho, Nat.mul_sub_one] at hx
    have hle : 2 ^ i ≤ 2 ^ i * (n / 2 ^ i) := Nat.le_mul_of_pos_right _ hpos
    rw [if_pos (by simp [Nat.odd_iff.mp ho])]
    omega

theorem toNat_xor_twoPow (q : Code) {i : Nat} (hi : i < 32) :
    ((q ^^^ BitVec.twoPow 32 i).toNat : Int) = q.toNat + bitChange (q.getLsbD i) i := by
  rw [BitVec.toNat_xor, BitVec.toNat_twoPow_of_lt hi, xor_two_pow]
  rfl

/-- What the signature of a cyclic word in the epoch before can lie above its signature: 251 below or, from epoch 0, 251 × 255
above, each modulo the prime. -/
def previousGaps : List Int := [-251, 65270, 64005, -1516]

/-- A change of a code word that leads to no word of its signature, and to no word of the same data in the epoch before. -/
def telltale (x : Int) : Bool := x % 65521 != 0 && !previousGaps.contains x

theorem telltale_iff (x : Int) : telltale x = true ↔ x % 65521 ≠ 0 ∧ x ∉ previousGaps := by
  rw [telltale, Bool.and_eq_true, bne_iff_ne, Bool.not_eq_true', ← Bool.not_eq_true, List.contains_iff_mem]

theorem one_bit_telltale : ∀ i < 32, ∀ a, telltale (bitChange a i) = true := by decide

theorem two_bits_telltale_of_lt : ∀ j < 32, ∀ i < j, ∀ a b, telltale (bitChange a i + bitChange b j) = true := by decide

theorem two_bits_telltale {i j : Nat} (hi : i < 32) (hj : j < 32) (hij : i ≠ j) (a b : Bool) :
    telltale (bitChange a i + bitChange b j) = true := by
  rcases Nat.lt_or_gt_of_ne hij with h | h
  · exact two_bits_telltale_of_lt j hj i h a b
  · rw [add_comm]
    exact two_bits_telltale_of_lt i hi j h b a

/-- The signature of a cyclic word in the epoch before lies one of the gaps above its signature. -/
theorem signature_previous {t : Terms} (ht : t.cyclic = true) (w : Nat) (e : Count8) :
    (signature w t (e - 1) : Int) - signature w t e ∈ previousGaps := by
  have he := e.isLt
  have hprev : (e - 1).toNat = if e.toNat = 0 then 255 else e.toNat - 1 := by
    split <;> bv_omega
  simp only [previousGaps, List.mem_cons, List.not_mem_nil, or_false, signature, epochTerm, ht, if_true, hprev,
    Config.prime, Config.epochFactor]
  split <;> omega

/-! ### Bits in which two values differ (R6) -/

/-- The distance is the length of a list of the positions that differ, each listed once. -/
theorem bitDistance_eq_length {a b : Code} {l : List Nat} (hl : l.Nodup)
    (hmem : ∀ k, k ∈ l ↔ k < 32 ∧ (a ^^^ b).getLsbD k = true) : bitDistance a b = l.length := by
  refine (List.Perm.length_eq ?_).symm
  rw [List.perm_ext_iff_of_nodup hl (List.nodup_range.filter _)]
  intro k
  rw [List.mem_filter, List.mem_range, hmem]

theorem bitDistance_one_bit (q : Code) {i : Nat} (hi : i < 32) : bitDistance (q ^^^ BitVec.twoPow 32 i) q = 1 := by
  refine bitDistance_eq_length (l := [i]) (List.nodup_singleton i) fun k => ?_
  rw [BitVec.xor_comm q, BitVec.xor_assoc, BitVec.xor_self, BitVec.xor_zero]
  simp only [List.mem_singleton, BitVec.getLsbD_twoPow, hi, decide_true, Bool.true_and, decide_eq_true_iff]
  omega

theorem bitDistance_two_bits (q : Code) {i j : Nat} (hi : i < 32) (hj : j < 32) (hij : i ≠ j) :
    bitDistance (q ^^^ BitVec.twoPow 32 i ^^^ BitVec.twoPow 32 j) q = 2 := by
  refine bitDistance_eq_length (l := [i, j]) (by simpa using hij) fun k => ?_
  rw [BitVec.xor_assoc q, BitVec.xor_comm q, BitVec.xor_assoc, BitVec.xor_self, BitVec.xor_zero]
  simp only [List.mem_cons, List.not_mem_nil, or_false, BitVec.getLsbD_xor, BitVec.getLsbD_twoPow, hi, hj, decide_true,
    Bool.true_and, bne_iff_ne, ne_eq, decide_eq_decide]
  omega

/-! ### What a check makes of damage (R16) -/

/-- A code word changed by a telltale amount is not valid. -/
theorem codeMatches_changed {d : Word} {s : Nat} (hs : s < 65521) {q : Code} {x : Int}
    (hq : (q.toNat : Int) = (encode d s).toNat + x) (hx : telltale x = true) : codeMatches q s = false := by
  obtain ⟨hx, -⟩ := (telltale_iff x).mp hx
  rw [Bool.eq_false_iff, ne_eq, codeMatches_iff]
  rw [encode_toNat d hs] at hq
  omega

/-- A code word changed by a telltale amount, where it matches the epoch before, does not carry its data. -/
theorem codeData_changed {d : Word} {s sPrev : Nat} (hs : s < 65521) {q : Code} {x : Int}
    (hq : (q.toNat : Int) = (encode d s).toNat + x) (hx : telltale x = true) (hgap : (sPrev : Int) - s ∈ previousGaps)
    (hprev : codeMatches q sPrev = true) : codeData q ≠ d := by
  rintro rfl
  have hsPrev : sPrev < 65521 := ((codeMatches_iff q sPrev).mp hprev).2 ▸ Nat.mod_lt _ (by decide)
  have hword := encode_toNat (codeData q) hsPrev
  rw [encode_codeData hprev] at hword
  rw [encode_toNat _ hs] at hq
  obtain rfl : x = (sPrev : Int) - s := by omega
  exact (telltale_iff _).mp hx |>.2 hgap

/-- What a check makes of a pair whose q is the code word changed by a telltale amount, in at most two bits. -/
theorem checkPair_changed_q {w : Nat} {t : Terms} {e : Count8} {d : Word} {q : Code} {x : Int} {n : Nat}
    (hq : (q.toNat : Int) = (encode d (signature w t e)).toNat + x) (hx : telltale x = true)
    (hn : bitDistance q (encode d (signature w t e)) = n) (h2 : n ≤ 2) :
    (checkPair true w t e d q).qFinding ≠ .valid ∧
    (t.cyclic = false → (checkPair true w t e d q).cls = .qRepair ∧ (checkPair true w t e d q).data = some d ∧
      (checkPair true w t e d q).distance = some n) ∧
    (t.cyclic = true → (checkPair true w t e d q).cls = .uncorrectable) := by
  have hs := signature_lt w t e
  have hinv := codeMatches_changed hs hq hx
  refine ⟨?_, ?_, ?_⟩
  · rw [ne_eq, checkPair_qFinding_valid_iff, hinv]
    exact Bool.false_ne_true
  · intro ht
    rw [← hn]
    exact checkPair_near ht hinv (hn ▸ h2) true
  · intro ht
    cases hprev : codeMatches q (signature w t (e - 1)) with
    | false => exact checkPair_cyclic_neither ht hinv hprev true d
    | true =>
      rw [checkPair_previous_cls ht hinv hprev, if_neg (codeData_changed hs hq hx (signature_previous ht w e) hprev)]

/-- Settles O2: any p beside a code word is repaired from it; one or two changed bits of q are a telltale change. -/
theorem damageInOnePlane : Obligations.DamageInOnePlane := by
  intro w t e d
  have hs := signature_lt w t e
  refine ⟨fun p hp => ?_, fun i hi => ?_, fun i hi j hj hij => ?_⟩
  · rw [checkPair_valid ((codeMatches_encode d hs _).mpr rfl)]
    simp [codeData_encode d hs, Ne.symm hp]
  · exact checkPair_changed_q (toNat_xor_twoPow _ hi) (one_bit_telltale i hi _) (bitDistance_one_bit _ hi) (by decide)
  · have hq : ((encode d (signature w t e) ^^^ BitVec.twoPow 32 i ^^^ BitVec.twoPow 32 j).toNat : Int) = _ :=
      toNat_xor_twoPow _ hj
    rw [toNat_xor_twoPow _ hi, add_assoc] at hq
    exact checkPair_changed_q hq (two_bits_telltale hi hj hij _ _) (bitDistance_two_bits _ hi hj hij) (by decide)

end Sys2Proof.Machine
end

section
/-! PROOFS. Decode, signature terms and physical addresses (Chapter 2, R60). -/
namespace Sys2Proof.Machine

/-! ### Windows, authorised blocks and shadows (R22) -/

theorem inWindow_iff {d : Descriptor} (hs : 1 ≤ d.span) (b : Nat) :
    d.inWindow b = true ↔ d.base ≤ b ∧ b ≤ d.base + d.span - 1 := by
  rw [Descriptor.inWindow, decide_eq_true_iff]
  omega

theorem authorised_iff {d : Descriptor} (h1 : 1 ≤ d.len) (h2 : d.len ≤ d.span) (b : Nat) :
    d.authorised b = true ↔ match d.dir with
      | .up => d.base ≤ b ∧ b ≤ d.base + d.len - 1
      | .down => d.base + d.span ≤ b + d.len ∧ b ≤ d.base + d.span - 1 := by
  rw [Descriptor.authorised, decide_eq_true_iff, Descriptor.authLow]
  cases d.dir <;> dsimp only <;> omega

theorem inShadow_iff {d : Descriptor} (hs : 1 ≤ d.span) (b : Nat) :
    d.inShadow b = true ↔ ∃ sb, d.shadow = some sb ∧ sb ≤ b ∧ b ≤ sb + d.span - 1 := by
  rw [Descriptor.inShadow]
  cases d.shadow with
  | none => simp
  | some sb =>
    simp only [decide_eq_true_iff, Option.some.injEq, exists_eq_left']
    omega

/-! ### The judgement of an access (R23, R31, R32) -/

theorem classCheck_grants (loadOpen : Bool) (k : AccessKind) :
    classCheck .closed k loadOpen = false ∧
    classCheck .code k loadOpen =
      (k == .wordRead || k == .byteRead || k == .fetch ||
        (loadOpen && (k == .wordWrite || k == .byteWrite || k == .locked))) ∧
    classCheck .const k loadOpen =
      (k == .wordRead || k == .byteRead || (loadOpen && (k == .wordWrite || k == .byteWrite || k == .locked))) ∧
    classCheck .work k loadOpen = (k != .fetch) ∧ classCheck .cyclic k loadOpen = (k != .fetch) := by
  cases k <;> cases loadOpen <;> decide

theorem decodeAccess_unmapped {t : Table} {w : Nat} (h : firstRegion (fun _ d => d.inWindow (w / 128)) t = none)
    (loadOpen : Bool) (marker : Nat) (k : AccessKind) :
    decodeAccess t loadOpen marker k w = .refused .unmapped none none := by
  simp only [decodeAccess, Config.blockWords, h]

/-- The judgement of an access in the window of `d`: the length check, then the class check. -/
theorem decodeAccess_inWindow {t : Table} {w : Nat} {r : Region} {d : Descriptor}
    (h : firstRegion (fun _ d => d.inWindow (w / 128)) t = some (r, d)) (loadOpen : Bool) (marker : Nat) (k : AccessKind) :
    decodeAccess t loadOpen marker k w =
      if d.authorised (w / 128) = false then
        .refused .length (if classCheck d.cls k loadOpen then none else some .cls) (some r)
      else if classCheck d.cls k loadOpen = false then .refused .cls none (some r)
      else .permitted
        { region := r, cls := d.cls, key := d.key, attrs := d.attrs, dir := d.dir, block := w / 128, offset := w % 128
          shadow := if d.attrs.checkpoint then d.shadow.map (· + (w / 128 - d.base)) else none
          marker := decide (w = marker) } := by
  simp only [decodeAccess, Config.blockWords, h, Descriptor.shadowOf, Bool.not_eq_true']

/-! ### Signature terms (R3) -/

theorem terms_authorised {s : State} {w : Nat} {r : Region} {d : Descriptor}
    (h : firstRegion (fun _ d => d.authorised (w / 128)) s.rgd.table = some (r, d)) :
    s.terms w = { key := d.key, cyclic := d.cls == .cyclic } := by
  simp only [State.terms, sigTerms, Config.blockWords, h]

theorem terms_shadow {s : State} {w : Nat} {r : Region} {d : Descriptor}
    (ha : firstRegion (fun _ d => d.authorised (w / 128)) s.rgd.table = none)
    (h : firstRegion (fun _ d => d.inShadow (w / 128)) s.rgd.table = some (r, d)) :
    s.terms w = { key := d.key, cyclic := false } := by
  simp only [State.terms, sigTerms, Config.blockWords, ha, h]

theorem terms_elsewhere {s : State} {w : Nat}
    (ha : firstRegion (fun _ d => d.authorised (w / 128)) s.rgd.table = none)
    (h : firstRegion (fun _ d => d.inShadow (w / 128)) s.rgd.table = none) :
    s.terms w = { key := 0, cyclic := false } := by
  simp only [State.terms, sigTerms, Config.blockWords, ha, h]

/-! ### Physical addresses (R60) -/

theorem physBlock_remapped {s : State} {e : RemapEntry} (he : e ∈ s.sru.remap) (hl : e.live = true)
    (hu : ∀ e' ∈ s.sru.remap, e'.live = true → e'.block = e.block → e' = e) :
    s.physBlock e.block = s.mli.params.spareBase + e.spare := by
  unfold State.physBlock
  cases hf : s.sru.remap.find? fun e' => e'.live && decide (e'.block = e.block) with
  | none =>
    have hn := List.find?_eq_none.mp hf e he
    simp [hl] at hn
  | some e' =>
    have hp := List.find?_some hf
    rw [Bool.and_eq_true, decide_eq_true_iff] at hp
    obtain rfl := hu e' (List.mem_of_find?_eq_some hf) hp.1 hp.2
    rfl

theorem physBlock_plain {s : State} {b : Nat} (h : ∀ e ∈ s.sru.remap, e.live = true → e.block ≠ b) :
    s.physBlock b = b := by
  unfold State.physBlock
  cases hf : s.sru.remap.find? fun e => e.live && decide (e.block = b) with
  | none => rfl
  | some e =>
    have hp := List.find?_some hf
    rw [Bool.and_eq_true, decide_eq_true_iff] at hp
    exact absurd hp.2 (h e (List.mem_of_find?_eq_some hf) hp.1)

theorem physWord_eq (s : State) (w : Nat) : s.physWord w = s.physBlock (w / 128) * 128 + w % 128 := rfl

/-- Settles O19: each table search of decode and of the signature terms finds the only descriptor there is. -/
theorem decodeInOrder : Obligations.DecodeInOrder := by
  refine ⟨classCheck_grants, ?blocks, ?decode, ?terms, ?address⟩
  case blocks =>
    intro d b h1 h2
    exact ⟨inWindow_iff (h1.trans h2) b, authorised_iff h1 h2 b, inShadow_iff (h1.trans h2) b⟩
  case decode =>
    intro t loadOpen marker k w hu
    refine ⟨fun h => decodeAccess_unmapped (firstRegion_none h) loadOpen marker k, fun r d hr hd => ?_⟩
    have hfirst := firstRegion_unique (p := fun _ d => d.inWindow (w / 128)) hr hd
      fun r' d' hr' hd' => hu r' r d' d hr' hr hd' hd
    rw [decodeAccess_inWindow hfirst]
    exact ⟨fun ha => if_pos ha, fun ha hc => by rw [ha, hc]; rfl, fun ha hc => by rw [ha, hc]; rfl⟩
  case terms =>
    intro s w
    refine ⟨fun r d hr hd hu => ?_, fun r d hr hd hu => ?_, fun h => ?_⟩
    · exact terms_authorised (firstRegion_unique hr hd hu)
    · exact terms_shadow (firstRegion_none fun r' d' hr' => (hu r' d' hr').1)
        (firstRegion_unique hr hd fun r' d' hr' => (hu r' d' hr').2)
    · exact terms_elsewhere (firstRegion_none fun r d hr => (h r d hr).1) (firstRegion_none fun r d hr => (h r d hr).2)
  case address =>
    intro s w
    refine ⟨fun e he hl hb hu => ?_, fun h => ?_⟩
    · rw [← hb] at hu
      rw [physWord_eq, ← hb, physBlock_remapped he hl hu]
    · rw [physWord_eq, physBlock_plain h]
      omega

end Sys2Proof.Machine
end

section
/-! PROOFS. Faults taken, counters, and the report of a repair (R11, R147 to R149, R160 to R163). -/
namespace Sys2Proof.Machine

/-! ### Counters and the fault queue (R160, R161, R163) -/

theorem bumpCounter_get_same {cs : Vector Nat 22} {i : Fin 22} (h : cs.get i ≤ 65535) :
    (bumpCounter cs i).get i = min 65535 (cs.get i + 1) := by
  have hget : (bumpCounter cs i).get i = if cs.get i < 65535 then cs.get i + 1 else 65535 := Vector.getElem_set_self _
  rw [hget]
  split <;> omega

theorem bumpCounter_get_other (cs : Vector Nat 22) {i j : Fin 22} (h : i ≠ j) :
    (bumpCounter cs i).get j = cs.get j := by
  simp only [bumpCounter, Vector.get_eq_getElem]
  exact Vector.getElem_set_ne _ _ fun hc => h (Fin.ext hc)

/-- Taking a record counts it and touches no other counter. -/
theorem take_counters (f : Fau) (r : FaultRecord) : (f.take r).counters = bumpCounter f.counters r.kind.counter := by
  unfold Fau.take
  dsimp only
  split <;> simp

/-- A record taken joins the fault queue where there is room. -/
theorem take_queue {f : Fau} (h : f.queue.length < 16) (r : FaultRecord) : (f.take r).queue = f.queue ++ [r] := by
  have hoffer : ∀ g : Fau, g.queue = f.queue → (g.offer r).queue = f.queue ++ [r] := fun g hg => by
    rw [Fau.offer, if_pos (hg ▸ h), hg]
  unfold Fau.take
  dsimp only
  split
  · rw [vitalFault_queue]
    exact hoffer _ rfl
  · exact hoffer _ rfl

/-! ### Retire requests (R149) -/

theorem requestRetire_queued {s : State} {b : Nat} (h : b ∈ s.sru.retireQueue) (w : Nat) : s.requestRetire b w = s :=
  if_pos h

theorem requestRetire_room {s : State} {b : Nat} (h : b ∉ s.sru.retireQueue) (hl : s.sru.retireQueue.length < 4)
    (w : Nat) : s.requestRetire b w = { s with sru := { s.sru with retireQueue := s.sru.retireQueue ++ [b] } } :=
  (if_neg h).trans (if_pos hl)

theorem requestRetire_full {s : State} {b : Nat} (h : b ∉ s.sru.retireQueue) (hl : ¬s.sru.retireQueue.length < 4)
    (w : Nat) : s.requestRetire b w = s.takeFault (retireFault s.rgd.table .retireQueueFull b w) :=
  (if_neg h).trans (if_neg hl)

/-- A retire request leaves every counter but RETIRE_QUEUE_FULL alone. -/
theorem requestRetire_counter (s : State) (b w : Nat) {i : Fin 22} (hi : i ≠ FaultKind.retireQueueFull.counter) :
    (s.requestRetire b w).fau.counters.get i = s.fau.counters.get i := by
  by_cases hb : b ∈ s.sru.retireQueue
  · rw [requestRetire_queued hb]
  · by_cases hl : s.sru.retireQueue.length < 4
    · rw [requestRetire_room hb hl]
    · rw [requestRetire_full hb hl]
      have hcs := take_counters s.fau (s.recordOf (retireFault s.rgd.table .retireQueueFull b w))
      exact (congrArg (·.get i) hcs).trans (bumpCounter_get_other _ hi.symm)

theorem requestRetire_history (s : State) (b w : Nat) : (s.requestRetire b w).sru.history = s.sru.history := by
  by_cases hb : b ∈ s.sru.retireQueue
  · rw [requestRetire_queued hb]
  · by_cases hl : s.sru.retireQueue.length < 4
    · rw [requestRetire_room hb hl]
    · rw [requestRetire_full hb hl, takeFault_sru]

/-! ### Repair reports (R11, R148) -/

/-- A word not in the history goes to its front. -/
theorem reportRepair_new {s : State} {w : Nat} (h : ∀ e ∈ s.sru.history, e.word ≠ w) (pl : Plane) :
    s.reportRepair w pl =
      { s with
        fau := { s.fau with counters := bumpCounter s.fau.counters pl.counter }
        sru := { s.sru with history := (⟨w, pl⟩ :: s.sru.history).take 8 } } :=
  if_neg (by simpa using h)

/-- The state with a repair of a word's plane counted and the word taken out of the repair history. -/
def State.repairedAgain (s : State) (w : Nat) (pl : Plane) : State :=
  { s with
    fau := { s.fau with counters := bumpCounter s.fau.counters pl.counter }
    sru := { s.sru with history := s.sru.history.filter fun e => decide (e.word ≠ w) } }

/-- A word in the history leaves it, and its block is to be retired. -/
theorem reportRepair_again {s : State} {w : Nat} (h : ∃ e ∈ s.sru.history, e.word = w) (pl : Plane) :
    s.reportRepair w pl = (s.repairedAgain w pl).requestRetire (w / 128) w :=
  if_pos (by simpa using h)

/-- A repair reported adds one to its plane's counter. -/
theorem reportRepair_counter {s : State} (h : ∀ i, s.fau.counters.get i ≤ 65535) (w : Nat) (pl : Plane) :
    (s.reportRepair w pl).fau.counters.get pl.counter = min 65535 (s.fau.counters.get pl.counter + 1) := by
  have hpl : pl.counter ≠ FaultKind.retireQueueFull.counter := by cases pl <;> decide
  by_cases hh : ∃ e ∈ s.sru.history, e.word = w
  · rw [reportRepair_again hh, requestRetire_counter _ _ _ hpl]
    exact bumpCounter_get_same (h _)
  · rw [reportRepair_new (by simpa using hh)]
    exact bumpCounter_get_same (h _)

/-- Settles O30: a first repair enters the history, and a second one of the same word requests the retirement of its block. -/
theorem repairReported : Obligations.RepairReported := by
  intro s w pl hc
  refine ⟨?counter, fun hnew => ?_, fun hold => ?_⟩
  case counter =>
    have hcount := reportRepair_counter hc w pl
    cases pl <;> exact hcount
  · rw [reportRepair_new hnew]
    exact ⟨rfl, rfl⟩
  · rw [reportRepair_again hold]
    refine ⟨requestRetire_history _ _ _, fun hq => ?_, fun hq hl => ?_, fun hq hl hroom => ?_⟩
    · rw [requestRetire_queued (s := s.repairedAgain w pl) hq]
      rfl
    · rw [requestRetire_room (s := s.repairedAgain w pl) hq hl]
      rfl
    · rw [requestRetire_full (s := s.repairedAgain w pl) hq (hl ▸ Nat.lt_irrefl 4)]
      have hqueue := take_queue (f := (s.repairedAgain w pl).fau) hroom
        ((s.repairedAgain w pl).recordOf (retireFault s.rgd.table .retireQueueFull (w / 128) w))
      exact ⟨rfl, _, hqueue, rfl, rfl, rfl, rfl⟩

end Sys2Proof.Machine
end

section
/-! PROOFS. The operation table and the port at a selection point: what selecting, settling and the end of a group leave of the
slots, and whom an idle port goes to (R61, R63, R68). -/
namespace Sys2Proof.Machine

/-! ### What a selection point leaves of the operation table (R68) -/

/-- The operation table without what a selection point may change: which slot is ACTIVE, whether an operation has begun, and the
passes, which may ask for a block or end. -/
def Txe.unbegun (x : Txe) : Txe :=
  { x with
    clear := x.clear.map ({ · with begun := false })
    priority := x.priority.map ({ · with begun := false })
    readWord := x.readWord.map ({ · with begun := false })
    restorePass := none
    checkpointPass := none
    retire := x.retire.map ({ · with begun := false })
    scrub := x.scrub.map ({ · with begun := false })
    active := none }

@[simp] theorem activate_unbegun (x : Txe) (k : EngineKind) : (x.activate k).unbegun = x.unbegun := by
  cases k <;> simp [Txe.activate, Txe.unbegun, Function.comp_def]

@[simp] theorem setPass_unbegun (x : Txe) (m : Move) (o : Option PassOp) : (x.setPass m o).unbegun = x.unbegun := by
  cases m <;> rfl

@[simp] theorem askPass_unbegun (s : State) (m : Move) : (s.askPass m).txe.unbegun = s.txe.unbegun := by
  unfold State.askPass
  split
  · rfl
  · split <;> exact setPass_unbegun _ _ _

@[simp] theorem select_unbegun (n : Nat) (s : State) : (s.select n).txe.unbegun = s.txe.unbegun := by
  induction n generalizing s with
  | zero => rfl
  | succ n ih =>
    unfold State.select
    split
    · rfl
    · dsimp only
      split
      · split
        · split <;> simp [ih]
        · exact activate_unbegun _ _
      · exact activate_unbegun _ _

@[simp] theorem selectionPoint_unbegun (s : State) : s.selectionPoint.txe.unbegun = s.txe.unbegun := select_unbegun 3 s

/-- A retire slot that is occupied stays so. -/
theorem retire_of_unbegun {x y : Txe} (h : y.unbegun = x.unbegun) {o : RetireOp} (ho : x.retire = some o) :
    ∃ begun, y.retire = some { o with begun := begun } := by
  have hx : x.unbegun.retire = some { o with begun := false } := congrArg (Option.map _) ho
  obtain ⟨o', hy, he⟩ := Option.map_eq_some_iff.mp ((congrArg Txe.retire h).trans hx)
  cases o
  cases o'
  cases he
  exact ⟨_, hy⟩

/-- A PRIORITY_BLOCK slot that is occupied stays so. -/
theorem priority_of_unbegun {x y : Txe} (h : y.unbegun = x.unbegun) {o : PriorityOp} (ho : x.priority = some o) :
    ∃ begun, y.priority = some { o with begun := begun } := by
  have hx : x.unbegun.priority = some { o with begun := false } := congrArg (Option.map _) ho
  obtain ⟨o', hy, he⟩ := Option.map_eq_some_iff.mp ((congrArg Txe.priority h).trans hx)
  cases o
  cases o'
  cases he
  exact ⟨_, hy⟩

theorem retire_none_of_unbegun {x y : Txe} (h : y.unbegun = x.unbegun) (ho : x.retire = none) : y.retire = none :=
  Option.map_eq_none_iff.mp ((congrArg Txe.retire h).trans (Option.map_eq_none_iff.mpr ho))

theorem scrub_none_of_unbegun {x y : Txe} (h : y.unbegun = x.unbegun) (ho : x.scrub = none) : y.scrub = none :=
  Option.map_eq_none_iff.mp ((congrArg Txe.scrub h).trans (Option.map_eq_none_iff.mpr ho))

/-! ### Settling (R61) -/

/-- The state whose port is settled: the engine has selected, where it had no slot ACTIVE (R68). -/
def State.selected (s : State) : State := if s.txe.active.isNone then s.selectionPoint else s

/-- Settling makes of the operation table what selecting makes of it. -/
theorem settle_txe (s : State) : s.settle.txe = s.selected.txe := by
  unfold State.settle State.selected
  dsimp only
  split <;> (repeat' split) <;> rfl

@[simp] theorem settle_unbegun (s : State) : s.settle.txe.unbegun = s.txe.unbegun := by
  rw [settle_txe, State.selected]
  split
  · exact selectionPoint_unbegun s
  · rfl

theorem settle_txe_of_active {s : State} (h : s.txe.active ≠ none) : s.settle.txe = s.txe := by
  rw [settle_txe, State.selected, if_neg (by simpa using h)]

@[simp] theorem selected_hbi (s : State) : s.selected.hbi = s.hbi := by unfold State.selected; split <;> simp
@[simp] theorem selected_mpt (s : State) : s.selected.mpt = s.mpt := by unfold State.selected; split <;> simp
@[simp] theorem selected_cau (s : State) : s.selected.cau = s.cau := by unfold State.selected; split <;> simp
@[simp] theorem selected_mli (s : State) : s.selected.mli = s.mli := by unfold State.selected; split <;> simp

theorem procAsking_congr {s s' : State} (h1 : s'.hbi = s.hbi) (h2 : s'.cau = s.cau) : s'.procAsking = s.procAsking := by
  unfold State.procAsking
  rw [h1, h2]

theorem procGrant_congr {s s' : State} (h : s'.hbi = s.hbi) : s'.procGrant = s.procGrant := by
  unfold State.procGrant
  rw [h]

/-- An idle port goes to the engine with an operation ACTIVE, else to the processor side that asks, else to nobody. -/
theorem settle_mpt_of_idle {s : State} (hg : s.mpt.grant = .none) :
    s.settle.mpt =
      if s.selected.txe.active.isSome then { grant := .engine, count := 0, limit := s.mli.params.burst }
      else if s.procAsking then { s.mpt with grant := s.procGrant }
      else s.mpt := by
  have hmpt : ({ s.selected.mpt with grant := .none } : Mpt) = s.mpt := by rw [selected_mpt, ← hg]
  have hgrant : (if s.selected.mpt.grant = .engine ∧ s.selected.txe.active.isNone then Grant.none
      else s.selected.mpt.grant) = .none := by simp [hg]
  unfold State.settle
  rw [show (if s.txe.active.isNone then s.selectionPoint else s) = s.selected from rfl]
  dsimp only
  rw [hgrant, if_pos rfl, hmpt]
  split
  · simp [State.grantEngine]
  · rw [procAsking_congr (s := s) (by simp) (by simp), procGrant_congr (s := s) (by simp), apply_ite State.mpt]
    simp only [selected_mpt]

/-- The processor side without an access takes an idle port as PROCESSOR, so that a LOCKED grant is over. -/
theorem settle_grant_ne_locked {s : State} (hg : s.mpt.grant = .none) (ha : s.hbi.access = none) :
    s.settle.mpt.grant ≠ .locked := by
  rw [settle_mpt_of_idle hg]
  split
  · nofun
  · split
    · simp [State.procGrant, ha]
    · simp [hg]

end Sys2Proof.Machine
end

section
/-! PROOFS. Bus cycles presented and withdrawn, and the lines of a LOCKED sequence (R41, R52, R53, R55, R56). -/
namespace Sys2Proof.Machine

/-! ### The write half of a LOCKED sequence (R52) -/

/-- What the bus moves in the cycle that presents a write half. -/
def WriteHalf.transfer : WriteHalf → Transfer
  | .word d => .wordWrite d
  | .byte l b => .byteWrite l b

/-- A cycle presents a write half exactly where it moves that half's data. -/
theorem cycleWriteHalf_eq_some {c : BusCycle} {h : WriteHalf} : cycleWriteHalf c = some h ↔ c.transfer = h.transfer := by
  unfold cycleWriteHalf
  cases c.transfer <;> cases h <;> simp [WriteHalf.transfer]

theorem cycleWriteHalf_isSome (c : BusCycle) : (cycleWriteHalf c).isSome = c.transfer.isWrite := by
  unfold cycleWriteHalf
  cases c.transfer <;> rfl

theorem writeHalfFor_some {a : Access} {c : BusCycle} {h : WriteHalf} (hl : c.lock = true) (hw : cycleWord c = a.word)
    (ht : c.transfer = h.transfer) : writeHalfFor a c = some h :=
  (if_pos ⟨hl, hw⟩).trans (cycleWriteHalf_eq_some.mpr ht)

theorem writeHalfFor_none {a : Access} {c : BusCycle}
    (h : ¬(c.lock = true ∧ cycleWord c = a.word ∧ c.transfer.isWrite = true)) : writeHalfFor a c = none := by
  unfold writeHalfFor
  split
  next hc =>
    have hw : ¬c.transfer.isWrite = true := fun hw => h ⟨hc.1, hc.2, hw⟩
    rw [← cycleWriteHalf_isSome] at hw
    simpa using hw
  next => rfl

/-! ### A cycle presented (R40, R41, R52, R53) -/

/-- With no access taken, or only a withdrawn one outside LOCKED_OPEN, the cycle waits. -/
theorem present_waits {s : State} (hr : s.hreset = false) (hp : s.hbi.presented = none)
    (ha : s.hbi.access = none ∨ ∃ a, s.hbi.access = some a ∧ a.withdrawn = true ∧ a.phase ≠ .lockedOpen) (c : BusCycle) :
    s.present c = s.setPresented c := by
  unfold State.present
  rw [hr, hp, if_neg (by decide)]
  obtain hn | ⟨a, hs, hw, hph⟩ := ha
  · rw [hn]
  · rw [hs]
    dsimp only
    split
    · exact absurd ‹_› hph
    · exact if_pos hw

/-- In LOCKED_OPEN the cycle is the write half, or ends the sequence. -/
theorem present_lockedOpen {s : State} {a : Access} (hr : s.hreset = false) (hp : s.hbi.presented = none)
    (ha : s.hbi.access = some a) (hph : a.phase = .lockedOpen) (c : BusCycle) :
    s.present c = (writeHalfFor a c).elim (s.endLocked.setPresented c) (s.takeWriteHalf a) := by
  unfold State.present
  rw [hr, hp, if_neg (by decide), ha]
  dsimp only
  rw [hph]
  cases writeHalfFor a c <;> rfl

/-- A write to the same word with the lock line asserted is taken as the write half. -/
theorem present_writeHalf {s : State} {a : Access} {c : BusCycle} {h : WriteHalf} (hr : s.hreset = false)
    (hp : s.hbi.presented = none) (ha : s.hbi.access = some a) (hph : a.phase = .lockedOpen) (hl : c.lock = true)
    (hw : cycleWord c = a.word) (ht : c.transfer = h.transfer) :
    s.present c =
      { s with hbi :=
        { access := some { a with op := .locked (some h), phase := .atPort }, presented := none, busEnd := none } } := by
  rw [present_lockedOpen hr hp ha hph, writeHalfFor_some hl hw ht, ← hp]
  rfl

/-! ### The end of a LOCKED sequence (R53) -/

/-- The sequence ends with the port released from its LOCKED grant. -/
theorem endLocked_grant (s : State) : s.endLocked.mpt.grant ≠ .locked := settle_grant_ne_locked rfl rfl

/-- The end of a sequence takes the access away and touches nothing else but the port and the operation table. -/
theorem endLocked_frame (s : State) :
    { s.endLocked with mpt := s.mpt, txe := s.txe } = { s with hbi := { s.hbi with access := none } } := by
  apply State.ext <;> simp [State.endLocked]

theorem endLocked_setPresented_frame (s : State) (c : BusCycle) :
    { s.endLocked.setPresented c with mpt := s.mpt, txe := s.txe } =
      { s with hbi := { access := none, presented := some c, busEnd := none } } := by
  apply State.ext <;> simp [State.endLocked, State.setPresented]

/-- Any cycle but the write half ends the sequence and waits. -/
theorem present_endsLocked {s : State} {a : Access} {c : BusCycle} (hr : s.hreset = false) (hp : s.hbi.presented = none)
    (ha : s.hbi.access = some a) (hph : a.phase = .lockedOpen)
    (hc : ¬(c.lock = true ∧ cycleWord c = a.word ∧ c.transfer.isWrite = true)) :
    (s.present c).mpt.grant ≠ .locked ∧
      { s.present c with mpt := s.mpt, txe := s.txe } =
        { s with hbi := { access := none, presented := some c, busEnd := none } } := by
  rw [present_lockedOpen hr hp ha hph, writeHalfFor_none hc]
  exact ⟨endLocked_grant s, endLocked_setPresented_frame s c⟩

theorem negateLock_lockedOpen {s : State} {a : Access} (ha : s.hbi.access = some a) (hph : a.phase = .lockedOpen) :
    s.negateLock = s.endLocked := by
  unfold State.negateLock
  rw [ha]
  exact if_pos hph

/-- Settles O17: each phase of the bus interface decides what a cycle presented or withdrawn does. -/
theorem accessPresentedAndWithdrawn : Obligations.AccessPresentedAndWithdrawn := by
  intro s
  refine ⟨?waits, ?lockedOpen, rfl, ?noAccess, ?taken, ?withdrawnOpen⟩
  case waits =>
    intro c hr hp ha
    exact congrArg Host.Outcome.next (present_waits hr hp ha c)
  case lockedOpen =>
    intro c a hr hp ha hph
    refine ⟨fun h hl hw ht => ?_, fun hc => ?_⟩
    · exact congrArg Host.Outcome.next (present_writeHalf (h := h) hr hp ha hph hl hw ht)
    · exact ⟨_, rfl, present_endsLocked hr hp ha hph hc⟩
  case noAccess =>
    intro ha
    show execAccessWithdrawn s = .next s
    rw [execAccessWithdrawn, ha]
  case taken =>
    intro a ha hph
    show execAccessWithdrawn s = _
    rw [execAccessWithdrawn, ha]
    exact congrArg Host.Outcome.next (if_neg hph)
  case withdrawnOpen =>
    intro a ha hph
    refine ⟨s.endLocked, ?_, endLocked_grant s, endLocked_frame s⟩
    show execAccessWithdrawn s = _
    rw [execAccessWithdrawn, ha]
    exact congrArg Host.Outcome.next (if_pos hph)

/-- Settles O18: in LOCKED_OPEN a cycle is the write half or ends the sequence, as does the lock line negated. -/
theorem lockedOpenCycles : Obligations.LockedOpenCycles := by
  intro s a ha hph hr hp
  refine ⟨fun c h hl hw ht => ?_, fun c hc => ?_, ?_⟩
  · exact congrArg Host.Outcome.next (present_writeHalf (h := h) hr hp ha hph hl hw ht)
  · exact ⟨_, rfl, present_endsLocked hr hp ha hph hc⟩
  · refine ⟨s.endLocked, ?_, endLocked_grant s, endLocked_frame s⟩
    exact congrArg Host.Outcome.next (negateLock_lockedOpen ha hph)

end Sys2Proof.Machine
end

section
/-! PROOFS. A presented access taken: its hold checks in order, a marker, and the port (R41 to R45, R61, R90, R91, R108, R109,
R118, R119, R124). -/
namespace Sys2Proof.Machine

/-! ### The marker word (R118, R119, R182) -/

theorem hiByte_toNat (v : BitVec 16) : (hiByte v).toNat = v.toNat / 256 := by
  have hv : v.toNat / 256 < 256 := by have := v.isLt; omega
  rw [hiByte, BitVec.extractLsb'_toNat, Nat.shiftRight_eq_div_pow]
  exact Nat.mod_eq_of_lt hv

theorem loByte_toNat (v : BitVec 16) : (loByte v).toNat = v.toNat % 256 := by
  rw [loByte, BitVec.extractLsb'_toNat, Nat.shiftRight_zero]

theorem loByte_eq (v : BitVec 16) : loByte v = BitVec.ofNat 8 (v.toNat % 256) :=
  BitVec.eq_of_toNat_eq (by rw [loByte_toNat, BitVec.toNat_ofNat]; omega)

theorem hiByte_eq_iff (v : BitVec 16) (b : BitVec 8) : hiByte v = b ↔ v.toNat / 256 = b.toNat := by
  rw [← hiByte_toNat, BitVec.toNat_inj]

theorem markerKind_eq (v : Word) : markerKind v = if v.toNat / 256 = 195 then .commit else .rollback := by
  simp only [markerKind, hiByte_eq_iff]
  rfl

theorem markerFormed_iff (v : Word) : markerFormed v = true ↔ v.toNat / 256 = 195 ∨ v.toNat / 256 = 60 := by
  simp only [markerFormed, Bool.or_eq_true, beq_iff_eq, hiByte_eq_iff]
  rfl

/-- A MARKER_FORM fault of an access raises no taint, whatever its source. -/
theorem markerForm_cau (s : State) (src : Source) (a : Access) (k : Option AccessKind) :
    (s.takeFault { accessFault .markerForm src a with access := k }).cau = s.cau := by
  have hnone : faultTaints s.rgd.table { accessFault .markerForm src a with access := k } =
      ⟨false, false, false, false⟩ := by simp [faultTaints, accessFault, bareFault]
  rw [takeFault_cau, hnone, raise_nothing]

/-- The record of a write to the marker word that is ill-formed or refused (R118, R119). -/
def State.markerRecord (s : State) (src : Source) (a : Access) : FaultRecord :=
  { kind := .markerForm, also := none, source := src, word := some a.word, region := some a.record.region
    findings := none, position := none, vital := false, epoch := s.cau.epoch, cycle := s.cau.cycle }

/-! ### A marker taken (R118, R124, R143) -/

theorem takeMarker_hbi (s : State) (a : Access) (v : Word) :
    (s.takeMarker a v).hbi = { s.hbi with access := some { a with phase := .heldMarker } } := by
  unfold State.takeMarker
  dsimp only
  split <;> rfl

theorem takeMarker_cau (s : State) (a : Access) (v : Word) :
    (s.takeMarker a v).cau = { s.cau with
      deadlineTimer := none, marker := .draining
      held := some ⟨if v.toNat / 256 = 195 then .commit else .rollback, BitVec.ofNat 8 (v.toNat % 256)⟩ } := by
  rw [← markerKind_eq, ← loByte_eq]
  unfold State.takeMarker
  dsimp only
  rw [suspendScrub_cau]
  split
  · rfl
  · rw [markerForm_cau]
    rfl

theorem takeMarker_fau (s : State) (a : Access) (v : Word) :
    (s.takeMarker a v).fau =
      if v.toNat / 256 = 195 ∨ v.toNat / 256 = 60 then s.fau else s.fau.take (s.markerRecord .marker a) := by
  unfold State.takeMarker
  dsimp only
  rw [suspendScrub_fau]
  by_cases hv : markerFormed v = true
  · rw [if_pos hv, if_pos ((markerFormed_iff v).mp hv)]
    rfl
  · rw [if_neg hv, if_neg (mt (markerFormed_iff v).mpr hv)]
    rfl

theorem takeMarker_scrub (s : State) (a : Access) (v : Word) : (s.takeMarker a v).txe.scrub = none := rfl

/-! ### The marker check (R45) -/

/-- Every access but a write to the marker word goes to the port. -/
theorem markerCheck_toPort {s : State} {a : Access} (h : a.op.kind.writes = true → a.record.marker = false) :
    s.markerCheck a = s.enterPhase a .atPort := by
  unfold State.markerCheck
  split
  next hm ho => simp [ho, hm, AccessOp.kind, AccessKind.writes] at h
  next hm ho => simp [ho, hm, AccessOp.kind, AccessKind.writes] at h
  next => rfl

theorem markerCheck_wordWrite {s : State} {a : Access} {v : Word} (hm : a.record.marker = true) (ho : a.op = .wordWrite v) :
    s.markerCheck a = s.takeMarker a v := by
  unfold State.markerCheck
  rw [hm, ho]

theorem markerCheck_byteWrite {s : State} {a : Access} {l : Lane} {b : BitVec 8} (hm : a.record.marker = true)
    (ho : a.op = .byteWrite l b) :
    s.markerCheck a = (s.takeFault (accessFault .markerForm .procWrite a)).endAccess a .berr := by
  unfold State.markerCheck
  rw [hm, ho]

/-! ### The retire hold check (R44) and the checkpoint hold check (R90, R108) -/

theorem retireCheck_passes {s : State} {a : Access} (h : a.op.kind.writes = true → s.retiring a.record.block = false) :
    s.retireCheck a = s.markerCheck a :=
  if_neg fun hc => by
    rw [Bool.and_eq_true] at hc
    exact absurd hc.2 (by simp [h hc.1])

theorem retireCheck_holds {s : State} {a : Access} (hw : a.op.kind.writes = true) (hr : s.retiring a.record.block = true) :
    s.retireCheck a = s.enterPhase a .heldRetire := if_pos (by rw [hw, hr]; rfl)

theorem holdFor_none {s : State} {a : Access}
    (h : a.record.attrs.checkpoint = true →
      a.record.block ∉ s.ckc.restore ∧ (a.record.block ∈ s.ckc.pass → a.op.kind.writes = false)) :
    s.holdFor a = none := by
  unfold State.holdFor
  split
  · rfl
  next hc =>
    obtain ⟨hr, hp⟩ := h (by simpa using hc)
    rw [if_neg hr, if_neg fun hpw => by simp [hp hpw.1] at hpw]

theorem holdFor_restore {s : State} {a : Access} (hc : a.record.attrs.checkpoint = true)
    (hr : a.record.block ∈ s.ckc.restore) : s.holdFor a = some .restore := by
  unfold State.holdFor
  rw [hc, if_neg (by decide), if_pos hr]

theorem holdFor_copy {s : State} {a : Access} (hc : a.record.attrs.checkpoint = true) (hr : a.record.block ∉ s.ckc.restore)
    (hp : a.record.block ∈ s.ckc.pass) (hw : a.op.kind.writes = true) : s.holdFor a = some .copy := by
  unfold State.holdFor
  rw [hc, if_neg (by decide), if_neg hr, if_pos ⟨hp, hw⟩]

theorem holdCheck_passes {s : State} {a : Access} (h : s.holdFor a = none) : s.holdCheck a = s.retireCheck a := by
  unfold State.holdCheck
  rw [h]

theorem holdCheck_holds {s : State} {a : Access} {m : Move} (h : s.holdFor a = some m) :
    s.holdCheck a = (s.enterPhase a .heldBlock).requestPriority m a.record.region a.record.block := by
  unfold State.holdCheck
  rw [h]

/-! ### The PRIORITY_BLOCK a held access needs (R91, R109) -/

theorem requestPriority_isOn {s : State} {m : Move} {b : Nat} (h : s.passIsOn m b = true) (r : Region) :
    s.requestPriority m r b = s := if_pos (by rw [h]; rfl)

theorem requestPriority_new {s : State} {m : Move} {b : Nat} (h : s.passIsOn m b = false) (hp : s.txe.priority = none)
    (r : Region) :
    s.requestPriority m r b = { s with txe := { s.txe with priority := some ⟨m, r, b, 0, false⟩ } } :=
  if_neg (by simp [h, hp])

/-- The pass that is on a block is ACTIVE. -/
theorem active_of_passIsOn {s : State} {m : Move} {b : Nat} (h : s.passIsOn m b = true) : s.txe.active ≠ none := by
  unfold State.passIsOn at h
  rw [Bool.and_eq_true, beq_iff_eq] at h
  rw [h.1]
  nofun

/-! ### The take (R41, R42) -/

/-- The state whose presented access has been taken away from the bus. -/
def State.unpresented (s : State) : State := { s with hbi := { s.hbi with presented := none } }

/-- A permitted access goes to its hold checks, unless it is a LOCKED sequence to the marker word. -/
theorem takeAccess_permitted {s : State} {c : BusCycle} {d : DecodeRecord} (h : s.takes c (.permitted d))
    (hm : ¬(d.marker = true ∧ (cycleOp c).kind = .locked)) :
    exec .takeAccess s = .next (s.unpresented.holdCheck (accessOf c d)).settle := by
  obtain ⟨hreset, hrun, hacc, hpres, hdec⟩ := h
  have hlocked : (d.marker && (cycleOp c).kind == .locked) = false := by simpa using hm
  have htake : s.take c = (s.unpresented.holdCheck (accessOf c d)).settle := by
    unfold State.take
    dsimp only
    rw [hdec]
    exact if_neg (by rw [hlocked]; decide)
  show execTakeAccess s = _
  rw [execTakeAccess, hpres, ← htake]
  exact congrArg Host.Outcome.next (if_pos (by rw [hreset, hrun, hacc]; rfl))

/-- The access that was taken, in the phase its checks sent it to. -/
theorem settle_enterPhase_hbi {s : State} {c : BusCycle} (d : DecodeRecord) (p : Phase) :
    (s.unpresented.enterPhase (accessOf c d) p).settle.hbi =
      { access := some { op := cycleOp c, word := c.addr.toNat / 2, record := d, phase := p, withdrawn := false }
        presented := none, busEnd := s.hbi.busEnd } := settle_hbi _

theorem settle_enterPhase_frame (s : State) (a : Access) (p : Phase) :
    { (s.unpresented.enterPhase a p).settle with hbi := s.hbi, mpt := s.mpt, txe := s.txe } = s := by
  apply State.ext <;> simp [State.unpresented]

/-- With the engine idle and nothing to do, an idle port is granted to the access that enters it (R61, R65). -/
theorem settle_enterPhase_grant {s : State} {a : Access} (hg : s.mpt.grant = .none) (ha : s.txe.active = none)
    (hh : s.txe.highest = none) :
    (s.enterPhase a .atPort).settle.mpt.grant = if a.op.kind = .locked then .locked else .processor := by
  have hsel : (s.enterPhase a .atPort).selected.txe.active = none := by
    simp [State.selected, State.selectionPoint, State.select, ha, hh]
  rw [settle_mpt_of_idle (by simpa using hg), hsel, if_neg (by decide), if_pos (by simp [State.procAsking])]
  simp [State.procGrant]

/-- Settles O21: each check lets the access pass, and the port is settled with it asking. -/
theorem takeAccessToPort : Obligations.TakeAccessToPort := by
  intro s c d ht hfree hplain
  have hnotMarker : ¬(d.marker = true ∧ (cycleOp c).kind = .locked) := fun hc => by
    simp [(hplain (by rw [hc.2]; rfl)).2] at hc
  have hport : s.unpresented.holdCheck (accessOf c d) = s.unpresented.enterPhase (accessOf c d) .atPort := by
    rw [holdCheck_passes (holdFor_none hfree), retireCheck_passes fun hw => (hplain hw).1,
      markerCheck_toPort fun hw => (hplain hw).2]
  have htake := takeAccess_permitted ht hnotMarker
  rw [hport] at htake
  exact ⟨_, htake, settle_enterPhase_hbi d .atPort, settle_enterPhase_frame s _ _,
    fun hg ha hh => settle_enterPhase_grant (s := s.unpresented) hg ha hh⟩

/-! ### An access held (R43, R44) -/

/-- What becomes of the state when an access is held for a block that move `m` must move first. -/
theorem holdCheck_settled {s : State} {a : Access} {m : Move} (h : s.unpresented.holdFor a = some m) :
    (s.unpresented.holdCheck a).settle.hbi = (s.unpresented.enterPhase a .heldBlock).hbi ∧
    { (s.unpresented.holdCheck a).settle with hbi := s.hbi, mpt := s.mpt, txe := s.txe } = s ∧
    (s.passIsOn m a.record.block = false → s.txe.priority = none →
      ∃ begun, (s.unpresented.holdCheck a).settle.txe.priority = some ⟨m, a.record.region, a.record.block, 0, begun⟩) ∧
    (s.passIsOn m a.record.block = true → (s.unpresented.holdCheck a).settle.txe = s.txe) := by
  rw [holdCheck_holds h]
  refine ⟨by simp, ?frame, fun hoff hfree => ?new, fun hon => ?isOn⟩
  case frame => apply State.ext <;> simp [State.unpresented]
  case new =>
    rw [requestPriority_new (s := s.unpresented.enterPhase a .heldBlock) hoff hfree]
    exact priority_of_unbegun (o := ⟨m, a.record.region, a.record.block, 0, false⟩) (settle_unbegun _) rfl
  case isOn =>
    rw [requestPriority_isOn (s := s.unpresented.enterPhase a .heldBlock) hon]
    exact settle_txe_of_active (s := s.unpresented.enterPhase a .heldBlock) (active_of_passIsOn hon)

/-- Settles O22: the first check that holds an access decides its phase. -/
theorem takeAccessHeld : Obligations.TakeAccessHeld := by
  intro s c d ht hnotMarker
  have htake := takeAccess_permitted ht hnotMarker
  refine ⟨fun m hck hset => ?block, fun hfree hw hretiring => ?retire⟩
  case block =>
    have hhold : s.unpresented.holdFor (accessOf c d) = some m := by
      rcases hset with ⟨hr, rfl⟩ | ⟨hr, hp, hw, rfl⟩
      · exact holdFor_restore hck hr
      · exact holdFor_copy hck hr hp hw
    obtain ⟨hhbi, hframe, hnew, hon⟩ := holdCheck_settled hhold
    exact ⟨_, htake, hhbi, hframe, hnew, hon⟩
  case retire =>
    have hheld : s.unpresented.holdCheck (accessOf c d) = s.unpresented.enterPhase (accessOf c d) .heldRetire := by
      rw [holdCheck_passes (holdFor_none fun hck => ⟨(hfree hck).1, fun hp => absurd hp (hfree hck).2⟩),
        retireCheck_holds (s := s.unpresented) (a := accessOf c d) hw hretiring]
    rw [hheld] at htake
    exact ⟨_, htake, settle_enterPhase_hbi d .heldRetire, settle_enterPhase_frame s _ _⟩

/-! ### A write to the marker word (R45) -/

/-- Settles O23: the write passes both hold checks, and the marker check takes it as a marker or refuses it. -/
theorem markerTaken : Obligations.MarkerTaken := by
  intro s c d ht hmarker hfree hretiring
  have hcheck : s.unpresented.holdCheck (accessOf c d) = s.unpresented.markerCheck (accessOf c d) := by
    rw [holdCheck_passes (holdFor_none fun hck => ⟨(hfree hck).1, fun hp => absurd hp (hfree hck).2⟩),
      retireCheck_passes fun _ => hretiring]
  refine ⟨fun v hv => ?word, fun l b hb => ?byte⟩
  case word =>
    have hop : cycleOp c = .wordWrite v := by rw [cycleOp, hv]
    have htake := takeAccess_permitted ht (by simp [hop, AccessOp.kind])
    rw [hcheck, markerCheck_wordWrite hmarker hop] at htake
    refine ⟨_, htake, ?_, ?_, ?_, scrub_none_of_unbegun (settle_unbegun _) (takeMarker_scrub _ _ _), ?_⟩
    · rw [settle_hbi, takeMarker_hbi, ← hop]
      rfl
    · rw [settle_cau, takeMarker_cau]
      rfl
    · rw [settle_fau, takeMarker_fau]
      rfl
    · apply State.ext <;> simp [State.unpresented]
  case byte =>
    have hop : cycleOp c = .byteWrite l b := by rw [cycleOp, hb]
    have htake := takeAccess_permitted ht (by simp [hop, AccessOp.kind])
    rw [hcheck, markerCheck_byteWrite hmarker hop] at htake
    have hcau := markerForm_cau s.unpresented .procWrite (accessOf c d) (some (accessOf c d).op.kind)
    refine ⟨_, htake, settle_hbi _, settle_fau _, ?_⟩
    apply State.ext <;> simp [State.unpresented]
    exact hcau

end Sys2Proof.Machine
end

section
/-! PROOFS. The processor side's groups at the port: reads, writes, and the two halves of a LOCKED sequence (R46 to R52, R54,
R55, R65). -/
namespace Sys2Proof.Machine

/-! ### The group that the port is granted for (R59) -/

theorem granted_of_portFor {s : State} {a : Access} {g : Grant} (h : s.portFor a g) {p : AccessOp → Bool}
    (hp : p a.op = true) : s.granted g p = some a := by
  obtain ⟨ha, hph, hg, -⟩ := h
  unfold State.granted
  rw [ha]
  exact if_pos ⟨hg, hph, hp⟩

theorem onPort_of_portFor {s : State} {a : Access} {g : Grant} (h : s.portFor a g) (f : State → State) :
    onPort s true [s.physWord a.word] f = .next (f s) := by
  simp [onPort, h.2.2.2]

theorem accessGroup_of_portFor {s : State} {a : Access} {g : Grant} (h : s.portFor a g) {p : AccessOp → Bool}
    (hp : p a.op = true) (f : Access → State → State) : s.accessGroup g p f = .next (f a s) := by
  rw [State.accessGroup, granted_of_portFor h hp]
  exact onPort_of_portFor h _

theorem wordWriteGranted_of_portFor {s : State} {a : Access} {d : Word} {agreed : Bool} (h : s.portFor a .processor)
    (ho : a.op = .wordWrite d) (hg : a.record.attrs.agreed = agreed) : s.wordWriteGranted agreed = some (a, d) := by
  rw [State.wordWriteGranted, granted_of_portFor h rfl]
  simp [wordWriteInto, ho, hg]

theorem byteWriteGranted_of_portFor {s : State} {a : Access} {l : Lane} {b : BitVec 8} (h : s.portFor a .processor)
    (ho : a.op = .byteWrite l b) : s.byteWriteGranted = some (a, l, b) := by
  rw [State.byteWriteGranted, granted_of_portFor h rfl]
  simp [ho]

theorem writeHalfGranted_of_portFor {s : State} {a : Access} {x : WriteHalf} (h : s.portFor a .locked)
    (ho : a.op = .locked (some x)) : s.writeHalfGranted = some (a, x) := by
  rw [State.writeHalfGranted, granted_of_portFor h rfl]
  simp [ho]

/-! ### Bytes of a word (R13) -/

theorem ofBytes_toNat (hi lo : BitVec 8) : (ofBytes hi lo).toNat = 256 * hi.toNat + lo.toNat := by
  rw [ofBytes, BitVec.toNat_append, ← Nat.shiftLeft_add_eq_or_of_lt lo.isLt, Nat.shiftLeft_eq]
  omega

theorem mergeByte_upper_toNat (b : BitVec 8) (old : Word) :
    (mergeByte .upper b old).toNat = 256 * b.toNat + old.toNat % 256 := by
  rw [mergeByte, ofBytes_toNat, loByte_toNat]

theorem mergeByte_lower_toNat (b : BitVec 8) (old : Word) :
    (mergeByte .lower b old).toNat = 256 * (old.toNat / 256) + b.toNat := by
  rw [mergeByte, ofBytes_toNat, hiByte_toNat]

/-! ### The dirty map and the end of an access (R54, R83, R84) -/

theorem add_add (b : Nat) (xs : BlockSet) : BlockSet.add b (BlockSet.add b xs) = BlockSet.add b xs := by
  induction xs with
  | nil => simp [BlockSet.add]
  | cons x t ih =>
    by_cases hlt : b < x
    · simp [BlockSet.add, hlt]
    · by_cases hbx : b = x
      · simp [BlockSet.add, hbx]
      · simp [BlockSet.add, hlt, hbx, ih]

/-- Marking a block dirty looks at the table and the Checkpoint Controller alone. -/
theorem addDirty_ckc_congr {s u : State} (h1 : u.ckc = s.ckc) (h2 : u.rgd = s.rgd) (b : Nat) :
    (u.addDirty b).ckc = (s.addDirty b).ckc := by
  unfold State.addDirty
  rw [h1, h2]
  split
  · split
    · exact h1
    · rfl
  · exact h1

/-- A block marked dirty twice is dirty once. -/
theorem addDirty_again {s u : State} {b : Nat} (h1 : u.ckc = (s.addDirty b).ckc) (h2 : u.rgd = s.rgd) :
    (u.addDirty b).ckc = (s.addDirty b).ckc := by
  rw [addDirty_ckc_congr (s := s.addDirty b) h1 (by simpa using h2)]
  unfold State.addDirty
  cases hf : firstRegion (fun _ d => d.attrs.checkpoint && d.authorised b) s.rgd.table with
  | none => simp only [hf]
  | some x =>
    by_cases hx : s.ckc.ckState.get x.1 = .none
    · simp only [hf, hx, if_true]
    · simp only [hf, hx, if_false, add_add]

theorem marked_congr {s u : State} (h1 : u.ckc = s.ckc) (h2 : u.rgd = s.rgd) (c : Bool) (a : Access) :
    u.marked c a = s.marked c a := by
  unfold State.marked
  rw [addDirty_ckc_congr h1 h2, h1]

/-- A block that may have been marked suspect and is then marked written is marked once. -/
theorem marked_again {s u : State} {c c' : Bool} {a : Access} (h1 : u.ckc = s.marked c a) (h2 : u.rgd = s.rgd)
    (hc : c = true → c' = true) : u.marked c' a = s.marked c' a := by
  cases c with
  | false => exact marked_congr h1 h2 c' a
  | true =>
    rw [hc rfl]
    exact addDirty_again h1 h2

theorem addDirtyIf_ckc (s : State) (c : Bool) (a : Access) : (s.addDirtyIf c a.record.block).ckc = s.marked c a := by
  cases c <;> rfl

theorem endAccess_hbi {s u : State} (h : u.hbi = s.hbi) (a : Access) (e : BusEnd) :
    (u.endAccess a e).hbi = s.ended a e := by
  rw [State.endAccess, State.ended, h]

/-- What the word operations of a write leave at its end: the pair of the word, with the bus, the port and the engine as they were,
and the block marked at most. -/
structure WrittenFor (s u : State) (a : Access) (d : Word) : Prop where
  planeP : u.planeP = writePlaneP s.planeP (s.physWord a.word) d
  planeQ : u.planeQ = writePlaneQ s.planeQ (s.physWord a.word) (encode d (signature a.word a.terms s.cau.epoch))
  hbi : u.hbi = s.hbi
  rgd : u.rgd = s.rgd
  txe : u.txe = s.txe
  mpt : u.mpt = s.mpt
  mli : u.mli = s.mli
  verdictDue : u.cau.verdictDue = s.cau.verdictDue
  ckc : ∃ c, u.ckc = s.marked c a ∧ (c = true → a.record.attrs.checkpoint = true)

/-- A performed write is acknowledged, its block reported written, and the port released. -/
theorem WrittenFor.done {s u : State} {a : Access} {d : Word} (h : WrittenFor s u a d) (hs : s.canonical) :
    wroteWord s (u.writeDone a) (s.physWord a.word) d (signature a.word a.terms s.cau.epoch) ∧
    (u.writeDone a).hbi = s.ended a .ackWrite ∧ (u.writeDone a).ckc = s.marked a.record.attrs.checkpoint a ∧
    portReleased s (u.writeDone a) := by
  obtain ⟨c, hckc, hc⟩ := h.ckc
  refine ⟨wrote_of_planes hs (by simpa using h.planeP) (by simpa using h.planeQ), ?hbi, ?ckc, ?port⟩
  case hbi =>
    rw [State.writeDone, releasePort_hbi]
    exact endAccess_hbi (by simpa using h.hbi) a .ackWrite
  case ckc =>
    rw [State.writeDone, releasePort_ckc, endAccess_ckc, addDirtyIf_ckc]
    exact marked_again hckc h.rgd hc
  case port =>
    exact releasePort_released (by simpa using h.txe) (by simpa using h.mpt) (by simpa using h.mli) rfl
      (by simpa using h.verdictDue)

/-! ### A bad word that ends its access (R47, R51) -/

/-- What a bad word leaves that ends its access with BERR. -/
def badWordEnds (s t : State) (a : Access) (src : Source) (rep : CheckReport) : Prop :=
  t.hbi = s.ended a .berr ∧ t.cdu.latch = some ⟨rep.cls, none⟩ ∧ t.fau = s.fau.take (s.badWordRecord a src rep) ∧
  t.ckc = s.marked (a.record.attrs.checkpoint && rep.cls == .uncorrectable) a ∧
  t.cau = s.cau.raise
    { unreadableOld := false, suspectBlock := a.record.attrs.checkpoint && rep.cls == .uncorrectable
      hostUncorrectableAgreed := hasAttr (·.agreed) s.rgd.table a.record.region, maint := false } ∧
  portReleased s t ∧
  { t with hbi := s.hbi, cdu := s.cdu, fau := s.fau, ckc := s.ckc, cau := s.cau, mpt := s.mpt, txe := s.txe } = s

/-- The source of a fault that ends its access: a read, or a byte write. -/
def endingSource (src : Source) (k : AccessKind) : Prop :=
  src = .procRead ∨ src = .procFetch ∨ src = .procWrite ∧ k = .byteWrite

theorem endingSource_flags {src : Source} {k : AccessKind} (h : endingSource src k) :
    (src == .procWrite && k == .wordWrite) = false ∧
    (src == .procRead || src == .procFetch || (src == .procWrite && k == .byteWrite)) = true := by
  rcases h with rfl | rfl | ⟨rfl, rfl⟩ <;> exact ⟨rfl, rfl⟩

theorem badWord_ends {s : State} {a : Access} {src : Source} {rep : CheckReport}
    (hbad : rep.cls = .uncorrectable ∨ rep.cls = .stale) (hdata : rep.data = none)
    (hsrc : endingSource src a.op.kind) :
    badWordEnds s (((s.loadLatch rep).reportBadWord a src rep).endAccess a .berr).releasePort a src rep := by
  have htaint := reportBadWord_cau (s.loadLatch rep) a src rep hbad
  have hrec := reportBadWord_fau (s.loadLatch rep) a src rep hbad
  refine ⟨?hbi, ?latch, ?fau, ?ckc, ?cau, ?port, ?frame⟩
  case hbi =>
    rw [releasePort_hbi]
    exact endAccess_hbi (by simp) a .berr
  case latch => simp [hdata]
  case fau =>
    rw [releasePort_fau, endAccess_fau, hrec]
    rfl
  case ckc =>
    rw [releasePort_ckc, endAccess_ckc, reportBadWord_ckc]
    exact marked_congr (s := s) (u := s.loadLatch rep) rfl rfl _ a
  case cau =>
    obtain ⟨hold, hends⟩ := endingSource_flags hsrc
    rw [releasePort_cau, endAccess_cau, htaint, hold, hends, loadLatch_cau, loadLatch_rgd, Bool.false_and, Bool.false_and,
      Bool.and_true]
  case port => exact releasePort_released (by simp) (by simp) (by simp) rfl (by simp [htaint])
  case frame => apply State.ext <;> simp

/-! ### Reads (R46, R47) -/

theorem readWell_congr {s u t : State} {w : Nat} {terms : Terms} {rep : CheckReport} {d : Word}
    (h : readWell s u w terms rep d) (hP : t.planeP = u.planeP) (hQ : t.planeQ = u.planeQ) (hF : t.fau = u.fau)
    (hS : t.sru = u.sru) : readWell s t w terms rep d := by
  unfold readWell wroteWord State.holds sameButWord at h ⊢
  rwa [hP, hQ, hF, hS]

theorem readGroup_good {s : State} {a : Access} {d : Word} (hd : (s.check true a.word a.terms).data = some d) :
    s.readGroup a =
      (((s.repair a.word a.terms (s.check true a.word a.terms)).loadLatch (s.check true a.word a.terms)).endAccess a
        (readEnd a.op d)).releasePort := by
  unfold State.readGroup
  dsimp only
  rw [hd]

theorem readGroup_bad {s : State} {a : Access} (hd : (s.check true a.word a.terms).data = none) :
    s.readGroup a =
      (((s.loadLatch (s.check true a.word a.terms)).reportBadWord a a.op.kind.source
        (s.check true a.word a.terms)).endAccess a .berr).releasePort := by
  unfold State.readGroup
  dsimp only
  rw [hd, repair_bad hd]

theorem source_of_isRead {op : AccessOp} (h : op.isRead = true) :
    op.kind.source = if op.kind = .fetch then .procFetch else .procRead := by
  cases op with
  | wordRead | fetch | byteRead => rfl
  | wordWrite | byteWrite | locked => exact Bool.noConfusion h

/-- Settles O24: the check of the read delivers its word, repaired, or ends the access. -/
theorem readGroup : Obligations.ReadGroup := by
  rintro s a rep hs hp hread rfl
  have hexec : exec .procReadGroup s = .next (s.readGroup a) := accessGroup_of_portFor hp hread _
  refine ⟨fun d hd => ?good, fun hd => ?bad⟩
  case good =>
    refine ⟨_, hexec, ?_⟩
    rw [readGroup_good hd]
    refine ⟨readWell_congr (repair_readWell hs hd) (by simp) (by simp) (by simp) (by simp), ?hbi, by simp [hd],
      releasePort_released (by simp) (by simp) (by simp) rfl (by simp), ?frame⟩
    case hbi =>
      rw [releasePort_hbi, endAccess_hbi (s := s) (by simp)]
      congr 1
      cases a.op with
      | byteRead l => cases l <;> rfl
      | _ => rfl
    case frame => apply State.ext <;> simp
  case bad =>
    refine ⟨_, hexec, ?_⟩
    rw [readGroup_bad hd, source_of_isRead hread]
    refine badWord_ends (check_bad hd) hd ?_
    split
    · exact .inr (.inl rfl)
    · exact .inl rfl

/-! ### Word writes (R48, R49, R50) -/

/-- Settles O25: one pair write, then the end of the write. -/
theorem plainWriteGroup : Obligations.PlainWriteGroup := by
  intro s a d hs hp ho hg
  have hexec : exec .procPlainWriteGroup s = .next ((s.writeWord a.word a.terms d).writeDone a) := by
    show execProcPlainWriteGroup s = _
    rw [execProcPlainWriteGroup, wordWriteGranted_of_portFor hp ho hg]
    exact onPort_of_portFor hp _
  have hwritten : WrittenFor s (s.writeWord a.word a.terms d) a d :=
    ⟨rfl, rfl, rfl, rfl, rfl, rfl, rfl, rfl, false, rfl, nofun⟩
  obtain ⟨hword, hhbi, hckc, hport⟩ := hwritten.done hs
  refine ⟨_, hexec, hword, hhbi, hckc, hport, ?_⟩
  apply State.ext <;> simp

/-- The repair field of a check with repair says what is repaired, whoever writes it (R14). -/
theorem repairByWrite_eq {u : State} {w : Nat} {rep : CheckReport} (h : rep.repair = repairFieldOf true rep.cls) :
    u.repairByWrite w rep = u.withRepair w rep := by
  unfold State.repairByWrite State.withRepair
  rw [h]
  cases rep.cls <;> rfl

theorem withRepair_congr {s u : State} (w : Nat) (rep : CheckReport) (h1 : u.fau = s.fau) (h2 : u.sru = s.sru)
    (h3 : u.rgd = s.rgd) (h4 : u.cau = s.cau) :
    (u.withRepair w rep).fau = (s.withRepair w rep).fau ∧ (u.withRepair w rep).sru = (s.withRepair w rep).sru := by
  have hrep := fun pl => reportRepair_congr w pl h1 h2 h3 (congrArg _ h4) (congrArg _ h4)
  unfold State.withRepair
  split
  · exact hrep .p
  · exact hrep .q
  all_goals exact ⟨h1, h2⟩

theorem withRepair_bad {s : State} {rep : CheckReport} (h : rep.cls = .uncorrectable ∨ rep.cls = .stale) (w : Nat) :
    s.withRepair w rep = s := by
  unfold State.withRepair
  rcases h with h | h <;> rw [h]

theorem data_of_uncorrectable {s : State} {b : Bool} {w : Nat} {t : Terms}
    (h : (s.check b w t).cls = .uncorrectable) : (s.check b w t).data = none := by
  show deliveredData (s.check b w t).cls _ _ = none
  rw [h]
  rfl

/-- The state after the check and the full write of a read-modify-write, with its repair reported (R14, R49, R51). -/
def State.rewritten (s : State) (a : Access) (d : Word) : State :=
  ((s.loadLatch (s.check true a.word a.terms)).writeWord a.word a.terms d).repairByWrite a.word
    (s.check true a.word a.terms)

theorem rewritten_repair (s : State) (a : Access) (d : Word) :
    (s.rewritten a d).fau = (s.withRepair a.word (s.check true a.word a.terms)).fau ∧
    (s.rewritten a d).sru = (s.withRepair a.word (s.check true a.word a.terms)).sru := by
  rw [State.rewritten, repairByWrite_eq rfl]
  exact withRepair_congr _ _ rfl rfl rfl rfl

@[simp] theorem rewritten_cau (s : State) (a : Access) (d : Word) : (s.rewritten a d).cau = s.cau := by
  simp [State.rewritten]
@[simp] theorem rewritten_rgd (s : State) (a : Access) (d : Word) : (s.rewritten a d).rgd = s.rgd := by
  simp [State.rewritten]
@[simp] theorem rewritten_ckc (s : State) (a : Access) (d : Word) : (s.rewritten a d).ckc = s.ckc := by
  simp [State.rewritten]
@[simp] theorem rewritten_cdu (s : State) (a : Access) (d : Word) :
    (s.rewritten a d).cdu.latch =
      some ⟨(s.check true a.word a.terms).cls, (s.check true a.word a.terms).data⟩ := by
  simp [State.rewritten]

theorem rewritten_writtenFor (s : State) (a : Access) (d : Word) : WrittenFor s (s.rewritten a d) a d where
  planeP := by simp [State.rewritten, State.physWord, State.physBlock]
  planeQ := by simp [State.rewritten, State.physWord, State.physBlock]
  hbi := by simp [State.rewritten]
  rgd := rewritten_rgd s a d
  txe := by simp [State.rewritten]
  mpt := by simp [State.rewritten]
  mli := by simp [State.rewritten]
  verdictDue := by simp
  ckc := ⟨false, rewritten_ckc s a d, nofun⟩

/-! ### A write into an AGREED region (R49, R50) -/

/-- The digest term of a write whose old word the check delivered, or counts as 0 (R49, R50). -/
def writeTerm (a : Access) (d : Word) (rep : CheckReport) : BitVec 32 := digestTerm a.word d (rep.data.getD 0)

/-- An old word that is not UNCORRECTABLE is not reported. -/
theorem agreedWrite_silent {s : State} {a : Access} (h : (s.check true a.word a.terms).cls ≠ .uncorrectable) (d : Word) :
    s.agreedWrite a d = ((s.rewritten a d).addDigest (writeTerm a d (s.check true a.word a.terms))).writeDone a := by
  unfold State.agreedWrite
  dsimp only
  rw [if_neg h]
  rfl

theorem agreedWrite_reported {s : State} {a : Access} (h : (s.check true a.word a.terms).cls = .uncorrectable) (d : Word) :
    s.agreedWrite a d =
      (((s.rewritten a d).addDigest (writeTerm a d (s.check true a.word a.terms))).reportBadWord a .procWrite
        (s.check true a.word a.terms)).writeDone a := by
  unfold State.agreedWrite
  dsimp only
  rw [if_pos h]
  rfl

/-- A digest term added leaves a write as it is. -/
theorem WrittenFor.addDigest {s u : State} {a : Access} {d : Word} (h : WrittenFor s u a d) (x : BitVec 32) :
    WrittenFor s (u.addDigest x) a d :=
  ⟨h.planeP, h.planeQ, h.hbi, h.rgd, h.txe, h.mpt, h.mli, h.verdictDue, h.ckc⟩

/-- The report of a bad old word leaves a write as it is, but for the suspect mark. -/
theorem WrittenFor.reportBadWord {s u : State} {a : Access} {d : Word} (h : WrittenFor s u a d) (hc : u.ckc = s.ckc)
    {src : Source} {rep : CheckReport} (hbad : rep.cls = .uncorrectable ∨ rep.cls = .stale) :
    WrittenFor s (u.reportBadWord a src rep) a d where
  planeP := by simpa using h.planeP
  planeQ := by simpa using h.planeQ
  hbi := by simpa using h.hbi
  rgd := by simpa using h.rgd
  txe := by simpa using h.txe
  mpt := by simpa using h.mpt
  mli := by simpa using h.mli
  verdictDue := by simpa [reportBadWord_cau _ _ _ _ hbad] using h.verdictDue
  ckc := ⟨_, (reportBadWord_ckc u a src rep).trans (marked_congr hc h.rgd _ a), fun ht => (Bool.and_eq_true_iff.mp ht).1⟩

/-- What every write into an AGREED region leaves, whatever its old word. -/
theorem agreedWrite_written {s : State} (hs : s.canonical) (a : Access) (d : Word) :
    wroteWord s (s.agreedWrite a d) (s.physWord a.word) d (signature a.word a.terms s.cau.epoch) ∧
    (s.agreedWrite a d).hbi = s.ended a .ackWrite ∧
    (s.agreedWrite a d).cdu.latch =
      some ⟨(s.check true a.word a.terms).cls, (s.check true a.word a.terms).data⟩ ∧
    (s.agreedWrite a d).ckc = s.marked a.record.attrs.checkpoint a ∧ portReleased s (s.agreedWrite a d) ∧
    (s.agreedWrite a d).sru = (s.withRepair a.word (s.check true a.word a.terms)).sru ∧
    { s.agreedWrite a d with
      planeP := s.planeP, planeQ := s.planeQ, hbi := s.hbi, cdu := s.cdu, ckc := s.ckc, cau := s.cau, fau := s.fau
      sru := s.sru, mpt := s.mpt, txe := s.txe } = s := by
  have hwritten := (rewritten_writtenFor s a d).addDigest (writeTerm a d (s.check true a.word a.terms))
  by_cases hu : (s.check true a.word a.terms).cls = .uncorrectable
  · rw [agreedWrite_reported hu]
    obtain ⟨hword, hhbi, hckc, hport⟩ := (hwritten.reportBadWord (src := .procWrite) (by simp) (.inl hu)).done hs
    refine ⟨hword, hhbi, by simp, hckc, hport, by simpa using (rewritten_repair s a d).2, ?_⟩
    apply State.ext <;> simp [State.rewritten]
  · rw [agreedWrite_silent hu]
    obtain ⟨hword, hhbi, hckc, hport⟩ := hwritten.done hs
    refine ⟨hword, hhbi, by simp, hckc, hport, by simpa using (rewritten_repair s a d).2, ?_⟩
    apply State.ext <;> simp [State.rewritten]

theorem agreedWrite_silent_cau {s : State} {a : Access} (h : (s.check true a.word a.terms).cls ≠ .uncorrectable)
    (d : Word) :
    (s.agreedWrite a d).cau =
      { s.cau with digest := s.cau.digest + writeTerm a d (s.check true a.word a.terms) } := by
  rw [agreedWrite_silent h]
  simp

theorem agreedWrite_silent_fau {s : State} {a : Access} (h : (s.check true a.word a.terms).cls ≠ .uncorrectable)
    (d : Word) : (s.agreedWrite a d).fau = (s.withRepair a.word (s.check true a.word a.terms)).fau := by
  rw [agreedWrite_silent h]
  simpa using (rewritten_repair s a d).1

/-- The record of an UNCORRECTABLE old word (R50). -/
theorem agreedWrite_reported_fau {s : State} {a : Access} (h : (s.check true a.word a.terms).cls = .uncorrectable)
    (d : Word) :
    (s.agreedWrite a d).fau = s.fau.take (s.badWordRecord a .procWrite (s.check true a.word a.terms)) := by
  have hfau := (rewritten_repair s a d).1
  rw [withRepair_bad (.inl h)] at hfau
  rw [agreedWrite_reported h, writeDone_fau, reportBadWord_fau _ _ _ _ (.inl h), addDigest_fau, hfau]
  simp [State.badWordRecord]

/-- The taint of an UNCORRECTABLE old word, beside the digest term (R50, R162). -/
theorem agreedWrite_reported_cau {s : State} {a : Access} {d : Word} (ho : a.op = .wordWrite d)
    (h : (s.check true a.word a.terms).cls = .uncorrectable) :
    (s.agreedWrite a d).cau =
      Cau.raise { s.cau with digest := s.cau.digest + writeTerm a d (s.check true a.word a.terms) }
        { unreadableOld := hasAttr (·.agreed) s.rgd.table a.record.region
          suspectBlock := a.record.attrs.checkpoint, hostUncorrectableAgreed := false, maint := false } := by
  have hends : (Source.procWrite == .procRead || Source.procWrite == .procFetch ||
      (Source.procWrite == .procWrite && (AccessOp.wordWrite d).kind == .byteWrite)) = false := rfl
  rw [agreedWrite_reported h, writeDone_cau, reportBadWord_cau _ _ _ _ (.inl h), h, ho, hends]
  simp [AccessOp.kind]

/-- Raising taint reasons does not look at the digest. -/
theorem raise_withDigest (c : Cau) (x : BitVec 32) (ts : TaintSet) :
    { Cau.raise { c with digest := x } ts with digest := c.digest } = c.raise ts := by
  unfold Cau.raise
  dsimp only
  split <;> rfl

theorem digestTerm_zero (w : Nat) (new : Word) : digestTerm w new 0 = BitVec.ofNat 32 (2 * w + 1) * new.setWidth 32 := by
  simp [digestTerm]

/-- Settles O26: whatever the old word, the write and its digest term are the same; what the check found decides the report. -/
theorem agreedWriteGroup : Obligations.AgreedWriteGroup := by
  rintro s a d rep hs hp ho hg rfl
  have hexec : exec .procAgreedWriteGroup s = .next (s.agreedWrite a d) := by
    show execProcAgreedWriteGroup s = _
    rw [execProcAgreedWriteGroup, wordWriteGranted_of_portFor hp ho hg]
    exact onPort_of_portFor hp _
  obtain ⟨hword, hhbi, hlatch, hckc, hport, hsru, hframe⟩ := agreedWrite_written hs a d
  refine ⟨_, hexec, hword, hhbi, hlatch, hckc, hport, fun old hold => ?good, fun hnone => ?bad, hframe⟩
  case good =>
    have hcls : (s.check true a.word a.terms).cls ≠ .uncorrectable := fun hu => by
      simp [data_of_uncorrectable hu] at hold
    rw [agreedWrite_silent_cau hcls, writeTerm, hold]
    exact ⟨rfl, agreedWrite_silent_fau hcls d, hsru⟩
  case bad =>
    have hterm : writeTerm a d (s.check true a.word a.terms) = BitVec.ofNat 32 (2 * a.word + 1) * d.setWidth 32 := by
      rw [writeTerm, hnone]
      exact digestTerm_zero _ _
    rw [withRepair_bad (check_bad hnone)] at hsru
    refine ⟨?digest, hsru, fun hst => ?stale, fun hu => ?uncorrectable⟩
    case digest =>
      rw [← hterm]
      by_cases hu : (s.check true a.word a.terms).cls = .uncorrectable
      · rw [agreedWrite_reported_cau ho hu, raise_digest]
      · rw [agreedWrite_silent_cau hu]
    case stale =>
      have hcls : (s.check true a.word a.terms).cls ≠ .uncorrectable := by simp [hst]
      rw [agreedWrite_silent_fau hcls, withRepair_bad (.inr hst), agreedWrite_silent_cau hcls]
      exact ⟨rfl, rfl⟩
    case uncorrectable =>
      refine ⟨agreedWrite_reported_fau hu d, ?_⟩
      rw [agreedWrite_reported_cau ho hu]
      exact raise_withDigest _ _ _

/-! ### Byte writes (R51) -/

theorem WrittenFor.addDigestIf {s u : State} {a : Access} {d : Word} (h : WrittenFor s u a d) (c : Bool) (x : BitVec 32) :
    WrittenFor s (u.addDigestIf c x) a d := by
  cases c with
  | false => exact h
  | true => exact h.addDigest x

theorem byteWrite_good {s : State} {a : Access} {old : Word} (hd : (s.check true a.word a.terms).data = some old)
    (l : Lane) (b : BitVec 8) :
    s.byteWrite a l b =
      ((s.rewritten a (mergeByte l b old)).addDigestIf a.record.attrs.agreed
        (digestTerm a.word (mergeByte l b old) old)).writeDone a := by
  unfold State.byteWrite
  dsimp only
  rw [hd]
  rfl

theorem byteWrite_bad {s : State} {a : Access} (hd : (s.check true a.word a.terms).data = none) (l : Lane) (b : BitVec 8) :
    s.byteWrite a l b =
      (((s.loadLatch (s.check true a.word a.terms)).reportBadWord a .procWrite
        (s.check true a.word a.terms)).endAccess a .berr).releasePort := by
  unfold State.byteWrite
  dsimp only
  rw [hd]

/-- Settles O27: a good old word is merged and written whole, a bad one ends the access. -/
theorem byteWriteGroup : Obligations.ByteWriteGroup := by
  rintro s a l b rep hs hp ho rfl
  have hexec : exec .procByteWriteGroup s = .next (s.byteWrite a l b) := by
    show execProcByteWriteGroup s = _
    rw [execProcByteWriteGroup, byteWriteGranted_of_portFor hp ho]
    exact onPort_of_portFor hp _
  refine ⟨fun old new hd hnew => ?good, fun hd => ?bad⟩
  case good =>
    obtain rfl : new = mergeByte l b old := by
      apply BitVec.eq_of_toNat_eq
      cases l with
      | upper => exact hnew.trans (mergeByte_upper_toNat b old).symm
      | lower => exact hnew.trans (mergeByte_lower_toNat b old).symm
    refine ⟨_, hexec, ?_⟩
    rw [byteWrite_good hd]
    obtain ⟨hword, hhbi, hckc, hport⟩ := ((rewritten_writtenFor s a (mergeByte l b old)).addDigestIf
      a.record.attrs.agreed (digestTerm a.word (mergeByte l b old) old)).done hs
    obtain ⟨hfau, hsru⟩ := rewritten_repair s a (mergeByte l b old)
    refine ⟨hword, hhbi, by simp [hd], hckc, ?_, by simpa using hfau, by simpa using hsru, hport, ?_⟩
    · rw [writeDone_cau, addDigestIf_cau, rewritten_cau]
      rfl
    · apply State.ext <;> simp [State.rewritten]
  case bad =>
    refine ⟨_, hexec, ?_⟩
    rw [byteWrite_bad hd]
    exact badWord_ends (check_bad hd) hd (.inr (.inr ⟨rfl, by rw [ho]; rfl⟩))

/-! ### LOCKED sequences (R52, R55, R65) -/

theorem lockedRead_good {s : State} {a : Access} {d : Word} (hd : (s.check true a.word a.terms).data = some d) :
    s.lockedRead a =
      if a.withdrawn then
        ((s.repair a.word a.terms (s.check true a.word a.terms)).loadLatch (s.check true a.word a.terms)).endLocked
      else
        ((s.repair a.word a.terms (s.check true a.word a.terms)).loadLatch (s.check true a.word a.terms)).openLocked a d := by
  unfold State.lockedRead
  dsimp only
  rw [hd]

theorem lockedRead_bad {s : State} {a : Access} (hd : (s.check true a.word a.terms).data = none) :
    s.lockedRead a =
      (((s.loadLatch (s.check true a.word a.terms)).reportBadWord a .procRead
        (s.check true a.word a.terms)).endAccess a .berr).releasePort := by
  unfold State.lockedRead
  dsimp only
  rw [hd, repair_bad hd]

/-- Settles O28: a good word opens the sequence, or ends it where it was withdrawn; a bad one ends it as a read. -/
theorem lockedReadHalf : Obligations.LockedReadHalf := by
  rintro s a rep hs hp ho rfl
  have hexec : exec .lockedReadHalfGroup s = .next (s.lockedRead a) :=
    accessGroup_of_portFor hp (by rw [ho]; rfl) _
  refine ⟨fun d hd => ?good, fun hd => ?bad⟩
  case good =>
    have hread := repair_readWell hs hd
    refine ⟨_, hexec, ?_⟩
    rw [lockedRead_good hd]
    cases hw : a.withdrawn with
    | false =>
      refine ⟨hread, by simp [State.openLocked, hd], fun _ => ⟨?_, repair_mpt _ _ _ _, repair_txe _ _ _ _⟩, nofun, ?_⟩
      · simp [State.openLocked, hw]
      · apply State.ext <;> simp [State.openLocked]
    | true =>
      refine ⟨readWell_congr hread (by simp) (by simp) (by simp) (by simp), by simp [hd], nofun, fun _ => ⟨?_, ?_⟩, ?_⟩
      · simp [State.endLocked]
      · exact releasePort_released (by simp) (by simp) (by simp) rfl (by simp)
      · apply State.ext <;> simp
  case bad =>
    refine ⟨_, hexec, ?_⟩
    rw [lockedRead_bad hd]
    exact badWord_ends (check_bad hd) hd (.inl rfl)

/-- Settles O29: the write half is written against the data the latch holds. -/
theorem lockedWriteHalf : Obligations.LockedWriteHalf := by
  intro s a x cls old new hs hp ho hlatch hnew
  have hold : s.cdu.latchData = old := by rw [Cdu.latchData, hlatch]; rfl
  obtain rfl : new = halfData x old := by
    apply BitVec.eq_of_toNat_eq
    match x with
    | .word d => exact hnew
    | .byte .upper b => exact hnew.trans (mergeByte_upper_toNat b old).symm
    | .byte .lower b => exact hnew.trans (mergeByte_lower_toNat b old).symm
  have hexec : exec .lockedWriteHalfGroup s =
      .next (((s.writeWord a.word a.terms (halfData x old)).addDigestIf a.record.attrs.agreed
        (digestTerm a.word (halfData x old) old)).writeDone a) := by
    show execLockedWriteHalfGroup s = _
    rw [execLockedWriteHalfGroup, writeHalfGranted_of_portFor hp ho, ← hold]
    exact onPort_of_portFor hp _
  have hwritten : WrittenFor s (s.writeWord a.word a.terms (halfData x old)) a (halfData x old) :=
    ⟨rfl, rfl, rfl, rfl, rfl, rfl, rfl, rfl, false, rfl, nofun⟩
  obtain ⟨hword, hhbi, hckc, hport⟩ := (hwritten.addDigestIf a.record.attrs.agreed
    (digestTerm a.word (halfData x old) old)).done hs
  refine ⟨_, hexec, hword, hhbi, hckc, ?_, hport, ?_⟩
  · rw [writeDone_cau, addDigestIf_cau]
    rfl
  · apply State.ext <;> simp

end Sys2Proof.Machine
end

section
/-! PROOFS. The head of the retire queue: who owns a block, when its request may be taken, and what becomes of it (R44, R149, R150,
R152). -/
namespace Sys2Proof.Machine

/-! ### The owner of a block (R149, R150, R152) -/

/-- A descriptor found is present at its entry. -/
theorem firstRegion_present {p : Region → Descriptor → Bool} {t : Table} {r : Region} {d : Descriptor}
    (h : firstRegion p t = some (r, d)) : t.get r = some d := by
  unfold firstRegion at h
  obtain ⟨r', -, hr'⟩ := List.exists_of_findSome?_eq_some h
  split at hr'
  next d' hd' =>
    split at hr'
    · cases hr'
      exact hd'
    · cases hr'
  next => cases hr'

theorem ownerOf_working {t : Table} {b : Nat} {r : Region} {d : Descriptor}
    (h : firstRegion (fun _ d => d.authorised b) t = some (r, d)) : ownerOf t b = some (r, .working) := by
  rw [ownerOf, h]

theorem ownerOf_shadow {t : Table} {b : Nat} {r : Region} {d : Descriptor}
    (ha : firstRegion (fun _ d => d.authorised b) t = none)
    (h : firstRegion (fun _ d => d.shadowAuthorised b) t = some (r, d)) : ownerOf t b = some (r, .shadow) := by
  rw [ownerOf, ha, h]

theorem ownerOf_none {t : Table} {b : Nat} (ha : firstRegion (fun _ d => d.authorised b) t = none)
    (h : firstRegion (fun _ d => d.shadowAuthorised b) t = none) : ownerOf t b = none := by
  rw [ownerOf, ha, h]

/-- The owner of a block is a present region. -/
theorem ownerOf_present {t : Table} {b : Nat} {r : Region} {part : Part} (h : ownerOf t b = some (r, part)) :
    ∃ d, t.get r = some d := by
  cases ha : firstRegion (fun _ d => d.authorised b) t with
  | some x =>
    obtain rfl : x.1 = r := by simpa using congrArg (Option.map Prod.fst) ((ownerOf_working ha).symm.trans h)
    exact ⟨x.2, firstRegion_present ha⟩
  | none =>
    cases hs : firstRegion (fun _ d => d.shadowAuthorised b) t with
    | some x =>
      obtain rfl : x.1 = r := by simpa using congrArg (Option.map Prod.fst) ((ownerOf_shadow ha hs).symm.trans h)
      exact ⟨x.2, firstRegion_present hs⟩
    | none => cases (ownerOf_none ha hs).symm.trans h

/-- A block is the shadow block of an authorised block where it lies in the shadow and its working block is authorised. -/
theorem shadowAuthorised_iff {d : Descriptor} {b : Nat} :
    d.shadowAuthorised b = true ↔
      ∃ sb, d.shadow = some sb ∧ sb ≤ b ∧ b < sb + d.span ∧ d.authorised (d.base + (b - sb)) = true := by
  rw [Descriptor.shadowAuthorised, Descriptor.inShadow, Descriptor.workingOf]
  cases d.shadow with
  | none => simp
  | some sb => simp [and_assoc]

/-! ### When the request at the head may be taken (R152) -/

/-- The working block of a block's part in region `d`. -/
def Descriptor.workingOfPart (d : Descriptor) (part : Part) (b : Nat) : Nat :=
  match part with
  | .working => b
  | .shadow => d.base + (b - d.shadow.getD 0)

theorem clearOfPasses_unowned {s : State} {b : Nat} (h : ownerOf s.rgd.table b = none) : s.clearOfPasses b = true := by
  rw [State.clearOfPasses, h]

theorem clearOfPasses_owned {s : State} {b : Nat} {r : Region} {part : Part} {d : Descriptor}
    (h : ownerOf s.rgd.table b = some (r, part)) (hd : s.rgd.table.get r = some d) :
    s.clearOfPasses b = true ↔
      s.ckc.ckState.get r ≠ .copying ∧ s.ckc.ckState.get r ≠ .restoring ∧ d.workingOfPart part b ∉ s.ckc.pass ∧
        d.workingOfPart part b ∉ s.ckc.restore := by
  rw [State.clearOfPasses, h]
  cases part <;>
    simp [State.workingBlock, hd, Descriptor.workingOf, Descriptor.workingOfPart, and_assoc]

theorem writes_iff (k : AccessKind) : k.writes = true ↔ k = .wordWrite ∨ k = .byteWrite ∨ k = .locked := by
  cases k <;> simp [AccessKind.writes]

theorem writePassed_false_iff {s : State} {b : Nat} :
    s.writePassed b = false ↔ ∀ a, s.hbi.access = some a → a.record.block = b → a.op.kind.writes = true →
      a.phase = .heldBlock ∨ a.phase = .heldRetire := by
  unfold State.writePassed
  cases s.hbi.access with
  | none => simp
  | some a =>
    have hphase : (a.phase == .atPort || a.phase == .lockedOpen || a.phase == .heldMarker) = false ↔
        a.phase = .heldBlock ∨ a.phase = .heldRetire := by cases a.phase <;> decide
    simp only [Option.some.injEq, forall_eq', ← hphase]
    by_cases hb : a.record.block = b <;> cases a.op.kind.writes <;> simp [hb]

/-- The two conditions of R152 on the block, as the model computes them. -/
theorem headFree_iff {s : State} {b : Nat} : s.headFree b ↔ s.clearOfPasses b = true ∧ s.writePassed b = false := by
  rw [writePassed_false_iff]
  unfold State.headFree
  simp only [← writes_iff]
  refine and_congr_left' ⟨fun h => ?clear, fun h r part d wb ho hd hwb => ?apart⟩
  case clear =>
    cases ho : ownerOf s.rgd.table b with
    | none => exact clearOfPasses_unowned ho
    | some x =>
      obtain ⟨d, hd⟩ := ownerOf_present ho
      exact (clearOfPasses_owned ho hd).mpr (h x.1 x.2 d _ ho hd rfl)
  case apart =>
    have hapart := (clearOfPasses_owned ho hd).mp h
    obtain rfl : wb = d.workingOfPart part b := hwb
    exact hapart

theorem mayRetire_iff {s : State} {b : Nat} :
    s.mayRetire b = true ↔
      (s.mli.control = .run ∨ s.mli.control = .hold) ∧ s.txe.retire = none ∧ s.headFree b := by
  rw [headFree_iff, State.mayRetire]
  simp [and_assoc]

/-! ### The spare chosen (R152) -/

theorem freeSpare_some {s : State} {i : Nat} (hi : i < s.mli.params.spareCount) (hfree : ∀ e ∈ s.sru.remap, e.spare ≠ i)
    (hlow : ∀ j < i, ∃ e ∈ s.sru.remap, e.spare = j) : s.freeSpare = some i := by
  rw [State.freeSpare, List.find?_range_eq_some]
  refine ⟨by simpa using hfree, List.mem_range.mpr hi, fun j hj => ?_⟩
  simpa using hlow j hj

theorem freeSpare_none {s : State} (h : ∀ i < s.mli.params.spareCount, ∃ e ∈ s.sru.remap, e.spare = i) :
    s.freeSpare = none := by
  rw [State.freeSpare, List.find?_eq_none]
  intro i hi
  simpa using h i (List.mem_range.mp hi)

/-! ### The take (R152) -/

theorem dequeue_head {u : Sru} {b : Nat} {rest : List Nat} (h : u.retireQueue = b :: rest) :
    u.dequeue b = { u with retireQueue := rest } := by
  rw [Sru.dequeue, h]
  exact if_pos rfl

theorem dequeue_eq (u : Sru) (b : Nat) :
    u.dequeue b =
      { u with retireQueue := if u.retireQueue.head? = some b then u.retireQueue.tail else u.retireQueue } := by
  obtain ⟨cursor, timer, history, queue, remap⟩ := u
  cases queue with
  | nil => rfl
  | cons x t => by_cases hx : x = b <;> simp [Sru.dequeue, hx]

theorem retireTake_head {s : State} {b : Nat} {rest : List Nat} (h : s.sru.retireQueue = b :: rest) :
    exec .retireTake s = .next (if s.mayRetire b then s.takeRetire b else s) := by
  show execRetireTake s = _
  rw [execRetireTake, h]

theorem takeRetire_unowned {s : State} {b : Nat} (h : ownerOf s.rgd.table b = none) :
    s.takeRetire b = { s with sru := s.sru.dequeue b } := by
  rw [State.takeRetire, h]

theorem takeRetire_spare {s : State} {b i : Nat} {r : Region} {part : Part}
    (h : ownerOf s.rgd.table b = some (r, part)) (hi : s.freeSpare = some i) :
    s.takeRetire b = State.settle { s with txe := { s.txe with retire := some ⟨b, r, part, i, 0, false⟩ } } := by
  rw [State.takeRetire, h, hi]

theorem takeRetire_exhausted {s : State} {b : Nat} {r : Region} {part : Part}
    (h : ownerOf s.rgd.table b = some (r, part)) (hi : s.freeSpare = none) :
    s.takeRetire b =
      State.takeFault { s with sru := s.sru.dequeue b }
        (retireFault s.rgd.table .sparesExhausted b (b * Config.blockWords)) := by
  rw [State.takeRetire, h, hi]

/-- The fault of a request dropped for want of a spare: it raises no taint and names the block's first word. -/
theorem sparesExhausted_taken {s : State} {b : Nat} {r : Region} {part : Part}
    (h : ownerOf s.rgd.table b = some (r, part)) :
    s.takeFault (retireFault s.rgd.table .sparesExhausted b (b * Config.blockWords)) =
      { s with
        fau := s.fau.take
          { kind := .sparesExhausted, also := none, source := .engineRetire, word := some (b * 128), region := some r
            findings := none, position := some ⟨r, part, b, 0⟩, vital := false, epoch := s.cau.epoch
            cycle := s.cau.cycle } } := by
  have hcau := retireFault_cau s .sparesExhausted b (b * Config.blockWords) (.inr rfl)
  have hrec : s.recordOf (retireFault s.rgd.table .sparesExhausted b (b * Config.blockWords)) =
      { kind := .sparesExhausted, also := none, source := .engineRetire, word := some (b * 128), region := some r
        findings := none, position := some ⟨r, part, b, 0⟩, vital := false, epoch := s.cau.epoch
        cycle := s.cau.cycle } := by
    simp [State.recordOf, retireFault, bareFault, h, positionIn, faultVital, Config.blockWords]
  rw [State.takeFault, hrec]
  exact State.ext rfl rfl rfl rfl rfl rfl rfl hcau rfl rfl rfl rfl rfl rfl rfl rfl

/-- Settles O43: the conditions of the take are those the model computes, and the owner and the spares decide what it does. -/
theorem retireTaken : Obligations.RetireTaken := by
  refine ⟨fun t b => ⟨?working, ?shadow, ?none⟩, ?empty, ?head⟩
  case working =>
    intro r d hr hd hu
    exact ownerOf_working (firstRegion_unique hr hd hu)
  case shadow =>
    intro r d sb hr hsb hlo hhi hauth hu
    refine ownerOf_shadow (firstRegion_none fun r' d' hr' => (hu r' d' hr').1)
      (firstRegion_unique hr (shadowAuthorised_iff.mpr ⟨sb, hsb, hlo, hhi, hauth⟩) fun r' d' hr' hd' => ?_)
    exact (hu r' d' hr').2 (Bool.and_eq_true_iff.mp hd').1
  case none =>
    intro h
    refine ownerOf_none (firstRegion_none fun r d hr => (h r d hr).1) (firstRegion_none fun r d hr => ?_)
    refine Bool.eq_false_iff.mpr fun hsh => ?_
    obtain ⟨sb, hsb, hlo, hhi, hauth⟩ := shadowAuthorised_iff.mp hsh
    exact Bool.false_ne_true (((h r d hr).2 sb hsb hlo hhi).symm.trans hauth)
  case empty =>
    intro s hq
    show execRetireTake s = _
    rw [execRetireTake, hq]
  case head =>
    intro s b rest hq
    rw [retireTake_head hq]
    refine ⟨fun hkeep => ?kept, fun hrun hslot hfree => ?taken⟩
    case kept =>
      rw [if_neg]
      rw [mayRetire_iff]
      rintro ⟨hrun, hslot, hfree⟩
      rcases hkeep with hc | hc | hs | hf
      · simp [hc] at hrun
      · simp [hc] at hrun
      · exact hs hslot
      · exact hf hfree
    case taken =>
      rw [if_pos (mayRetire_iff.mpr ⟨hrun, hslot, hfree⟩)]
      refine ⟨fun ho => ?_, fun r part ho => ⟨fun i hi hunused hlow => ?_, fun hnone => ?_⟩⟩
      · rw [takeRetire_unowned ho, dequeue_head hq]
      · rw [takeRetire_spare ho (freeSpare_some hi hunused hlow)]
        obtain ⟨begun, hb⟩ := retire_of_unbegun (o := ⟨b, r, part, i, 0, false⟩)
          (settle_unbegun { s with txe := { s.txe with retire := some ⟨b, r, part, i, 0, false⟩ } }) rfl
        refine ⟨_, begun, rfl, hb, ?_⟩
        apply State.ext <;> simp
      · rw [takeRetire_exhausted ho (freeSpare_none hnone), dequeue_head hq]
        exact congrArg Host.Outcome.next
          (sparesExhausted_taken (s := { s with sru := { s.sru with retireQueue := rest } }) ho)

end Sys2Proof.Machine
end

section
/-! PROOFS. A retire copy that fails: what it leaves of the sets, the region, the access held and the faults (R74, R104, R113,
R156). -/
namespace Sys2Proof.Machine

/-! ### A verdict at hand (R124, R125) -/

theorem fixable_isSome {s : State} :
    s.fixable.isSome = true ↔
      s.cau.marker = .draining ∧ s.cau.held ≠ none ∧ s.cau.localMark = none ∧ s.passInFlight = false := by
  unfold State.fixable
  split
  next h => simp [h.1, Option.isNone_iff_eq_none.mp h.2.1, h.2.2, Option.isSome_iff_ne_none]
  next h =>
    refine iff_of_false Bool.false_ne_true fun ⟨hm, _, hl, hp⟩ => h ⟨hm, by rw [hl]; rfl, hp⟩

theorem fixingDecides_iff {s : State} :
    s.fixingDecides = true ↔ s.mli.params.twinMode = .single ∨ s.twl.linkUp = false ∨ s.cau.slot ≠ none := by
  unfold State.fixingDecides
  cases s.mli.params.twinMode <;> simp [Option.isSome_iff_ne_none]

theorem verdictAtHand_iff {s : State} :
    s.verdictAtHand = true ↔
      s.cau.marker = .draining ∧ s.cau.held ≠ none ∧ s.cau.localMark = none ∧ s.passInFlight = false ∧
        (s.mli.params.twinMode = .single ∨ s.twl.linkUp = false ∨ s.cau.slot ≠ none) := by
  rw [State.verdictAtHand, Bool.and_eq_true, fixable_isSome, fixingDecides_iff]
  simp only [and_assoc]

theorem passInFlight_congr {s u : State} (h : u.ckc.ckState = s.ckc.ckState) : u.passInFlight = s.passInFlight := by
  rw [State.passInFlight, State.passInFlight, State.copyPassInFlight, State.copyPassInFlight, State.restorePassInFlight,
    State.restorePassInFlight, h]

theorem verdictAtHand_congr {s u : State} (h1 : u.cau = s.cau) (h2 : u.ckc.ckState = s.ckc.ckState) (h3 : u.mli = s.mli)
    (h4 : u.twl = s.twl) : u.verdictAtHand = s.verdictAtHand := by
  rw [Bool.eq_iff_iff, verdictAtHand_iff, verdictAtHand_iff, h1, h3, h4, passInFlight_congr h2]

/-! ### The retire slot and the FIFO empty -/

/-- No retire copy is in the operation table, and the FIFO is empty. -/
def Txe.retireIdle (x : Txe) : Prop := x.retire = none ∧ x.fifo = [] ∧ x.fifoMode = .empty

theorem retireIdle_of_unbegun {x y : Txe} (h : y.unbegun = x.unbegun) (hx : x.retireIdle) : y.retireIdle :=
  ⟨retire_none_of_unbegun h hx.1, (congrArg Txe.fifo h).trans hx.2.1, (congrArg Txe.fifoMode h).trans hx.2.2⟩

/-- Flushing the FIFO with the retire copy taken out of the table leaves both empty. -/
theorem dropRetire_retireIdle (x : Txe) : Txe.retireIdle { x.dropRetire with fifo := [], fifoMode := .empty } := by
  refine ⟨?_, rfl, rfl⟩
  show x.dropRetire.retire = none
  unfold Txe.dropRetire
  split <;> rfl

theorem markStale_retireIdle {s : State} (h : s.txe.retireIdle) (m : Move) : (s.markStale m).txe.retireIdle := by
  have hpass (o) : (s.txe.setPass m o).retireIdle := retireIdle_of_unbegun (setPass_unbegun _ _ _) h
  unfold State.markStale
  split
  · split
    · split
      · exact h
      · exact hpass _
    · exact h
  · exact h

theorem withdrawPriority_retireIdle {s : State} (h : s.txe.retireIdle) (m : Move) :
    (s.withdrawPriority m).txe.retireIdle := by
  rcases withdrawPriority_cases s m with ⟨he, -⟩ | ⟨_, -, -, -, he⟩ <;> rw [he]
  · exact h
  · exact h

theorem takeMarker_retireIdle {s : State} (h : s.txe.retireIdle) (a : Access) (v : Word) :
    (s.takeMarker a v).txe.retireIdle := by
  unfold State.takeMarker
  dsimp only
  split <;> exact h

theorem markerCheck_retireIdle {s : State} (h : s.txe.retireIdle) (a : Access) : (s.markerCheck a).txe.retireIdle := by
  unfold State.markerCheck
  split
  · exact takeMarker_retireIdle h _ _
  · exact h
  · exact h

theorem releaseRetire_retireIdle {s : State} (h : s.txe.retireIdle) (b : Nat) : (s.releaseRetire b).txe.retireIdle := by
  unfold State.releaseRetire
  split
  · split
    · exact markerCheck_retireIdle h _
    · exact h
  · exact h

/-! ### An access held for a block, released (R92, R110) -/

/-- With no retire copy in flight, an access held for a block and not to the marker word goes to the port. -/
theorem releaseHeld_toPort {s : State} {p : Access → Bool} {a : Access} (ha : s.hbi.access = some a)
    (hph : a.phase = .heldBlock) (hp : p a = true) (hr : s.txe.retire = none) (hm : a.record.marker = false) :
    s.releaseHeld p = s.enterPhase a .atPort := by
  unfold State.releaseHeld
  rw [ha]
  dsimp only
  rw [if_pos ⟨hph, hp⟩, retireCheck_passes fun _ => by rw [State.retiring, hr], markerCheck_toPort fun _ => hm]

theorem releaseHeld_nobody {s : State} {p : Access → Bool}
    (h : ∀ a, s.hbi.access = some a → a.phase = .heldBlock → p a = false) : s.releaseHeld p = s := by
  unfold State.releaseHeld
  split
  next a ha => exact if_neg fun hc => by simp [h a ha hc.1] at hc
  next => rfl

/-- The bus interface after the accesses held for a block of region `r` were released to the port. -/
def Hbi.releasedFrom (u : Hbi) (r : Region) : Hbi :=
  { u with access := u.access.map fun a =>
      if a.phase = .heldBlock ∧ a.record.region = r then { a with phase := .atPort } else a }

/-- The access held for a block of region `r`, if there is one, is not to the marker word. -/
def State.heldOff (s : State) (r : Region) : Prop :=
  ∀ a, s.hbi.access = some a → a.phase = .heldBlock → a.record.region = r → a.record.marker = false

/-- What the release of a region's held access leaves, with no retire copy in flight. -/
theorem releaseHeld_region {s : State} {r : Region} (hr : s.txe.retire = none) (hoff : s.heldOff r) :
    s.releaseHeld (fun a => decide (a.record.region = r)) = { s with hbi := s.hbi.releasedFrom r } := by
  cases ha : s.hbi.access with
  | none =>
    rw [releaseHeld_nobody (by simp [ha]), Hbi.releasedFrom, ha, Option.map_none, ← ha]
  | some a =>
    by_cases hheld : a.phase = .heldBlock ∧ a.record.region = r
    · rw [releaseHeld_toPort ha hheld.1 (decide_eq_true hheld.2) hr (hoff a ha hheld.1 hheld.2), Hbi.releasedFrom, ha,
        Option.map_some, if_pos hheld]
      rfl
    · have hnobody : ∀ a', s.hbi.access = some a' → a'.phase = .heldBlock → decide (a'.record.region = r) = false := by
        intro a' ha' hph
        obtain rfl : a = a' := Option.some.inj (ha.symm.trans ha')
        exact decide_eq_false fun hreg => hheld ⟨hph, hreg⟩
      rw [releaseHeld_nobody hnobody, Hbi.releasedFrom, ha, Option.map_some, if_neg hheld, ← ha]

/-! ### A region's shadow broken (R95, R113) -/

/-- What a break of region `r` leaves of the sets and states: a VALID region is BROKEN, one in a pass leaves it. -/
def Ckc.shadowBroken (c : Ckc) (t : Table) (r : Region) : Ckc :=
  match c.ckState.get r with
  | .valid => c.setState r .broken
  | .copying => c.breakPass t .copy r
  | .restoring => c.breakPass t .restore r
  | .broken | .none => c

/-- The region is in a pass, as COPYING or RESTORING. -/
def CkState.inPass (x : CkState) : Prop := x = .copying ∨ x = .restoring

/-- A break of a region in a pass, with no retire copy in flight: its held access goes to the port. -/
theorem breakPass_effect {s : State} {r : Region} (hi : s.txe.retireIdle) (hoff : s.heldOff r) (m : Move) :
    (s.breakPass m r).txe.retireIdle ∧ (s.breakPass m r).hbi = s.hbi.releasedFrom r ∧ (s.breakPass m r).cau = s.cau ∧
      (s.breakPass m r).fau = s.fau ∧ (s.breakPass m r).ckc = s.ckc.breakPass s.rgd.table m r := by
  have hidle := withdrawPriority_retireIdle
    (markStale_retireIdle (s := { s with ckc := s.ckc.breakPass s.rgd.table m r }) hi m) m
  have hheld := releaseHeld_region (r := r) hidle.1 (by simpa [State.heldOff] using hoff)
  rw [State.breakPass, hheld]
  exact ⟨hidle, by simp, by simp, by simp, by simp⟩

/-- A break of a region, with no retire copy in flight. -/
theorem shadowBreak_effect {s : State} {r : Region} (hi : s.txe.retireIdle) (hoff : s.heldOff r) :
    (s.shadowBreak r).txe.retireIdle ∧ (s.shadowBreak r).cau = s.cau ∧ (s.shadowBreak r).fau = s.fau ∧
      (s.shadowBreak r).ckc = s.ckc.shadowBroken s.rgd.table r ∧
      ((s.ckc.ckState.get r).inPass → (s.shadowBreak r).hbi = s.hbi.releasedFrom r) ∧
      (¬(s.ckc.ckState.get r).inPass → (s.shadowBreak r).hbi = s.hbi) := by
  have hpass (m : Move) := breakPass_effect hi hoff m
  unfold State.shadowBreak Ckc.shadowBroken
  cases s.ckc.ckState.get r with
  | valid => exact ⟨hi, rfl, rfl, rfl, by simp [CkState.inPass], fun _ => rfl⟩
  | copying =>
    obtain ⟨hidle, hhbi, hcau, hfau, hckc⟩ := hpass .copy
    exact ⟨hidle, hcau, hfau, hckc, fun _ => hhbi, fun h => absurd (.inl rfl) h⟩
  | restoring =>
    obtain ⟨hidle, hhbi, hcau, hfau, hckc⟩ := hpass .restore
    exact ⟨hidle, hcau, hfau, hckc, fun _ => hhbi, fun h => absurd (.inr rfl) h⟩
  | broken => exact ⟨hi, rfl, rfl, rfl, by simp [CkState.inPass], fun _ => rfl⟩
  | none => exact ⟨hi, rfl, rfl, rfl, by simp [CkState.inPass], fun _ => rfl⟩

/-! ### The sets of a broken region -/

theorem mem_add {b x : Nat} {xs : BlockSet} : x ∈ BlockSet.add b xs ↔ x = b ∨ x ∈ xs := by
  induction xs with
  | nil => simp [BlockSet.add]
  | cons y t ih =>
    unfold BlockSet.add
    split
    · simp
    · split
      next h => simp [h]
      next => simp only [List.mem_cons, ih]; tauto

theorem mem_addAll {x : Nat} {bs : List Nat} {xs : BlockSet} : x ∈ BlockSet.addAll bs xs ↔ x ∈ bs ∨ x ∈ xs := by
  induction bs generalizing xs with
  | nil => simp [BlockSet.addAll]
  | cons b bs ih =>
    show x ∈ BlockSet.addAll bs (BlockSet.add b xs) ↔ _
    rw [ih, mem_add, List.mem_cons]
    tauto

theorem mem_ofRegion {t : Table} {r : Region} {d : Descriptor} (h : t.get r = some d) {x : Nat} {xs : BlockSet} :
    x ∈ BlockSet.ofRegion t r xs ↔ x ∈ xs ∧ d.authorised x = true := by
  rw [BlockSet.ofRegion, h]
  exact List.mem_filter

theorem mem_outside {t : Table} {r : Region} {d : Descriptor} (h : t.get r = some d) {x : Nat} {xs : BlockSet} :
    x ∈ BlockSet.outside t r xs ↔ x ∈ xs ∧ d.authorised x = false := by
  rw [BlockSet.outside, h]
  simp

theorem shadowBroken_ckState (c : Ckc) (t : Table) (r : Region) :
    (c.shadowBroken t r).ckState =
      if c.ckState.get r = .valid ∨ c.ckState.get r = .copying ∨ c.ckState.get r = .restoring then
        c.ckState.set r .broken
      else c.ckState := by
  unfold Ckc.shadowBroken
  cases c.ckState.get r <;> simp [Ckc.setState, Ckc.breakPass]

/-- The blocks of a region that leaves a copy pass go back from S to D; those of one that leaves a restore pass leave R. -/
theorem mem_shadowBroken {c : Ckc} {t : Table} {r : Region} {d : Descriptor} (h : t.get r = some d) (x : Nat) :
    (x ∈ (c.shadowBroken t r).pass ↔ x ∈ c.pass ∧ (c.ckState.get r = .copying → d.authorised x = false)) ∧
    (x ∈ (c.shadowBroken t r).restore ↔ x ∈ c.restore ∧ (c.ckState.get r = .restoring → d.authorised x = false)) ∧
    (x ∈ (c.shadowBroken t r).dirty ↔
      x ∈ c.dirty ∨ c.ckState.get r = .copying ∧ x ∈ c.pass ∧ d.authorised x = true) := by
  unfold Ckc.shadowBroken
  cases c.ckState.get r with
  | copying =>
    simp [Ckc.setState, Ckc.breakPass, mem_outside h, mem_addAll, mem_ofRegion h, or_comm]
  | restoring => simp [Ckc.setState, Ckc.breakPass, mem_outside h]
  | valid | broken | none => simp [Ckc.setState]

/-! ### A write released from HELD_RETIRE (R44, R45) -/

theorem releaseRetire_held {s : State} {a : Access} {b : Nat} (ha : s.hbi.access = some a) (hph : a.phase = .heldRetire)
    (hb : a.record.block = b) : s.releaseRetire b = s.markerCheck a := by
  unfold State.releaseRetire
  rw [ha]
  exact if_pos ⟨hph, hb⟩

theorem releaseRetire_nobody {s : State} {b : Nat}
    (h : ∀ a, s.hbi.access = some a → ¬(a.phase = .heldRetire ∧ a.record.block = b)) : s.releaseRetire b = s := by
  unfold State.releaseRetire
  split
  next a ha => exact if_neg (h a ha)
  next => rfl

/-- An engine group that ends with no write to release leaves the bus, the cycle and the faults as its reports left them. -/
theorem releaseRetire_settled {u : State} {b : Nat} {h : Hbi} {c : Cau} {f : Fau} (asked : Bool) (hh : u.hbi = h)
    (hc : u.cau = c) (hf : u.fau = f) (hn : ∀ a, h.access = some a → ¬(a.phase = .heldRetire ∧ a.record.block = b)) :
    ((u.releaseRetire b).engineSelectEnd asked).cau = c ∧ ((u.releaseRetire b).engineSelectEnd asked).fau = f ∧
      ((u.releaseRetire b).engineSelectEnd asked).hbi = h := by
  rw [releaseRetire_nobody (hh.symm ▸ hn)]
  simp [hh, hc, hf]

/-- What holds of the current access holds of every one, since there is no other. -/
theorem only_access {u : Hbi} {a : Access} {p : Access → Prop} (ha : u.access = some a) :
    (∀ a', u.access = some a' → p a') ↔ p a := by
  simp [ha]

/-- The marker check is what becomes of a released write, from a state `u` with the bus of `s` and its epoch and cycle. -/
theorem markerCheck_writeReleased {s u t : State} {a : Access} (hu : u.hbi = s.hbi) (he : u.cau.epoch = s.cau.epoch)
    (hn : u.cau.cycle = s.cau.cycle) (hhbi : t.hbi = (u.markerCheck a).hbi) (hcau : t.cau = (u.markerCheck a).cau)
    (hfau : t.fau = (u.markerCheck a).fau) (hscrub : (u.markerCheck a).txe.scrub = none → t.txe.scrub = none) :
    writeReleased s t u.cau u.fau a := by
  have hrec (src : Source) : u.markerRecord src a = s.markerRecord src a := by
    rw [State.markerRecord, State.markerRecord, he, hn]
  rw [writeReleased, ← hu]
  refine ⟨fun hm => ?plain, fun hm => ⟨fun v ho => ?marker, fun l b ho => ?refused⟩⟩
  case plain =>
    rw [markerCheck_toPort fun _ => hm] at hhbi hcau hfau
    exact ⟨hhbi, hcau, hfau⟩
  case marker =>
    rw [markerCheck_wordWrite hm ho] at hhbi hcau hfau hscrub
    rw [takeMarker_fau, hrec] at hfau
    exact ⟨hhbi.trans (takeMarker_hbi u a v), hcau.trans (takeMarker_cau u a v), hfau, hscrub (takeMarker_scrub u a v)⟩
  case refused =>
    rw [markerCheck_byteWrite hm ho] at hhbi hcau hfau
    rw [endAccess_cau] at hcau
    rw [endAccess_fau] at hfau
    refine ⟨hhbi.trans (endAccess_hbi (by rw [takeFault_hbi, hu]) a .berr),
      hcau.trans (markerForm_cau u .procWrite a (some a.op.kind)), hfau.trans ?_⟩
    exact congrArg u.fau.take (hrec .procWrite)

/-! ### The end of an engine group (R62) -/

@[simp] theorem portAfterEngine_unbegun (s : State) (asked : Bool) :
    (s.portAfterEngine asked).txe.unbegun = s.txe.unbegun := by
  unfold State.portAfterEngine
  dsimp only
  split
  · exact settle_unbegun _
  · (repeat' split) <;> rfl

@[simp] theorem engineSelectEnd_unbegun (s : State) (asked : Bool) :
    (s.engineSelectEnd asked).txe.unbegun = s.txe.unbegun :=
  (portAfterEngine_unbegun _ _).trans (selectionPoint_unbegun s)

/-! ### The failure reported (R74, R104, R156) -/

/-- The state with the retire copy out of the operation table and the FIFO flushed (R74). -/
def State.retireDropped (s : State) : State := { s with txe := { s.txe.dropRetire with fifo := [], fifoMode := .empty } }

/-- The state with a failed retire copy out of the operation table and its mark made: a working block of a CHECKPOINT region is dirty,
a shadow's region is broken. -/
def State.retireBroken (s : State) (o : RetireOp) : State :=
  match o.part with
  | .working => s.retireDropped.addDirtyIf (checkpointed s.rgd.table o.block) o.block
  | .shadow => s.retireDropped.shadowBreak o.region

/-- The state in which a write held for the failed copy is released: the failure reported and the request off the queue. -/
def State.retireReported (s : State) (o : RetireOp) (w : Nat) (rep : CheckReport) : State :=
  { (s.retireBroken o).takeRetireFault (retireFailedFault s o w rep) with sru := (s.retireBroken o).sru.dequeue o.block }

/-- A failed retire copy is marked and reported, leaves the queue, and lets a write held for it go on. -/
theorem retireFails_eq (s : State) (o : RetireOp) (w : Nat) (rep : CheckReport) :
    s.retireFails o w rep = (s.retireReported o w rep).releaseRetire o.block := by
  unfold State.retireFails State.retireReported State.retireBroken State.retireDropped retireFailedFault
  cases o.part <;> simp

theorem retireRead_bad {s : State} {o : RetireOp}
    (h : (s.check true (o.word o.offset) (s.terms (o.word o.offset))).data = none) :
    s.retireRead o =
      (s.retireFails o (o.word o.offset) (s.check true (o.word o.offset) (s.terms (o.word o.offset)))).engineSelectEnd
        s.procAsking := by
  unfold State.retireRead
  dsimp only
  rw [h, repair_bad h]

theorem retireBroken_working {s : State} {o : RetireOp} (h : o.part = .working) :
    s.retireBroken o = s.retireDropped.addDirtyIf (checkpointed s.rgd.table o.block) o.block := by
  rw [State.retireBroken, h]

theorem retireBroken_shadow {s : State} {o : RetireOp} (h : o.part = .shadow) :
    s.retireBroken o = s.retireDropped.shadowBreak o.region := by
  rw [State.retireBroken, h]

@[simp] theorem retireBroken_sru (s : State) (o : RetireOp) : (s.retireBroken o).sru = s.sru := by
  unfold State.retireBroken; split <;> simp [State.retireDropped]
@[simp] theorem retireBroken_mli (s : State) (o : RetireOp) : (s.retireBroken o).mli = s.mli := by
  unfold State.retireBroken; split <;> simp [State.retireDropped]
@[simp] theorem retireBroken_twl (s : State) (o : RetireOp) : (s.retireBroken o).twl = s.twl := by
  unfold State.retireBroken; split <;> simp [State.retireDropped]

/-- Whatever part it copied, a failed retire copy leaves the operation table and the FIFO, and no fault or taint yet. -/
theorem retireBroken_effect {s : State} {o : RetireOp} (hoff : s.heldOff o.region) :
    (s.retireBroken o).txe.retireIdle ∧ (s.retireBroken o).cau = s.cau ∧ (s.retireBroken o).fau = s.fau := by
  have hidle : s.retireDropped.txe.retireIdle := dropRetire_retireIdle s.txe
  cases hpart : o.part with
  | working =>
    rw [retireBroken_working hpart]
    exact ⟨by simpa using hidle, by simp [State.retireDropped], by simp [State.retireDropped]⟩
  | shadow =>
    rw [retireBroken_shadow hpart]
    obtain ⟨hi, hcau, hfau, -⟩ := shadowBreak_effect (s := s.retireDropped) hidle hoff
    exact ⟨hi, hcau, hfau⟩

theorem retireBroken_ckc_working {s : State} {o : RetireOp} (h : o.part = .working) :
    (s.retireBroken o).ckc =
      if checkpointed s.rgd.table o.block then (s.addDirty o.block).ckc else s.ckc := by
  rw [retireBroken_working h]
  cases checkpointed s.rgd.table o.block with
  | true => exact addDirty_ckc_congr (s := s) (u := s.retireDropped) rfl rfl o.block
  | false => rfl

theorem retireBroken_ckc_shadow {s : State} {o : RetireOp} (h : o.part = .shadow) (hoff : s.heldOff o.region) :
    (s.retireBroken o).ckc = s.ckc.shadowBroken s.rgd.table o.region := by
  rw [retireBroken_shadow h]
  obtain ⟨-, -, -, hckc, -⟩ := shadowBreak_effect (s := s.retireDropped) (dropRetire_retireIdle s.txe) hoff
  exact hckc

/-- The bus interface with no access held for a block of region `r`. -/
theorem releasedFrom_eq {u : Hbi} {r : Region}
    (h : ∀ a, u.access = some a → ¬(a.phase = .heldBlock ∧ a.record.region = r)) : u.releasedFrom r = u := by
  cases ha : u.access with
  | none => rw [Hbi.releasedFrom, ha, Option.map_none, ← ha]
  | some a => rw [Hbi.releasedFrom, ha, Option.map_some, if_neg (h a ha), ← ha]

/-- An access held for a block of the broken pass goes to the port; any other stays as it is. -/
theorem retireBroken_hbi {s : State} {o : RetireOp} (hoff : s.heldOff o.region) :
    (o.part = .shadow ∧ (s.ckc.ckState.get o.region).inPass →
      (s.retireBroken o).hbi = s.hbi.releasedFrom o.region) ∧
    (¬(o.part = .shadow ∧ (s.ckc.ckState.get o.region).inPass) → (s.retireBroken o).hbi = s.hbi) := by
  cases hpart : o.part with
  | working =>
    rw [retireBroken_working hpart]
    exact ⟨nofun, fun _ => by simp [State.retireDropped]⟩
  | shadow =>
    obtain ⟨-, -, -, -, hin, hout⟩ :=
      shadowBreak_effect (s := s.retireDropped) (dropRetire_retireIdle s.txe) hoff
    rw [retireBroken_shadow hpart]
    exact ⟨fun h => hin h.2, fun h => hout fun hx => h ⟨rfl, hx⟩⟩

theorem retireBroken_hbi_kept {s : State} {o : RetireOp} (hoff : s.heldOff o.region)
    (h : ∀ a, s.hbi.access = some a →
      ¬(a.phase = .heldBlock ∧ a.record.region = o.region ∧ o.part = .shadow ∧
        (s.ckc.ckState.get o.region).inPass)) : (s.retireBroken o).hbi = s.hbi := by
  obtain ⟨hin, hout⟩ := retireBroken_hbi hoff
  by_cases hpass : o.part = .shadow ∧ (s.ckc.ckState.get o.region).inPass
  · rw [hin hpass]
    exact releasedFrom_eq fun a ha hc => h a ha ⟨hc.1, hc.2, hpass⟩
  · exact hout hpass

theorem retireBroken_hbi_released {s : State} {o : RetireOp} {a : Access} (hoff : s.heldOff o.region)
    (ha : s.hbi.access = some a)
    (h : a.phase = .heldBlock ∧ a.record.region = o.region ∧ o.part = .shadow ∧
      (s.ckc.ckState.get o.region).inPass) :
    (s.retireBroken o).hbi = { s.hbi with access := some { a with phase := .atPort } } := by
  obtain ⟨hph, hreg, hpass⟩ := h
  rw [(retireBroken_hbi hoff).1 hpass, Hbi.releasedFrom, ha, Option.map_some, if_pos ⟨hph, hreg⟩]

/-! ### The fault of the failure (R104, R121, R162) -/

/-- The one taint reason a failed retire copy can raise is its suspect mark. -/
theorem retireFailedFault_taints (t : Table) (s : State) (o : RetireOp) (w : Nat) (rep : CheckReport) :
    faultTaints t (retireFailedFault s o w rep) =
      { TaintSet.empty with suspectBlock := o.part == .working && checkpointed s.rgd.table o.block } := by
  simp [faultTaints, retireFailedFault, bareFault, TaintSet.empty]

theorem addDirtyIf_ckState (s : State) (c : Bool) (b : Nat) : (s.addDirtyIf c b).ckc.ckState = s.ckc.ckState := by
  cases c with
  | false => rfl
  | true =>
    show (s.addDirty b).ckc.ckState = _
    unfold State.addDirty
    split
    · split <;> rfl
    · rfl

/-- The suspect mark of a working block taints the epoch in force, and with a verdict at hand the next one too (log 41). -/
theorem retireReported_cau_working {s : State} {o : RetireOp} (h : o.part = .working) (hoff : s.heldOff o.region)
    (w : Nat) (rep : CheckReport) :
    ((s.retireBroken o).takeRetireFault (retireFailedFault s o w rep)).cau =
      if s.verdictAtHand = true then
        { s.cau with
          taint := { s.cau.taint with suspectBlock := s.cau.taint.suspectBlock || checkpointed s.rgd.table o.block }
          carry := { s.cau.carry with suspectBlock := s.cau.carry.suspectBlock || checkpointed s.rgd.table o.block } }
      else s.cau.raise { TaintSet.empty with suspectBlock := checkpointed s.rgd.table o.block } := by
  have hcau := (retireBroken_effect hoff).2.1
  have hat : (s.retireBroken o).verdictAtHand = s.verdictAtHand := by
    refine verdictAtHand_congr hcau ?_ (retireBroken_mli s o) (retireBroken_twl s o)
    rw [retireBroken_working h]
    exact addDirtyIf_ckState _ _ _
  rw [takeRetireFault_cau, hat, hcau, retireFailedFault_taints, h]
  by_cases hv : s.verdictAtHand = true
  · obtain ⟨-, -, hlocal, -⟩ := verdictAtHand_iff.mp hv
    rw [if_pos hv, if_pos hv, Cau.raise, hlocal, if_neg (by decide)]
    simp [Cau.raiseCarry, TaintSet.union, TaintSet.empty, hlocal]
  · rw [if_neg hv, if_neg hv]
    rfl

/-- A shadow block is never suspect: its failure taints nothing. -/
theorem retireReported_cau_shadow {s : State} {o : RetireOp} (h : o.part = .shadow) (hoff : s.heldOff o.region) (w : Nat)
    (rep : CheckReport) :
    ((s.retireBroken o).takeRetireFault (retireFailedFault s o w rep)).cau = s.cau := by
  have hnothing : ({ TaintSet.empty with suspectBlock := Part.shadow == .working && checkpointed s.rgd.table o.block } :
      TaintSet) = ⟨false, false, false, false⟩ := rfl
  have hraise : s.cau.raiseCarry ⟨false, false, false, false⟩ = s.cau := by simp [Cau.raiseCarry, TaintSet.union]
  rw [takeRetireFault_cau, (retireBroken_effect hoff).2.1, retireFailedFault_taints, h, hnothing, raise_nothing, hraise,
    ite_self]

theorem retireReported_fau {s : State} {o : RetireOp} (hoff : s.heldOff o.region) {rep : CheckReport}
    (hbad : rep.cls = .uncorrectable ∨ rep.cls = .stale) (w : Nat) :
    ((s.retireBroken o).takeRetireFault (retireFailedFault s o w rep)).fau =
      s.fau.take
        { kind := .retireFailed, also := some (if rep.cls = .stale then .stale else .uncorrectable)
          source := .engineRetire, word := some w, region := some o.region
          findings := some ⟨rep.qFinding, rep.pFinding, rep.distance⟩
          position := some ⟨o.region, o.part, o.block, o.offset⟩, vital := false, epoch := s.cau.epoch
          cycle := s.cau.cycle } := by
  have hkind : badWordKind rep.cls = if rep.cls = .stale then .stale else .uncorrectable := by
    rcases hbad with hb | hb <;> rw [hb] <;> rfl
  obtain ⟨-, hcau, hfau⟩ := retireBroken_effect hoff
  rw [takeRetireFault_fau, hfau, State.recordOf, hcau, ← hkind]
  rfl

theorem retireReported_hbi (s : State) (o : RetireOp) (w : Nat) (rep : CheckReport) :
    (s.retireReported o w rep).hbi = (s.retireBroken o).hbi := takeRetireFault_hbi _ _

theorem retireReported_ckc (s : State) (o : RetireOp) (w : Nat) (rep : CheckReport) :
    (s.retireReported o w rep).ckc = (s.retireBroken o).ckc := takeRetireFault_ckc _ _

theorem retireReported_sru (s : State) (o : RetireOp) (w : Nat) (rep : CheckReport) :
    (s.retireReported o w rep).sru = s.sru.dequeue o.block := by
  rw [State.retireReported, retireBroken_sru]

theorem retireReported_retireIdle {s : State} {o : RetireOp} (hoff : s.heldOff o.region) (w : Nat) (rep : CheckReport) :
    (s.retireReported o w rep).txe.retireIdle := by
  rw [State.retireReported, takeRetireFault_txe]
  exact (retireBroken_effect hoff).1

theorem retireReported_clock {s : State} {o : RetireOp} (hoff : s.heldOff o.region) (w : Nat) (rep : CheckReport) :
    (s.retireReported o w rep).cau.epoch = s.cau.epoch ∧ (s.retireReported o w rep).cau.cycle = s.cau.cycle := by
  rw [State.retireReported, takeRetireFault_cau, (retireBroken_effect hoff).2.1]
  split <;> simp

/-! ### The command (R156) -/

theorem retireWordRead_bad {s : State} {o : RetireOp} (hon : s.engineOn .retire) (hslot : s.txe.retire = some o)
    (hmode : s.txe.fifoMode ≠ .draining) (hmem : s.physWord (o.block * 128 + o.offset) < s.memWords)
    (hnone : (s.check true (o.block * 128 + o.offset) (s.terms (o.block * 128 + o.offset))).data = none) :
    exec .retireWordRead s =
      .next (((s.retireReported o (o.block * 128 + o.offset)
        (s.check true (o.block * 128 + o.offset) (s.terms (o.block * 128 + o.offset)))).releaseRetire o.block).engineSelectEnd
          s.procAsking) := by
  have hgranted : s.retireReadGranted = some o := by
    rw [State.retireReadGranted, hslot]
    exact if_pos ⟨by rw [State.engineAt, hon.1, hon.2]; rfl, hmode⟩
  show execRetireWordRead s = _
  rw [execRetireWordRead, hgranted, ← retireFails_eq]
  exact (if_neg (by decide)).trans
    ((if_pos (by simpa [RetireOp.word, Config.blockWords] using hmem)).trans (congrArg Host.Outcome.next (retireRead_bad hnone)))

/-- Settles O38: the failure is marked and reported, and a write held for the copy is released from what that leaves. -/
theorem retireFails : Obligations.RetireFails := by
  refine ⟨fun s => verdictAtHand_iff, ?_⟩
  rintro s o rep x c f hon hslot hmode hmem hrep hnone rfl hoff hc hf
  rw [hrep] at hnone
  have hexec := retireWordRead_bad hon hslot hmode hmem hnone
  rw [← hrep] at hexec hnone
  have hcau : (s.retireReported o (o.block * 128 + o.offset) rep).cau = c := by
    cases hpart : o.part with
    | working => rw [hpart] at hc; exact (retireReported_cau_working hpart hoff _ _).trans hc.symm
    | shadow => rw [hpart] at hc; exact (retireReported_cau_shadow hpart hoff _ _).trans hc.symm
  have hfau : (s.retireReported o (o.block * 128 + o.offset) rep).fau = f :=
    (retireReported_fau hoff (hrep ▸ check_bad (hrep ▸ hnone)) _).trans hf.symm
  have hclock := retireReported_clock hoff (o.block * 128 + o.offset) rep
  have hhbi := retireReported_hbi s o (o.block * 128 + o.offset) rep
  have hidle := releaseRetire_retireIdle (retireReported_retireIdle hoff (o.block * 128 + o.offset) rep) o.block
  obtain ⟨hretire, hfifo, hempty⟩ := retireIdle_of_unbegun (engineSelectEnd_unbegun _ s.procAsking) hidle
  have hquiet {u : Hbi} (hu : (s.retireReported o (o.block * 128 + o.offset) rep).hbi = u)
      (hn : ∀ a, u.access = some a → ¬(a.phase = .heldRetire ∧ a.record.block = o.block)) :=
    releaseRetire_settled s.procAsking hu hcau hfau hn
  refine ⟨_, hexec, hretire, hfifo, hempty, ?sru, fun hpart => ?dirty, fun hpart => ?broken, fun a ha hph hb => ?held,
    fun a ha hnot => ?others, fun ha => ?nobody, ?frame⟩
  case sru => rw [engineSelectEnd_sru, releaseRetire_sru, retireReported_sru, dequeue_eq]
  case dirty => rw [engineSelectEnd_ckc, releaseRetire_ckc, retireReported_ckc, retireBroken_ckc_working hpart]
  case broken =>
    rw [engineSelectEnd_ckc, releaseRetire_ckc, retireReported_ckc, retireBroken_ckc_shadow hpart hoff]
    exact ⟨shadowBroken_ckState _ _ _, fun d hd b => mem_shadowBroken hd b⟩
  case held =>
    rw [retireBroken_hbi_kept hoff ((only_access ha).mpr (by simp [hph]))] at hhbi
    rw [releaseRetire_held (hhbi ▸ ha) hph hb, ← hcau, ← hfau]
    exact markerCheck_writeReleased hhbi hclock.1 hclock.2 (by simp) (by simp) (by simp)
      (scrub_none_of_unbegun (engineSelectEnd_unbegun _ _))
  case others =>
    by_cases hrel : a.phase = .heldBlock ∧ a.record.region = o.region ∧ o.part = .shadow ∧
        (s.ckc.ckState.get o.region = .copying ∨ s.ckc.ckState.get o.region = .restoring)
    · rw [if_pos hrel]
      refine hquiet (hhbi.trans (retireBroken_hbi_released hoff ha hrel)) fun a' ha' hheld => ?_
      cases ha'
      cases hheld.1
    · rw [if_neg hrel]
      exact hquiet (hhbi.trans (retireBroken_hbi_kept hoff ((only_access ha).mpr hrel))) ((only_access ha).mpr hnot)
  case nobody =>
    obtain ⟨hc', hf', hh'⟩ := hquiet (hhbi.trans (retireBroken_hbi_kept hoff (by simp [ha]))) (by simp [ha])
    exact ⟨hh', hc', hf'⟩
  case frame =>
    rw [← retireFails_eq]
    apply State.ext <;> simp

end Sys2Proof.Machine
end

section
/-! PROOFS. The engine's groups at their end: the port after a group whose operation goes on, what a selection point leaves of the
slots and the passes, and which block a pass takes next (R62, R68, R70, R71, R88, R105). -/
namespace Sys2Proof.Machine

/-! ### The group made and the port after it (R59, R62) -/

theorem onPort_fitted {s : State} {pw : Nat} (h : pw < s.memWords) (f : State → State) :
    onPort s true [pw] f = .next (f s) := by
  simp [onPort, h]

/-- The port after a group that leaves a slot ACTIVE, from a state `u` with the bus, the port and the parameters of `s`. -/
theorem portAfterEngine_active {s u : State} (ha : u.txe.active ≠ none) (hh : u.hbi = s.hbi) (hm : u.mpt = s.mpt)
    (hp : u.mli = s.mli) :
    (u.portAfterEngine s.procAsking).txe = u.txe ∧ (u.portAfterEngine s.procAsking).mpt = s.afterGroup := by
  have hactive : ¬u.txe.active.isNone = true := by simpa using ha
  unfold State.portAfterEngine State.afterGroup
  dsimp only
  rw [if_neg hactive, hm, procGrant_congr hh]
  split
  · exact ⟨rfl, rfl⟩
  · split
    · exact ⟨rfl, rfl⟩
    · exact ⟨rfl, by rw [grantEngine_mpt, hp]⟩

/-! ### The first of a list in order -/

/-- A search through a list in strict order of `key` finds the result of the least element that has one. -/
theorem findSome?_of_least {α β : Type} {key : α → Nat} {f : α → Option β} {l : List α}
    (hl : l.Pairwise fun x y => key x < key y) {a : α} {b : β} (ha : a ∈ l) (hb : f a = some b)
    (hleast : ∀ x ∈ l, f x ≠ none → key a ≤ key x) : l.findSome? f = some b := by
  induction l with
  | nil => cases ha
  | cons x l ih =>
    obtain ⟨hx, hl⟩ := List.pairwise_cons.mp hl
    rw [List.findSome?_cons]
    rcases List.mem_cons.mp ha with rfl | hmem
    · rw [hb]
    · have hnone : f x = none := by
        by_contra hc
        have h1 := hleast x List.mem_cons_self hc
        have h2 := hx a hmem
        omega
      rw [hnone]
      exact ih hl hmem fun y hy => hleast y (List.mem_cons_of_mem _ hy)

theorem allRegions_pairwise : allRegions.Pairwise fun x y => x.val < y.val := by decide

/-- The first block of an ascending set in a direction's order is its least or its greatest. -/
theorem firstInOrder_of_first {dir : Direction} {xs : List Nat} (hs : xs.Pairwise (· < ·)) {b : Nat} (hb : b ∈ xs)
    (hup : dir = .up → ∀ x ∈ xs, b ≤ x) (hdown : dir = .down → ∀ x ∈ xs, x ≤ b) : firstInOrder dir xs = some b := by
  cases dir with
  | up =>
    cases xs with
    | nil => cases hb
    | cons x t =>
      have hle := hup rfl x List.mem_cons_self
      rcases List.mem_cons.mp hb with rfl | hmem
      · rfl
      · exact absurd ((List.pairwise_cons.mp hs).1 b hmem) (by simpa using hle)
  | down =>
    obtain ⟨l, x, rfl⟩ := List.eq_nil_or_concat xs |>.resolve_left (List.ne_nil_of_mem hb)
    have hle := hdown rfl x (by simp)
    rcases List.mem_append.mp (by rwa [List.concat_eq_append] at hb) with hmem | hmem
    · have hlt := (List.pairwise_append.mp (by simpa using hs)).2.2 b hmem x (by simp)
      exact absurd hlt (by simpa using hle)
    · obtain rfl := List.mem_singleton.mp hmem
      simp [firstInOrder]

theorem firstInOrder_eq_none {dir : Direction} {xs : List Nat} : firstInOrder dir xs = none ↔ xs = [] := by
  cases dir <;> simp [firstInOrder]

/-! ### The block named next to a pass (R88, R105) -/

/-- The block that entry `r` names next to a pass, if it has one. -/
def State.nextBlockIn (s : State) (m : Move) (r : Region) : Option PassPos :=
  match s.rgd.table.get r with
  | some d =>
    if s.ckc.ckState.get r = m.inFlight then
      (firstInOrder d.dir (((s.ckc.setOf m).filter d.authorised).filter
        fun b => decide (s.txe.priorityBlockOf m ≠ some b))).map fun b => ⟨r, b, 0⟩
    else none
  | none => none

theorem nextPassBlock_eq (s : State) (m : Move) : s.nextPassBlock m = allRegions.findSome? (s.nextBlockIn m) := rfl

theorem priorityBlockOf_ne_iff (x : Txe) (m : Move) (b : Nat) :
    x.priorityBlockOf m ≠ some b ↔ ∀ o ∈ x.priority, o.move = m → o.block ≠ b := by
  unfold Txe.priorityBlockOf
  cases x.priority with
  | none => simp
  | some o => by_cases h : o.move = m <;> simp [h]

/-- The blocks an entry in flight may name next are those of its filtered set. -/
theorem passCandidate_iff {s : State} {m : Move} {r : Region} {d : Descriptor} (hd : s.rgd.table.get r = some d) (b : Nat) :
    s.passCandidate s.ckc m r b ↔ s.ckc.ckState.get r = m.inFlight ∧
      b ∈ ((s.ckc.setOf m).filter d.authorised).filter fun b => decide (s.txe.priorityBlockOf m ≠ some b) := by
  unfold State.passCandidate
  rw [List.mem_filter, List.mem_filter, decide_eq_true_iff, priorityBlockOf_ne_iff, hd]
  have hauth : (∃ d' ∈ some d, d'.authorised b = true) ↔ d.authorised b = true := by simp
  rw [hauth]
  tauto

theorem nextBlockIn_eq_none {s : State} {m : Move} {r : Region} :
    s.nextBlockIn m r = none ↔ ∀ b, ¬s.passCandidate s.ckc m r b := by
  unfold State.nextBlockIn
  cases hd : s.rgd.table.get r with
  | none => simp [State.passCandidate, hd]
  | some d =>
    simp only [passCandidate_iff hd]
    by_cases hf : s.ckc.ckState.get r = m.inFlight
    · rw [if_pos hf, Option.map_eq_none_iff, firstInOrder_eq_none, List.eq_nil_iff_forall_not_mem]
      simp only [hf, true_and]
    · simp [hf]

/-- With no block to name, a pass is named none. -/
theorem nextPassBlock_none {s : State} {m : Move} (h : ∀ r b, ¬s.passCandidate s.ckc m r b) : s.nextPassBlock m = none := by
  rw [nextPassBlock_eq, List.findSome?_eq_none_iff]
  exact fun r _ => nextBlockIn_eq_none.mpr (h r)

/-- With a block to name, a pass is named one. -/
theorem nextPassBlock_ne_none {s : State} {m : Move} {r : Region} {b : Nat} (h : s.passCandidate s.ckc m r b) :
    s.nextPassBlock m ≠ none := fun hn => by
  rw [nextPassBlock_eq, List.findSome?_eq_none_iff] at hn
  exact nextBlockIn_eq_none.mp (hn r (mem_allRegions r)) b h

/-- The block named next is of the lowest-numbered entry that has one, and first in that entry's direction. -/
theorem nextPassBlock_first {s : State} {m : Move} {r : Region} {b : Nat} {d : Descriptor}
    (hsorted : (s.ckc.setOf m).Pairwise (· < ·)) (hd : s.rgd.table.get r = some d) (hb : s.passCandidate s.ckc m r b)
    (hlow : ∀ r' < r, ∀ x, ¬s.passCandidate s.ckc m r' x)
    (hup : d.dir = .up → ∀ x, s.passCandidate s.ckc m r x → b ≤ x)
    (hdown : d.dir = .down → ∀ x, s.passCandidate s.ckc m r x → x ≤ b) : s.nextPassBlock m = some ⟨r, b, 0⟩ := by
  have hin : s.nextBlockIn m r = some ⟨r, b, 0⟩ := by
    obtain ⟨hf, hmem⟩ := (passCandidate_iff hd b).mp hb
    unfold State.nextBlockIn
    rw [hd]
    dsimp only
    rw [if_pos hf, firstInOrder_of_first ((hsorted.filter _).filter _) hmem
      (fun h x hx => hup h x ((passCandidate_iff hd x).mpr ⟨hf, hx⟩))
      (fun h x hx => hdown h x ((passCandidate_iff hd x).mpr ⟨hf, hx⟩))]
    rfl
  rw [nextPassBlock_eq]
  refine findSome?_of_least allRegions_pairwise (mem_allRegions r) hin fun x _ hx => ?_
  by_contra hlt
  exact hx (nextBlockIn_eq_none.mpr (hlow x (not_le.mp hlt)))

/-- A candidate depends on the table and on which block the PRIORITY_BLOCK names. -/
theorem passCandidate_congr {s u : State} (hr : u.rgd = s.rgd)
    (hp : u.txe.priority.map ({ · with begun := false }) = s.txe.priority.map ({ · with begun := false })) (c : Ckc)
    (m : Move) (r : Region) (b : Nat) : u.passCandidate c m r b ↔ s.passCandidate c m r b := by
  have hblock : u.txe.priorityBlockOf m = s.txe.priorityBlockOf m := by
    unfold Txe.priorityBlockOf
    cases hu : u.txe.priority <;> cases hs : s.txe.priority <;> simp_all
  unfold State.passCandidate
  rw [← priorityBlockOf_ne_iff, ← priorityBlockOf_ne_iff, hblock, hr]

/-! ### A pass that asks (R70, R71) -/

@[simp] theorem setPass_passSlot_same (x : Txe) (m : Move) (o : Option PassOp) : (x.setPass m o).passSlot m = o := by
  cases m <;> rfl

theorem setPass_passSlot_other {m m' : Move} (h : m' ≠ m) (x : Txe) (o : Option PassOp) :
    (x.setPass m o).passSlot m' = x.passSlot m' := by
  revert h
  cases m <;> cases m' <;> simp [Txe.setPass, Txe.passSlot]

@[simp] theorem setPass_active (x : Txe) (m : Move) (o : Option PassOp) : (x.setPass m o).active = x.active := by
  cases m <;> rfl

theorem askPass_empty {s : State} {m : Move} (h : s.txe.passSlot m = none) : s.askPass m = s := by
  unfold State.askPass
  rw [h]

theorem askPass_passSlot {s : State} {m : Move} {o : PassOp} (h : s.txe.passSlot m = some o) :
    (s.askPass m).txe.passSlot m = (s.nextPassBlock m).map fun p => { o with pos := some p, stale := false } := by
  unfold State.askPass
  rw [h]
  dsimp only
  cases s.nextPassBlock m <;> simp

theorem askPass_passSlot_other {m m' : Move} (h : m' ≠ m) (s : State) :
    (s.askPass m).txe.passSlot m' = s.txe.passSlot m' := by
  unfold State.askPass
  split
  · rfl
  · split <;> exact setPass_passSlot_other h _ _

@[simp] theorem askPass_active (s : State) (m : Move) : (s.askPass m).txe.active = s.txe.active := by
  unfold State.askPass
  split
  · rfl
  · split <;> exact setPass_active _ _ _

theorem needsBlock_of_passSlot {x : Txe} {m : Move} {o : PassOp} (h : x.passSlot m = some o) :
    x.needsBlock m = (o.pos.isNone || o.stale) := by
  unfold Txe.needsBlock
  rw [h]

/-! ### What keeps the engine's work in its slots (R68) -/

theorem workKept_iff {s t : State} :
    workKept s t ↔
      (t.txe.clear.map ({ · with begun := false }) = s.txe.clear.map ({ · with begun := false }) ∧
        t.txe.priority.map ({ · with begun := false }) = s.txe.priority.map ({ · with begun := false }) ∧
        t.txe.readWord.map ({ · with begun := false }) = s.txe.readWord.map ({ · with begun := false }) ∧
        t.txe.retire.map ({ · with begun := false }) = s.txe.retire.map ({ · with begun := false })) ∧
      ∀ m, (s.txe.passSlot m = none → t.txe.passSlot m = none) ∧
        ((∃ r b, s.passCandidate s.ckc m r b) → s.txe.passSlot m ≠ none → t.txe.passSlot m ≠ none) ∧
        ∀ o p, s.txe.passSlot m = some o → o.pos = some p → o.stale = false →
          ∃ begun, t.txe.passSlot m = some { o with begun := begun } := by
  unfold workKept
  tauto

/-- The slots but the passes stay where the table without its passes does. -/
theorem workKept_of_unbegun {s t : State} (h : t.txe.unbegun = s.txe.unbegun)
    (hm : ∀ m, (s.txe.passSlot m = none → t.txe.passSlot m = none) ∧
      ((∃ r b, s.passCandidate s.ckc m r b) → s.txe.passSlot m ≠ none → t.txe.passSlot m ≠ none) ∧
      ∀ o p, s.txe.passSlot m = some o → o.pos = some p → o.stale = false →
        ∃ begun, t.txe.passSlot m = some { o with begun := begun }) : workKept s t :=
  workKept_iff.mpr ⟨⟨congrArg Txe.clear h, congrArg Txe.priority h, congrArg Txe.readWord h, congrArg Txe.retire h⟩, hm⟩

theorem workKept_of_txe {s t : State} (h : t.txe = s.txe) : workKept s t :=
  workKept_of_unbegun (by rw [h]) fun m => by
    rw [h]
    exact ⟨id, fun _ => id, fun o _ ho _ _ => ⟨o.begun, ho⟩⟩

theorem workKept_trans {s u t : State} (h1 : workKept s u) (h2 : workKept u t) (hc : u.ckc = s.ckc) (hr : u.rgd = s.rgd) :
    workKept s t := by
  obtain ⟨⟨c1, p1, w1, r1⟩, m1⟩ := workKept_iff.mp h1
  obtain ⟨⟨c2, p2, w2, r2⟩, m2⟩ := workKept_iff.mp h2
  refine workKept_iff.mpr ⟨⟨c2.trans c1, p2.trans p1, w2.trans w1, r2.trans r1⟩, fun m => ?_⟩
  obtain ⟨empty1, asks1, kept1⟩ := m1 m
  obtain ⟨empty2, asks2, kept2⟩ := m2 m
  refine ⟨fun h => empty2 (empty1 h), fun ⟨r, b, hb⟩ h => asks2 ⟨r, b, ?_⟩ (asks1 ⟨r, b, hb⟩ h), fun o p ho hp hs => ?_⟩
  · rw [hc]
    exact (passCandidate_congr hr p1 _ m r b).mpr hb
  · obtain ⟨begun, hu⟩ := kept1 o p ho hp hs
    exact kept2 { o with begun := begun } p hu hp hs

theorem activate_passSlot (x : Txe) (k : EngineKind) (m : Move) :
    (x.activate k).passSlot m =
      if k = m.passKind then (x.passSlot m).map ({ · with begun := true }) else x.passSlot m := by
  cases k <;> cases m <;> rfl

@[simp] theorem activate_active (x : Txe) (k : EngineKind) : (x.activate k).active = some k := by cases k <;> rfl

theorem workKept_activate (s : State) (k : EngineKind) : workKept s { s with txe := s.txe.activate k } :=
  workKept_of_unbegun (activate_unbegun _ _) fun m => by
    rw [activate_passSlot]
    by_cases hk : k = m.passKind
    · rw [if_pos hk]
      exact ⟨fun h => by simp [h], fun _ h => by simpa using h, fun o _ ho _ _ => ⟨true, by rw [ho]; rfl⟩⟩
    · rw [if_neg hk]
      exact ⟨id, fun _ => id, fun o _ ho _ _ => ⟨o.begun, ho⟩⟩

/-- A pass that has no block to go on with keeps its slot while there is one to name. -/
theorem workKept_askPass {s : State} {m : Move} (h : s.txe.needsBlock m = true) : workKept s (s.askPass m) :=
  workKept_of_unbegun (askPass_unbegun _ _) fun m' => by
    by_cases hm : m' = m
    · subst hm
      cases ho : s.txe.passSlot m' with
      | none =>
        rw [askPass_empty ho, ho]
        exact ⟨id, fun _ => id, nofun⟩
      | some o =>
        rw [askPass_passSlot ho]
        refine ⟨nofun, fun ⟨r, b, hb⟩ _ => by simpa using nextPassBlock_ne_none hb, fun o' p ho' hp hs => ?_⟩
        obtain rfl := Option.some.inj ho'
        rw [needsBlock_of_passSlot ho, hp, hs] at h
        exact Bool.noConfusion h
    · rw [askPass_passSlot_other hm]
      exact ⟨id, fun _ => id, fun o _ ho _ _ => ⟨o.begun, ho⟩⟩

theorem workKept_select (n : Nat) (s : State) : workKept s (s.select n) := by
  induction n generalizing s with
  | zero => exact workKept_of_txe rfl
  | succ n ih =>
    unfold State.select
    split
    · exact workKept_of_unbegun rfl fun m => ⟨id, fun _ => id, fun o _ ho _ _ => ⟨o.begun, ho⟩⟩
    next k _ =>
      have hactivate := workKept_activate s k
      dsimp only
      split
      next m _ =>
        split
        next hneeds =>
          have hasked := workKept_trans hactivate (workKept_askPass hneeds) rfl rfl
          split
          · exact workKept_trans hasked (ih _) (by simp) (by simp)
          · exact hasked
        next => exact hactivate
      next => exact hactivate

theorem workKept_selectionPoint (s : State) : workKept s s.selectionPoint := workKept_select 3 s

theorem workKept_settle (s : State) : workKept s s.settle := by
  have hselected : workKept s s.selected := by
    unfold State.selected
    split
    · exact workKept_selectionPoint s
    · exact workKept_of_txe rfl
  exact workKept_trans hselected (workKept_of_txe (settle_txe s))
    (by unfold State.selected; split <;> simp) (by unfold State.selected; split <;> simp)

theorem workKept_portAfterEngine (s : State) (asked : Bool) : workKept s (s.portAfterEngine asked) := by
  unfold State.portAfterEngine
  dsimp only
  split
  · exact workKept_settle _
  · (repeat' split) <;> exact workKept_of_txe rfl

theorem workKept_engineSelectEnd (s : State) (asked : Bool) : workKept s (s.engineSelectEnd asked) :=
  workKept_trans (workKept_selectionPoint s) (workKept_portAfterEngine _ _) (by simp) (by simp)

/-- Work kept from a state whose slots, sets and table are those of `s` is kept from `s`. -/
theorem workKept_congr {s u t : State} {f : List FifoEntry} {md : FifoMode} (h : workKept u t)
    (hx : u.txe = { s.txe with fifo := f, fifoMode := md }) (hc : u.ckc = s.ckc) (hr : u.rgd = s.rgd) : workKept s t := by
  have hslots : workKept s u := by
    rw [workKept_iff, hx]
    exact ⟨⟨rfl, rfl, rfl, rfl⟩, fun m => by
      cases m <;> exact ⟨id, fun _ => id, fun o _ ho _ _ => ⟨o.begun, ho⟩⟩⟩
  exact workKept_trans hslots h hc hr

/-! ### The slot a selection point makes ACTIVE (R68) -/

theorem passMove_eq_some {k : EngineKind} {m : Move} : k.passMove = some m ↔ k = m.passKind := by
  cases k <;> cases m <;> decide

/-- The highest-ranked slot goes on from its place: it is made ACTIVE, and nothing else changes. -/
theorem selectionPoint_goesOn {s : State} {k : EngineKind} (h : s.txe.highest = some k) (hg : s.goesOn k) :
    s.selectionPoint = { s with txe := s.txe.activate k } := by
  unfold State.selectionPoint State.select
  rw [h]
  dsimp only
  split
  next m hm =>
    obtain ⟨o, p, ho, hp, hs⟩ := hg m (passMove_eq_some.mp hm)
    have hneeds : (s.txe.activate k).needsBlock m = false := by
      rw [needsBlock_of_passSlot (o := { o with begun := true })
        (by rw [activate_passSlot, if_pos (passMove_eq_some.mp hm), ho]; rfl), hp, hs]
      rfl
    rw [hneeds]
    rfl
  next => rfl

/-- A selection point at which the operation in hand goes on: it stays ACTIVE, or gives way to a higher-ranked one (R62, R68). -/
theorem engineSelectEnd_goesOn {s u : State} {k : EngineKind} (h : u.txe.highest = some k) (hg : u.goesOn k)
    (hh : u.hbi = s.hbi) (hm : u.mpt = s.mpt) (hp : u.mli = s.mli) :
    (u.engineSelectEnd s.procAsking).txe = u.txe.activate k ∧ (u.engineSelectEnd s.procAsking).mpt = s.afterGroup := by
  unfold State.engineSelectEnd
  rw [selectionPoint_goesOn h hg]
  exact portAfterEngine_active (by simp) hh hm hp

/-! ### A pass that ends its block takes the next (R70, R71, R88, R105) -/

theorem passKind_ne_priorityBlock (m : Move) : m.passKind ≠ .priorityBlock := by cases m <;> decide

theorem passKind_injective {m m' : Move} (h : m.passKind = m'.passKind) : m = m' := by
  revert h
  cases m <;> cases m' <;> decide

theorem passAnswered_of_priority {s t : State} {m : Move} (ha : s.txe.active = some .priorityBlock)
    (h : t.txe.priority = none) : passAnswered s t m :=
  ⟨fun _ => h, fun hm => absurd (Option.some.inj (hm.symm.trans ha)) (passKind_ne_priorityBlock m)⟩

/-- The ACTIVE pass asks in a state `u` in which the same blocks may be named, and what follows keeps its answer. -/
theorem passAnswered_of_asked {s u t : State} {m : Move} (ha : s.txe.active = some m.passKind)
    (hslot : u.txe.passSlot m ≠ none) (hrgd : u.rgd = s.rgd) (hsorted : (u.ckc.setOf m).Pairwise (· < ·))
    (hcand : ∀ r b, s.passCandidate u.ckc m r b ↔ u.passCandidate u.ckc m r b) (hkept : workKept (u.askPass m) t)
    (hckc : t.ckc = u.ckc) : passAnswered s t m := by
  refine ⟨fun hp => absurd (Option.some.inj (ha.symm.trans hp)) (passKind_ne_priorityBlock m), fun _ => ?_⟩
  obtain ⟨o, ho⟩ := Option.ne_none_iff_exists'.mp hslot
  obtain ⟨hempty, -, hgo⟩ := (workKept_iff.mp hkept).2 m
  have hasked := askPass_passSlot ho
  rw [hckc]
  simp only [hcand]
  refine ⟨fun hnone => hempty (by rw [hasked, nextPassBlock_none hnone]; rfl), fun r b d hd hb hlow hfirst => ?_⟩
  rw [nextPassBlock_first hsorted (hrgd ▸ hd) hb hlow (fun hdir x hx => by simpa [hdir] using hfirst x hx)
    (fun hdir x hx => by simpa [hdir] using hfirst x hx)] at hasked
  exact hgo _ _ hasked rfl rfl

end Sys2Proof.Machine
end

section
/-! PROOFS. Block copies and restores: their word reads and word writes, within a chunk and at its end, and the end of a block, moved
or failed (R69 to R73, R88, R89, R92 to R95, R105, R106, R110 to R112). -/
namespace Sys2Proof.Machine

/-! ### The move in hand (R70 to R72) -/

theorem moveBlocks_of_moves {s : State} {m : Move} {p : PassPos} {d : Descriptor} {src dst : Nat}
    (h : s.moves m p d src dst) : s.moveBlocks m p.region p.block = (src, dst) := by
  obtain ⟨-, -, hd, sb, hsb, hcopy, hrestore⟩ := h
  have hshadow : s.shadowBlock p.region p.block = sb + (p.block - d.base) := by
    simp [State.shadowBlock, hd, Descriptor.shadowOf, hsb]
  cases m with
  | copy =>
    obtain ⟨rfl, rfl⟩ := hcopy rfl
    exact congrArg (Prod.mk p.block) hshadow
  | restore =>
    obtain ⟨rfl, rfl⟩ := hrestore rfl
    exact congrArg (Prod.mk · p.block) hshadow

theorem moveSourceWord_of_moves {s : State} {m : Move} {p : PassPos} {d : Descriptor} {src dst : Nat}
    (h : s.moves m p d src dst) : s.moveSourceWord m p = src * 128 + p.offset := by
  rw [State.moveSourceWord, moveBlocks_of_moves h, Config.blockWords]

theorem moveTargetWord_of_moves {s : State} {m : Move} {p : PassPos} {d : Descriptor} {src dst : Nat}
    (h : s.moves m p d src dst) (e : FifoEntry) : s.moveTargetWord m p e = dst * 128 + e.offset := by
  rw [State.moveTargetWord, moveBlocks_of_moves h, Config.blockWords]

/-- The move in hand is the ACTIVE PRIORITY_BLOCK of that move, or the ACTIVE pass at its place. -/
theorem movePos_iff {s : State} {m : Move} {p : PassPos} :
    s.movePos m = some p ↔
      (s.txe.active = some .priorityBlock ∧
        ∃ o, s.txe.priority = some o ∧ o.move = m ∧ p = ⟨o.region, o.block, o.offset⟩) ∨
      (s.txe.active = some m.passKind ∧ ∃ o, s.txe.passSlot m = some o ∧ o.pos = some p) := by
  unfold State.movePos
  cases s.txe.active with
  | none => simp
  | some k =>
    cases k with
    | priorityBlock =>
      cases s.txe.priority with
      | none => cases m <;> simp [Move.passKind]
      | some o =>
        have hpass : EngineKind.priorityBlock ≠ m.passKind := (passKind_ne_priorityBlock m).symm
        by_cases hm : o.move = m <;> simp [hm, hpass, eq_comm (a := p)]
    | checkpointPass => cases m <;> simp [Move.passKind, Txe.passSlot, Option.bind_eq_some_iff]
    | restorePass => cases m <;> simp [Move.passKind, Txe.passSlot, Option.bind_eq_some_iff]
    | clear | readWord | retire | scrubBurst => cases m <;> simp [Move.passKind]

theorem active_of_movePos {s : State} {m : Move} {p : PassPos} (h : s.movePos m = some p) : s.txe.active ≠ none := by
  rcases movePos_iff.mp h with ⟨ha, -⟩ | ⟨ha, -⟩ <;> simp [ha]

theorem exec_readOf (m : Move) (s : State) : exec (readOf m) s = moveReadStep m s := by cases m <;> rfl

theorem exec_writeOf (m : Move) (s : State) : exec (writeOf m) s = moveWriteStep m s := by cases m <;> rfl

theorem exec_readOf_of_moves {s : State} {m : Move} {p : PassPos} {d : Descriptor} {src dst : Nat}
    (h : s.moves m p d src dst) (hmode : s.txe.fifoMode ≠ .draining)
    (hmem : s.physWord (src * 128 + p.offset) < s.memWords) : exec (readOf m) s = .next (s.moveRead m p) := by
  have hgranted : s.moveReadGranted m = some p := (if_pos ⟨h.1, hmode⟩).trans h.2.1
  rw [exec_readOf, moveReadStep, hgranted]
  exact onPort_fitted (by rwa [moveSourceWord_of_moves h]) _

theorem exec_writeOf_of_moves {s : State} {m : Move} {p : PassPos} {d : Descriptor} {src dst : Nat} {e : FifoEntry}
    {rest : List FifoEntry} (h : s.moves m p d src dst) (hmode : s.txe.fifoMode = .draining) (hfifo : s.txe.fifo = e :: rest)
    (hmem : s.physWord (dst * 128 + e.offset) < s.memWords) : exec (writeOf m) s = .next (s.moveWrite m p e) := by
  have hgranted : s.moveWriteGranted m = some (p, e) := by
    rw [State.moveWriteGranted, if_pos h.1, h.2.1, Txe.oldest, if_pos hmode, hfifo]
    rfl
  rw [exec_writeOf, moveWriteStep, hgranted]
  exact onPort_fitted (by rwa [moveTargetWord_of_moves h]) _

/-! ### Word reads (R69 to R71) -/

theorem setMoveOffset_priority {x : Txe} (h : x.active = some .priorityBlock) (n : Nat) :
    x.setMoveOffset n = { x with priority := x.priority.map ({ · with offset := n }) } := by
  cases x
  obtain rfl := h
  rfl

theorem setMoveOffset_pass {x : Txe} {m : Move} (h : x.active = some m.passKind) (n : Nat) :
    x.setMoveOffset n =
      x.setPass m ((x.passSlot m).map fun o => { o with pos := o.pos.map ({ · with offset := n }) }) := by
  cases x
  obtain rfl := h
  cases m <;> rfl

@[simp] theorem passSlot_fifo (x : Txe) (f : List FifoEntry) (md : FifoMode) (m : Move) :
    ({ x with fifo := f, fifoMode := md } : Txe).passSlot m = x.passSlot m := by cases m <;> rfl

/-- The operation table after a word was read into the FIFO and the move in hand went on to offset `n`. -/
theorem push_setMoveOffset {s t : State} {m : Move} {p : PassPos} {e : FifoEntry} {n : Nat} (h : s.movePos m = some p)
    (ht : t.txe = (s.txe.push e).setMoveOffset n) :
    t.movePos m = some { p with offset := n } ∧ t.txe.active = s.txe.active ∧ t.txe.fifo = s.txe.fifo ++ [e] ∧
      t.txe.fifoMode = (if s.txe.fifo.length + 1 < 32 then .filling else .draining) ∧
      { t.txe with fifo := s.txe.fifo, fifoMode := s.txe.fifoMode, priority := s.txe.priority
                   checkpointPass := s.txe.checkpointPass, restorePass := s.txe.restorePass } = s.txe := by
  rcases movePos_iff.mp h with ⟨ha, o, ho, hm, rfl⟩ | ⟨ha, o, ho, hp⟩
  · rw [setMoveOffset_priority (x := s.txe.push e) ha] at ht
    refine ⟨movePos_iff.mpr (.inl ⟨by rw [ht]; exact ha, ⟨{ o with offset := n }, ?_, hm, rfl⟩⟩), ?_⟩
    · rw [ht]
      exact congrArg (Option.map _) ho
    · rw [ht]
      exact ⟨rfl, rfl, rfl, rfl⟩
  · rw [setMoveOffset_pass (x := s.txe.push e) ha] at ht
    have hslot : (s.txe.push e).passSlot m = some o := by rw [Txe.push, passSlot_fifo, ho]
    rw [hslot] at ht
    refine ⟨movePos_iff.mpr (.inr ⟨by rw [ht, setPass_active]; exact ha, _, by rw [ht, setPass_passSlot_same]; rfl, ?_⟩), ?_⟩
    · show o.pos.map _ = _
      rw [hp]
      rfl
    · rw [ht]
      cases m <;> exact ⟨rfl, rfl, rfl, rfl⟩

/-- A word that delivers its data goes into the FIFO. -/
theorem moveRead_good {s : State} {m : Move} {p : PassPos} {w : Nat} (hw : s.moveSourceWord m p = w) {data : Word}
    (hdata : (s.check true w (s.terms w)).data = some data) :
    s.moveRead m p =
      ({ s.repair w (s.terms w) (s.check true w (s.terms w)) with
        txe := (s.txe.push ⟨data, p.offset, s.cau.epoch⟩).setMoveOffset (p.offset + 1) } : State).engineGroupEnd
        s.procAsking := by
  subst hw
  unfold State.moveRead
  dsimp only
  rw [hdata]
  simp [State.entryOf]

/-- Settles O32: the word checked is pushed with its offset, and the move in hand goes on to the next. -/
theorem blockMoveReads : Obligations.BlockMoveReads := by
  rintro s m p d src dst rep data hs hmoves hmode hmem rfl hdata
  have hpos := hmoves.2.1
  refine ⟨_, exec_readOf_of_moves hmoves hmode hmem, ?_⟩
  rw [moveRead_good (moveSourceWord_of_moves hmoves) hdata]
  generalize hu : ({ s.repair (src * 128 + p.offset) (s.terms (src * 128 + p.offset))
      (s.check true (src * 128 + p.offset) (s.terms (src * 128 + p.offset))) with
    txe := (s.txe.push ⟨data, p.offset, s.cau.epoch⟩).setMoveOffset (p.offset + 1) } : State) = u
  have hx : u.txe = (s.txe.push ⟨data, p.offset, s.cau.epoch⟩).setMoveOffset (p.offset + 1) := by rw [← hu]
  obtain ⟨-, hactive, -⟩ := push_setMoveOffset hpos hx
  obtain ⟨htxe, hmpt⟩ := portAfterEngine_active (s := s) (u := u) (by rw [hactive]; exact active_of_movePos hpos)
    (by simp [← hu]) (by simp [← hu]) (by simp [← hu])
  obtain ⟨hnext, -, hfifo, hfilled, hslots⟩ :=
    push_setMoveOffset (t := u.engineGroupEnd s.procAsking) hpos (htxe.trans hx)
  refine ⟨readWell_congr (repair_readWell hs hdata) ?_ ?_ ?_ ?_, hfifo, hfilled, hnext, hmpt, hslots, ?frame⟩
  case frame => apply State.ext <;> simp [← hu]
  all_goals simp [← hu]

/-! ### Word writes (R69 to R71) -/

/-- The state with the FIFO's oldest entry written at logical word `w`, under its signature in the epoch in force. -/
def State.drained (s : State) (w : Nat) (e : FifoEntry) : State :=
  { s.writeWord w (s.terms w) e.data with txe := s.txe.pop }

theorem drained_wrote {s t : State} {w : Nat} {e : FifoEntry} (hs : s.canonical)
    (hP : t.planeP = (s.drained w e).planeP) (hQ : t.planeQ = (s.drained w e).planeQ) :
    wroteWord s t (s.physWord w) e.data (signature w (s.terms w) s.cau.epoch) := wrote_of_planes hs hP hQ

theorem pop_of_more {x : Txe} {e : FifoEntry} {rest : List FifoEntry} (hmode : x.fifoMode = .draining)
    (hfifo : x.fifo = e :: rest) (hrest : rest ≠ []) : x.pop = { x with fifo := rest } := by
  rw [Txe.pop, hfifo, List.tail_cons, if_neg hrest, ← hmode]

theorem pop_of_last {x : Txe} {e : FifoEntry} (hfifo : x.fifo = [e]) :
    x.pop = { x with fifo := [], fifoMode := .empty } := by
  rw [Txe.pop, hfifo, List.tail_cons, if_pos rfl]

/-- A write within a chunk. -/
theorem moveWrite_more {s : State} {m : Move} {p : PassPos} {e : FifoEntry} {rest : List FifoEntry} {w : Nat}
    (hw : s.moveTargetWord m p e = w) (hfifo : s.txe.fifo = e :: rest) (hrest : rest ≠ []) :
    s.moveWrite m p e = (s.drained w e).engineGroupEnd s.procAsking := by
  subst hw
  exact if_pos (show s.txe.fifo.tail ≠ [] by rwa [hfifo])

/-- The last write of a chunk that does not end the block. -/
theorem moveWrite_chunk {s : State} {m : Move} {p : PassPos} {e : FifoEntry} {w : Nat}
    (hw : s.moveTargetWord m p e = w) (hfifo : s.txe.fifo = [e]) (hp : p.offset < 128) :
    s.moveWrite m p e = (s.drained w e).engineSelectEnd s.procAsking := by
  subst hw
  exact (if_neg (show ¬s.txe.fifo.tail ≠ [] by simp [hfifo])).trans (if_pos hp)

/-- The last write of the block. -/
theorem moveWrite_block {s : State} {m : Move} {p : PassPos} {e : FifoEntry} {w : Nat}
    (hw : s.moveTargetWord m p e = w) (hfifo : s.txe.fifo = [e]) (hp : p.offset = 128) :
    s.moveWrite m p e =
      (({ s.drained w e with txe := s.txe.pop.dropPriority } : State).blockMoved m p.region p.block |>.moveOver
        m).engineSelectEnd s.procAsking := by
  subst hw
  exact (if_neg (show ¬s.txe.fifo.tail ≠ [] by simp [hfifo])).trans (if_neg (by simp [hp, Config.blockWords]))

theorem goesOn_congr {s u : State} (h : ∀ m, u.txe.passSlot m = s.txe.passSlot m) (k : EngineKind) :
    u.goesOn k ↔ s.goesOn k := by
  unfold State.goesOn
  simp only [h]

theorem scrub_left_of_unbegun {x y : Txe} (h : y.unbegun = x.unbegun) :
    y.scrub.map (·.left) = x.scrub.map (·.left) := by
  have hscrub : y.scrub.map ({ · with begun := false }) = x.scrub.map ({ · with begun := false }) := congrArg Txe.scrub h
  simpa [Function.comp_def] using congrArg (Option.map ScrubOp.left) hscrub

/-- What the end of a chunk leaves, from a state `u` with the FIFO of `s` EMPTY: every slot at its place, and the highest-ranked
one ACTIVE (R68, R69). -/
theorem chunkEnd {s u : State} (hx : u.txe = { s.txe with fifo := [], fifoMode := .empty }) (hh : u.hbi = s.hbi)
    (hm : u.mpt = s.mpt) (hp : u.mli = s.mli) (hc : u.ckc = s.ckc) (hr : u.rgd = s.rgd) :
    (u.engineSelectEnd s.procAsking).txe.fifo = [] ∧ (u.engineSelectEnd s.procAsking).txe.fifoMode = .empty ∧
      workKept s (u.engineSelectEnd s.procAsking) ∧
      (u.engineSelectEnd s.procAsking).txe.scrub.map (·.left) = s.txe.scrub.map (·.left) ∧
      ∀ k, s.txe.highest = some k → s.goesOn k →
        (u.engineSelectEnd s.procAsking).txe.active = some k ∧ (u.engineSelectEnd s.procAsking).mpt = s.afterGroup := by
  have hslots := engineSelectEnd_unbegun u s.procAsking
  refine ⟨(congrArg Txe.fifo hslots).trans (by rw [hx]; rfl), (congrArg Txe.fifoMode hslots).trans (by rw [hx]; rfl),
    workKept_congr (workKept_engineSelectEnd u s.procAsking) hx hc hr,
    (scrub_left_of_unbegun hslots).trans (by rw [hx]), fun k hk hgo => ?_⟩
  have hgo' : u.goesOn k := (goesOn_congr (fun m => by rw [hx, passSlot_fifo]) k).mpr hgo
  obtain ⟨htxe, hmpt⟩ := engineSelectEnd_goesOn (s := s) (by rw [hx]; exact hk) hgo' hh hm hp
  exact ⟨by rw [htxe, activate_active], hmpt⟩

/-- The highest-ranked slot is a pass that needs a block: it asks, and the rest of the selection point keeps its answer. -/
theorem workKept_selectionPoint_asks {s : State} {m : Move} (h : s.txe.highest = some m.passKind)
    (hneeds : (s.txe.activate m.passKind).needsBlock m = true) :
    workKept (({ s with txe := s.txe.activate m.passKind } : State).askPass m) s.selectionPoint := by
  unfold State.selectionPoint State.select
  rw [h]
  dsimp only
  rw [passMove_eq_some.mpr rfl]
  dsimp only
  rw [if_pos hneeds]
  split
  · exact workKept_select 2 _
  · exact workKept_of_txe rfl

/-- At the end of a chunk the pass in hand whose place is to be discarded asks for its next block (R95). -/
theorem chunkEnd_asks {s u : State} {m : Move} {p : PassPos} (hx : u.txe = { s.txe with fifo := [], fifoMode := .empty })
    (hc : u.ckc = s.ckc) (hr : u.rgd = s.rgd) (hpos : s.movePos m = some p) (ha : s.txe.active = some m.passKind)
    (hhigh : s.txe.highest = some m.passKind) (hgo : ¬s.goesOn m.passKind)
    (hsorted : (s.ckc.setOf m).Pairwise (· < ·)) (asked : Bool) : passAnswered s (u.engineSelectEnd asked) m := by
  obtain ⟨o, ho, hop⟩ : ∃ o, s.txe.passSlot m = some o ∧ o.pos = some p := by
    rcases movePos_iff.mp hpos with ⟨hprio, -⟩ | ⟨-, h⟩
    · exact absurd (Option.some.inj (ha.symm.trans hprio)) (passKind_ne_priorityBlock m)
    · exact h
  have hstale : o.stale = true := by
    by_contra hfresh
    refine hgo fun m' hm' => ?_
    obtain rfl := passKind_injective hm'
    exact ⟨o, p, ho, hop, by simpa using hfresh⟩
  have hslot : (u.txe.activate m.passKind).passSlot m = some { o with begun := true } := by
    have hu : u.txe.passSlot m = some o := by rw [hx, passSlot_fifo, ho]
    rw [activate_passSlot, if_pos rfl, hu]
    rfl
  have hneeds : (u.txe.activate m.passKind).needsBlock m = true := by
    rw [needsBlock_of_passSlot hslot, hstale, Bool.or_true]
  have hpriority : (u.txe.activate m.passKind).priority.map ({ · with begun := false }) =
      s.txe.priority.map ({ · with begun := false }) := by
    have hact : (u.txe.activate m.passKind).unbegun.priority = u.txe.unbegun.priority :=
      congrArg Txe.priority (activate_unbegun _ _)
    rw [hx] at hact ⊢
    exact hact
  refine passAnswered_of_asked (u := { u with txe := u.txe.activate m.passKind }) ha (by simp [hslot]) hr (hc ▸ hsorted)
    (fun r b => (passCandidate_congr (u := { u with txe := u.txe.activate m.passKind }) hr hpriority _ m r b).symm) ?_ (by simp)
  exact workKept_trans (workKept_selectionPoint_asks (by rw [hx]; exact hhigh) hneeds) (workKept_portAfterEngine _ _)
    (by simp) (by simp)

/-- Settles O33: within a chunk the table keeps its place, and the end of a chunk is a selection point. -/
theorem blockMoveWrites : Obligations.BlockMoveWrites := by
  intro s m p d src dst e rest hs hmoves hmode hfifo hmem
  have hexec := exec_writeOf_of_moves hmoves hmode hfifo hmem
  have hw := moveTargetWord_of_moves hmoves e
  refine ⟨fun hrest => ?more, fun hrest hp => ?chunk⟩
  case more =>
    rw [moveWrite_more hw hfifo hrest] at hexec
    obtain ⟨htxe, hmpt⟩ := portAfterEngine_active (s := s) (u := s.drained (dst * 128 + e.offset) e)
      (active_of_movePos hmoves.2.1) rfl rfl rfl
    refine ⟨_, hexec, drained_wrote hs (by simp) (by simp), htxe.trans (pop_of_more hmode hfifo hrest), hmpt, ?_⟩
    apply State.ext <;> simp [State.drained]
  case chunk =>
    subst hrest
    rw [moveWrite_chunk hw hfifo hp] at hexec
    have hx : (s.drained (dst * 128 + e.offset) e).txe = { s.txe with fifo := [], fifoMode := .empty } := pop_of_last hfifo
    obtain ⟨hempty, hemptyMode, hkept, hscrub, hactive⟩ := chunkEnd (s := s) hx rfl rfl rfl rfl rfl
    refine ⟨_, hexec, drained_wrote hs (by simp) (by simp), hempty, hemptyMode, hkept, hscrub, hactive,
      fun ha hhigh hgo hsorted => chunkEnd_asks hx rfl rfl hmoves.2.1 ha hhigh hgo hsorted _, ?_⟩
    apply State.ext <;> simp [State.drained]

end Sys2Proof.Machine
end

section
/-! PROOFS. The end of a block of a copy or restore, moved or failed: the sets, the region's state, the access held for it, and the
pass (R72, R73, R88, R89, R92 to R94, R105, R106, R110 to R112). -/
namespace Sys2Proof.Machine

/-! ### Accesses released to the port (R92, R110) -/

/-- The bus interface after the access held for a block was released to the port, where it meets `p`. -/
def Hbi.released (u : Hbi) (p : Access → Bool) : Hbi :=
  { u with access := u.access.map fun a => if a.phase = .heldBlock ∧ p a = true then { a with phase := .atPort } else a }

theorem released_held {u : Hbi} {p : Access → Bool} {a : Access} (ha : u.access = some a) (hph : a.phase = .heldBlock)
    (hp : p a = true) : u.released p = { u with access := some { a with phase := .atPort } } := by
  rw [Hbi.released, ha, Option.map_some, if_pos ⟨hph, hp⟩]

theorem released_nobody {u : Hbi} {p : Access → Bool}
    (h : ∀ a, u.access = some a → a.phase = .heldBlock → p a = false) : u.released p = u := by
  cases ha : u.access with
  | none => rw [Hbi.released, ha, Option.map_none, ← ha]
  | some a =>
    have hnot : ¬(a.phase = .heldBlock ∧ p a = true) := fun hc => by simp [h a ha hc.1] at hc
    rw [Hbi.released, ha, Option.map_some, if_neg hnot, ← ha]

/-- An access released that waits for no retire copy and is not to the marker word goes straight to the port. -/
theorem releaseHeld_plain {s : State} {p : Access → Bool} (h : s.heldIsPlain .heldBlock fun a => p a = true) :
    s.releaseHeld p = { s with hbi := s.hbi.released p } := by
  cases ha : s.hbi.access with
  | none =>
    rw [releaseHeld_nobody (by simp [ha]), released_nobody (by simp [ha])]
  | some a =>
    by_cases hheld : a.phase = .heldBlock ∧ p a = true
    · obtain ⟨hretiring, hmarker⟩ := h a ha hheld.1 hheld.2
      unfold State.releaseHeld
      rw [released_held ha hheld.1 hheld.2, ha]
      dsimp only
      rw [if_pos hheld, retireCheck_passes fun _ => hretiring, markerCheck_toPort fun _ => hmarker]
      rfl
    · have hnobody : ∀ a', s.hbi.access = some a' → a'.phase = .heldBlock → p a' = false := fun a' ha' hph => by
        obtain rfl := Option.some.inj (ha.symm.trans ha')
        exact Bool.eq_false_iff.mpr fun hp => hheld ⟨hph, hp⟩
      rw [releaseHeld_nobody hnobody, released_nobody hnobody]

theorem heldIsPlain_congr {s u : State} {ph : Phase} {p : Access → Prop} (hh : u.hbi = s.hbi)
    (hr : u.txe.retire = s.txe.retire) (h : s.heldIsPlain ph p) : u.heldIsPlain ph p := by
  unfold State.heldIsPlain State.retiring at h ⊢
  rwa [hh, hr]

/-! ### The pass slots and the PRIORITY_BLOCK slot at the end of a block (R72, R92) -/

/-- A pass marked to discard its place, or not, is all that marking changes of the operation table. -/
theorem markStale_txe (s : State) (m : Move) :
    ∃ x, (s.markStale m).txe = s.txe.setPass m x ∧ (x = none ↔ s.txe.passSlot m = none) := by
  have hself : s.txe = s.txe.setPass m (s.txe.passSlot m) := by cases m <;> rfl
  unfold State.markStale
  split
  next o ho =>
    split
    · split
      · exact ⟨_, hself, by rw [ho]⟩
      · exact ⟨_, rfl, by simp [ho]⟩
    · exact ⟨_, hself, by rw [ho]⟩
  next hnone => exact ⟨_, hself, by rw [hnone]⟩

@[simp] theorem setPass_retire (x : Txe) (m : Move) (o : Option PassOp) : (x.setPass m o).retire = x.retire := by
  cases m <;> rfl
@[simp] theorem setPass_priority (x : Txe) (m : Move) (o : Option PassOp) : (x.setPass m o).priority = x.priority := by
  cases m <;> rfl
@[simp] theorem setPass_fifo (x : Txe) (m : Move) (o : Option PassOp) : (x.setPass m o).fifo = x.fifo := by
  cases m <;> rfl
@[simp] theorem setPass_fifoMode (x : Txe) (m : Move) (o : Option PassOp) : (x.setPass m o).fifoMode = x.fifoMode := by
  cases m <;> rfl

theorem dropPriority_of_priority {x : Txe} (h : x.active = some .priorityBlock) :
    x.dropPriority = { x with priority := none } := if_pos h

theorem dropPriority_of_pass {x : Txe} {m : Move} (h : x.active = some m.passKind) : x.dropPriority = x :=
  if_neg fun hp => passKind_ne_priorityBlock m (Option.some.inj (h.symm.trans hp))

@[simp] theorem dropPriority_active (x : Txe) : x.dropPriority.active = x.active := by
  unfold Txe.dropPriority
  split <;> rfl
@[simp] theorem dropPriority_retire (x : Txe) : x.dropPriority.retire = x.retire := by
  unfold Txe.dropPriority
  split <;> rfl
@[simp] theorem dropPriority_fifo (x : Txe) : x.dropPriority.fifo = x.fifo := by
  unfold Txe.dropPriority
  split <;> rfl
@[simp] theorem dropPriority_fifoMode (x : Txe) : x.dropPriority.fifoMode = x.fifoMode := by
  unfold Txe.dropPriority
  split <;> rfl
@[simp] theorem dropPriority_passSlot (x : Txe) (m : Move) : x.dropPriority.passSlot m = x.passSlot m := by
  unfold Txe.dropPriority
  split
  · cases m <;> rfl
  · rfl

theorem priority_none_of_unbegun {x y : Txe} (h : y.unbegun = x.unbegun) (ho : x.priority = none) : y.priority = none :=
  Option.map_eq_none_iff.mp ((congrArg Txe.priority h).trans (Option.map_eq_none_iff.mpr ho))

@[simp] theorem moveOver_unbegun (s : State) (m : Move) : (s.moveOver m).txe.unbegun = s.txe.unbegun := by
  unfold State.moveOver
  split
  · rfl
  · exact askPass_unbegun s m

/-- The state in which a block move that ended its block goes on: the slots but its own are those of `s`, the FIFO is EMPTY, and a
PRIORITY_BLOCK of its move is the one of `s`, or is gone with a block that left the set. -/
structure BlockEnded (s u : State) (m : Move) : Prop where
  rgd : u.rgd = s.rgd
  active : u.txe.active = s.txe.active
  fifo : u.txe.fifo = []
  fifoMode : u.txe.fifoMode = .empty
  sorted : (s.ckc.setOf m).Pairwise (· < ·) → (u.ckc.setOf m).Pairwise (· < ·)
  pass : s.txe.passSlot m ≠ none → u.txe.passSlot m ≠ none
  freed : s.txe.active = some .priorityBlock → u.txe.priority = none
  kept : s.txe.active = some m.passKind → u.txe.priority = s.txe.priority ∨
    u.txe.priority = none ∧ ∀ o ∈ s.txe.priority, o.move = m → o.block ∉ u.ckc.setOf m

/-- The FIFO stays EMPTY to the end of the group, a PRIORITY_BLOCK frees its slot, and a pass takes the next block or ends. -/
theorem BlockEnded.goesOn {s u : State} {m : Move} {p : PassPos} (h : BlockEnded s u m) (hpos : s.movePos m = some p)
    (asked : Bool) :
    ((u.moveOver m).engineSelectEnd asked).txe.fifo = [] ∧ ((u.moveOver m).engineSelectEnd asked).txe.fifoMode = .empty ∧
      ((s.ckc.setOf m).Pairwise (· < ·) → passAnswered s ((u.moveOver m).engineSelectEnd asked) m) := by
  have hslots : ((u.moveOver m).engineSelectEnd asked).txe.unbegun = u.txe.unbegun :=
    (engineSelectEnd_unbegun _ _).trans (moveOver_unbegun u m)
  refine ⟨(congrArg Txe.fifo hslots).trans h.fifo, (congrArg Txe.fifoMode hslots).trans h.fifoMode, fun hsorted => ?_⟩
  rcases movePos_iff.mp hpos with ⟨ha, -⟩ | ⟨ha, o, ho, -⟩
  · exact passAnswered_of_priority ha (priority_none_of_unbegun hslots (h.freed ha))
  · have hask : u.moveOver m = u.askPass m := if_neg fun hp =>
      passKind_ne_priorityBlock m (Option.some.inj (ha.symm.trans (h.active.symm.trans hp)))
    have hcand (r : Region) (b : Nat) : s.passCandidate u.ckc m r b ↔ u.passCandidate u.ckc m r b := by
      rcases h.kept ha with hsame | ⟨hgone, hleft⟩
      · exact (passCandidate_congr h.rgd (by rw [hsame]) _ m r b).symm
      · unfold State.passCandidate
        rw [h.rgd, hgone]
        refine ⟨fun ⟨hd, hf, hb, _⟩ => ⟨hd, hf, hb, nofun⟩, fun ⟨hd, hf, hb, _⟩ => ⟨hd, hf, hb, fun o ho hm hob => ?_⟩⟩
        exact hleft o ho hm (hob ▸ hb)
    rw [hask]
    exact passAnswered_of_asked ha (h.pass (by simp [ho])) h.rgd (h.sorted hsorted) hcand (workKept_engineSelectEnd _ _)
      (by simp)

/-! ### A block moved (R89, R106) -/

/-- The sets and states after block `b` of region `r` was moved: it leaves its set, and the region of the last block is VALID. -/
def Ckc.blockMoved (c : Ckc) (t : Table) (m : Move) (r : Region) (b : Nat) : Ckc :=
  if decide (b ∈ c.setOf m) && decide (BlockSet.ofRegion t r ((c.moved m b).setOf m) = []) &&
      (c.moved m b).ckState.get r == m.inFlight then (c.moved m b).setState r .valid
  else c.moved m b

theorem blockMoved_eq (s : State) (m : Move) (r : Region) (b : Nat) :
    s.blockMoved m r b =
      (State.markStale { s with ckc := s.ckc.blockMoved s.rgd.table m r b } m).releaseHeld
        fun a => decide (a.record.block = b) := rfl

@[simp] theorem moved_ckState (c : Ckc) (m : Move) (b : Nat) : (c.moved m b).ckState = c.ckState := by
  unfold Ckc.moved
  split
  · rfl
  · split <;> rfl

@[simp] theorem setState_setOf (c : Ckc) (r : Region) (x : CkState) (m : Move) : (c.setState r x).setOf m = c.setOf m := by
  cases m <;> rfl

theorem setOf_moved {c : Ckc} {m : Move} {b : Nat} (h : b ∈ c.setOf m) :
    (c.moved m b).setOf m = BlockSet.remove b (c.setOf m) := by
  cases m with
  | copy => rfl
  | restore => exact congrArg Ckc.restore (if_pos h)

theorem mem_remove {b x : Nat} {xs : BlockSet} : x ∈ BlockSet.remove b xs ↔ x ∈ xs ∧ x ≠ b := by
  simp [BlockSet.remove]

theorem mem_moved {c : Ckc} {m : Move} {b : Nat} (h : b ∈ c.setOf m) (x : Nat) :
    (x ∈ (c.moved m b).pass ↔ x ∈ c.pass ∧ (m = .copy → x ≠ b)) ∧
    (x ∈ (c.moved m b).restore ↔ x ∈ c.restore ∧ (m = .restore → x ≠ b)) ∧
    (x ∈ (c.moved m b).dirty ↔ x ∈ c.dirty ∧ (m = .restore → x ≠ b)) := by
  cases m with
  | copy => simp [Ckc.moved, mem_remove]
  | restore =>
    rw [show c.moved .restore b = _ from if_pos h]
    simp [mem_remove]

theorem blockMoved_sets (c : Ckc) (t : Table) (m : Move) (r : Region) (b : Nat) :
    (c.blockMoved t m r b).pass = (c.moved m b).pass ∧ (c.blockMoved t m r b).restore = (c.moved m b).restore ∧
      (c.blockMoved t m r b).dirty = (c.moved m b).dirty := by
  unfold Ckc.blockMoved
  split <;> exact ⟨rfl, rfl, rfl⟩

theorem setOf_blockMoved (c : Ckc) (t : Table) (m : Move) (r : Region) (b : Nat) :
    (c.blockMoved t m r b).setOf m = (c.moved m b).setOf m := by
  unfold Ckc.blockMoved
  split
  · exact setState_setOf _ _ _ _
  · rfl

/-- The region in flight of a moved block is VALID exactly when no other block of it was left in the set. -/
theorem blockMoved_ckState {c : Ckc} {t : Table} {m : Move} {r : Region} {d : Descriptor} {b : Nat}
    (hd : t.get r = some d) (hf : c.ckState.get r = m.inFlight) (hb : b ∈ c.setOf m) :
    ((∀ x ∈ c.setOf m, d.authorised x = true → x = b) → (c.blockMoved t m r b).ckState = c.ckState.set r .valid) ∧
    ((∃ x ∈ c.setOf m, d.authorised x = true ∧ x ≠ b) → (c.blockMoved t m r b).ckState = c.ckState) := by
  have hlast : BlockSet.ofRegion t r ((c.moved m b).setOf m) = [] ↔ ∀ x ∈ c.setOf m, d.authorised x = true → x = b := by
    rw [List.eq_nil_iff_forall_not_mem]
    simp only [mem_ofRegion hd, setOf_moved hb, mem_remove]
    exact ⟨fun h x hx ha => by_contra fun hne => h x ⟨⟨hx, hne⟩, ha⟩, fun h x ⟨⟨hx, hne⟩, ha⟩ => hne (h x hx ha)⟩
  unfold Ckc.blockMoved
  simp only [moved_ckState, hf, decide_eq_true hb, hlast]
  refine ⟨fun h => ?_, fun ⟨x, hx, ha, hne⟩ => ?_⟩
  · rw [decide_eq_true h]
    simp [Ckc.setState]
  · rw [decide_eq_false fun h => hne (h x hx ha)]
    simp

/-- The state before the engine goes on, where the access held for the block goes straight to the port. -/
theorem blockMoved_effect {s : State} {m : Move} {r : Region} {b : Nat}
    (h : s.heldIsPlain .heldBlock fun a => a.record.block = b) :
    (s.blockMoved m r b).ckc = s.ckc.blockMoved s.rgd.table m r b ∧
      (s.blockMoved m r b).hbi = s.hbi.released (fun a => decide (a.record.block = b)) ∧
      (s.blockMoved m r b).cau = s.cau ∧ (s.blockMoved m r b).fau = s.fau ∧
      ∃ x, (s.blockMoved m r b).txe = s.txe.setPass m x ∧ (x = none ↔ s.txe.passSlot m = none) := by
  obtain ⟨x, hx, hnone⟩ := markStale_txe { s with ckc := s.ckc.blockMoved s.rgd.table m r b } m
  have hplain : (State.markStale { s with ckc := s.ckc.blockMoved s.rgd.table m r b } m).heldIsPlain .heldBlock
      fun a => decide (a.record.block = b) = true := by
    simp only [decide_eq_true_iff]
    exact heldIsPlain_congr (by simp) (by rw [hx]; simp) h
  rw [blockMoved_eq, releaseHeld_plain hplain]
  exact ⟨by simp, by simp, by simp, by simp, x, hx, hnone⟩

/-- Settles O34: the block leaves its set, the access held for it goes to the port, and the engine goes on. -/
theorem blockMoved : Obligations.BlockMoved := by
  intro s m p d src dst e hs hmoves hmode hfifo hp hmem hflight hb hplain
  have hpos := hmoves.2.1
  have hd := hmoves.2.2.1
  have hexec := exec_writeOf_of_moves hmoves hmode hfifo hmem
  rw [moveWrite_block (moveTargetWord_of_moves hmoves e) hfifo hp] at hexec
  generalize hu : ({ s.drained (dst * 128 + e.offset) e with txe := s.txe.pop.dropPriority } : State) = u at hexec
  have hux : u.txe = s.txe.pop.dropPriority := by rw [← hu]
  rw [pop_of_last hfifo] at hux
  have huc : u.ckc = s.ckc := by rw [← hu]; rfl
  have hur : u.rgd = s.rgd := by rw [← hu]; rfl
  have huh : u.hbi = s.hbi := by rw [← hu]; rfl
  obtain ⟨hckc, hhbi, hcau, hfau, x, hx, hslot⟩ := blockMoved_effect (s := u) (m := m) (r := p.region) (b := p.block)
    (heldIsPlain_congr huh (by rw [hux]; simp) hplain)
  rw [huc, hur] at hckc
  rw [huh] at hhbi
  have hended : BlockEnded s (u.blockMoved m p.region p.block) m :=
    { rgd := by simp [hur]
      active := by rw [hx, hux]; simp
      fifo := by rw [hx, hux]; simp
      fifoMode := by rw [hx, hux]; simp
      sorted := fun h => by
        rw [hckc, setOf_blockMoved, setOf_moved hb]
        exact h.filter _
      pass := fun h => by
        rw [hux, dropPriority_passSlot, passSlot_fifo] at hslot
        rw [hx, setPass_passSlot_same]
        exact fun hn => h (hslot.mp hn)
      freed := fun ha => by
        rw [hx, setPass_priority, hux, dropPriority_of_priority (x := { s.txe with fifo := [], fifoMode := .empty }) ha]
      kept := fun ha => .inl (by
        rw [hx, setPass_priority, hux,
          dropPriority_of_pass (x := { s.txe with fifo := [], fifoMode := .empty }) (m := m) ha]) }
  obtain ⟨hempty, hemptyMode, hanswered⟩ := hended.goesOn hpos s.procAsking
  have hsets := blockMoved_sets s.ckc s.rgd.table m p.region p.block
  have hstate := blockMoved_ckState hd hflight hb
  refine ⟨_, hexec, drained_wrote hs (by simp [← hu]) (by simp [← hu]), fun y => ?inS, fun y => ?inR, fun y => ?inD,
    fun h => ?valid, fun h => ?inFlight, fun a ha hph hab => ?held, fun h => ?nobody, hempty, hemptyMode, hanswered, ?frame⟩
  case inS =>
    rw [engineSelectEnd_ckc, moveOver_ckc, hckc, hsets.1]
    exact (mem_moved hb y).1
  case inR =>
    rw [engineSelectEnd_ckc, moveOver_ckc, hckc, hsets.2.1]
    exact (mem_moved hb y).2.1
  case inD =>
    rw [engineSelectEnd_ckc, moveOver_ckc, hckc, hsets.2.2]
    exact (mem_moved hb y).2.2
  case valid =>
    rw [engineSelectEnd_ckc, moveOver_ckc, hckc]
    exact hstate.1 h
  case inFlight =>
    rw [engineSelectEnd_ckc, moveOver_ckc, hckc]
    exact hstate.2 h
  case held =>
    rw [engineSelectEnd_hbi, moveOver_hbi, hhbi]
    exact released_held ha hph (decide_eq_true hab)
  case nobody =>
    rw [engineSelectEnd_hbi, moveOver_hbi, hhbi]
    exact released_nobody fun a ha hph => decide_eq_false (h a ha hph)
  case frame =>
    apply State.ext <;> simp [hcau, hfau] <;> simp [← hu, State.drained]

/-! ### A block that could not be moved (R73, R93, R94, R111, R112) -/

/-- A word that cannot be read ends its block. -/
theorem moveRead_bad {s : State} {m : Move} {p : PassPos} {d : Descriptor} {src dst : Nat} (h : s.moves m p d src dst)
    {rep : CheckReport} (hrep : rep = s.check true (src * 128 + p.offset) (s.terms (src * 128 + p.offset)))
    (hnone : rep.data = none) :
    s.moveRead m p =
      ((({ s with txe := s.txe.flush.dropPriority } : State).moveFailed m p.region p.block ⟨p.region, m.sourcePart, src, p.offset⟩
        (src * 128 + p.offset) rep).moveOver m).engineSelectEnd s.procAsking := by
  unfold State.moveRead
  dsimp only
  rw [moveSourceWord_of_moves h, ← hrep]
  have hrepair : s.repair (src * 128 + p.offset) (s.terms (src * 128 + p.offset)) rep = s := by
    rw [hrep] at hnone ⊢
    exact repair_bad hnone
  rw [hnone, hrepair, State.moveReadFails, moveBlocks_of_moves h]
  rfl

/-- A region broken out of its pass, with the access held for one of its blocks going straight to the port. -/
theorem breakPass_plain {s : State} {m : Move} {r : Region}
    (h : s.heldIsPlain .heldBlock fun a => a.record.region = r) :
    s.breakPass m r =
      { (State.markStale { s with ckc := s.ckc.breakPass s.rgd.table m r } m).withdrawPriority m with
        hbi := s.hbi.released fun a => decide (a.record.region = r) } := by
  obtain ⟨x, hx, -⟩ := markStale_txe { s with ckc := s.ckc.breakPass s.rgd.table m r } m
  have hplain : ((State.markStale { s with ckc := s.ckc.breakPass s.rgd.table m r } m).withdrawPriority m).heldIsPlain
      .heldBlock fun a => decide (a.record.region = r) = true := by
    simp only [decide_eq_true_iff]
    refine heldIsPlain_congr (by simp) ?_ h
    rcases withdrawPriority_cases (State.markStale { s with ckc := s.ckc.breakPass s.rgd.table m r } m) m with
      ⟨he, -⟩ | ⟨_, -, -, -, he⟩ <;> rw [he] <;> simp [hx]
  rw [State.breakPass, releaseHeld_plain hplain]
  simp

theorem shadowBreak_inFlight {s : State} {m : Move} {r : Region} (h : s.ckc.ckState.get r = m.inFlight) :
    s.shadowBreak r = s.breakPass m r ∧ s.ckc.shadowBroken s.rgd.table r = s.ckc.breakPass s.rgd.table m r := by
  unfold State.shadowBreak Ckc.shadowBroken
  rw [h]
  cases m <;> exact ⟨rfl, rfl⟩

/-- What a break of a region in flight leaves of the operation table: the pass may be marked, the PRIORITY_BLOCK of a block that left
the set is withdrawn. -/
theorem breakPass_txe {s : State} {m : Move} {r : Region} (h : s.heldIsPlain .heldBlock fun a => a.record.region = r) :
    (s.breakPass m r).txe.active = s.txe.active ∧ (s.breakPass m r).txe.fifo = s.txe.fifo ∧
      (s.breakPass m r).txe.fifoMode = s.txe.fifoMode ∧
      (s.txe.passSlot m ≠ none → (s.breakPass m r).txe.passSlot m ≠ none) ∧
      ((s.breakPass m r).txe.priority = s.txe.priority ∨
        (s.breakPass m r).txe.priority = none ∧
          ∀ o ∈ s.txe.priority, o.move = m → o.block ∉ (s.ckc.breakPass s.rgd.table m r).setOf m) := by
  obtain ⟨x, hx, hslot⟩ := markStale_txe { s with ckc := s.ckc.breakPass s.rgd.table m r } m
  rw [breakPass_plain h]
  have hpass : s.txe.passSlot m ≠ none → x ≠ none := fun hs hn => hs (hslot.mp hn)
  rcases withdrawPriority_cases (State.markStale { s with ckc := s.ckc.breakPass s.rgd.table m r } m) m with
    ⟨he, -⟩ | ⟨o, ho, hm, hleft, he⟩ <;> rw [he] <;> dsimp only <;> rw [hx]
  · exact ⟨by simp, by simp, by simp, by simpa using hpass, .inl (by simp)⟩
  · rw [hx, setPass_priority] at ho
    rw [markStale_ckc] at hleft
    refine ⟨by simp, by simp, by simp, fun hs => ?_, .inr ⟨rfl, fun o' ho' _ => ?_⟩⟩
    · have hx' := hpass hs
      cases m <;> exact hx'
    · obtain rfl := Option.some.inj (ho.symm.trans ho')
      exact hleft

/-- The block a checkpointed region owns joins D where the region's state is not NONE. -/
theorem addDirty_owned {s : State} {r : Region} {d : Descriptor} {b : Nat} (hd : s.rgd.table.get r = some d)
    (hck : d.attrs.checkpoint = true) (hb : d.authorised b = true)
    (hu : ∀ r' d', s.rgd.table.get r' = some d' → d'.attrs.checkpoint = true → d'.authorised b = true → r' = r)
    (hstate : s.ckc.ckState.get r ≠ .none) :
    (s.addDirty b).ckc = { s.ckc with dirty := BlockSet.add b s.ckc.dirty } := by
  have hfirst := firstRegion_unique (p := fun _ d => d.attrs.checkpoint && d.authorised b) hd (by simp [hck, hb])
    fun r' d' hd' hp => hu r' d' hd' (Bool.and_eq_true_iff.mp hp).1 (Bool.and_eq_true_iff.mp hp).2
  unfold State.addDirty
  rw [hfirst]
  exact congrArg State.ckc (if_neg hstate)

theorem moveFault_taints (t : Table) (m : Move) (pos : Position) (w : Nat) (rep : CheckReport) :
    faultTaints t (moveFault m pos w rep) = { TaintSet.empty with suspectBlock := decide (m = .copy) } := by
  cases m <;> simp [faultTaints, moveFault, bareFault, TaintSet.empty]

/-- The record of a block move's failure (R94, R112). -/
theorem recordOf_moveFault {s : State} {r : Region} {d : Descriptor} (hd : s.rgd.table.get r = some d) (m : Move)
    (src offset w : Nat) (rep : CheckReport) :
    s.recordOf (moveFault m ⟨r, m.sourcePart, src, offset⟩ w rep) =
      { kind := (match m with
          | .copy => .checkpointFailed
          | .restore => .restoreFailed)
        also := some .uncorrectable
        source := (match m with
          | .copy => .engineCheckpoint
          | .restore => .engineRestore)
        word := some w, region := some r, findings := some ⟨rep.qFinding, rep.pFinding, rep.distance⟩
        position := some ⟨r, (match m with
          | .copy => .working
          | .restore => .shadow), src, offset⟩
        vital := decide (m = .restore) && d.attrs.vital, epoch := s.cau.epoch, cycle := s.cau.cycle } := by
  cases m with
  | copy => rfl
  | restore => simp [State.recordOf, moveFault, bareFault, faultVital, hasAttr, hd, CheckReport.findings, Move.sourcePart]

/-- The sets and states after a move of block `b` of region `r` failed: the region leaves its pass BROKEN, and a block that could not
be copied joins D. -/
def Ckc.moveFailed (c : Ckc) (t : Table) (m : Move) (r : Region) (b : Nat) : Ckc :=
  match m with
  | .copy => { c.breakPass t .copy r with dirty := BlockSet.add b (c.breakPass t .copy r).dirty }
  | .restore => c.breakPass t .restore r

theorem setOf_moveFailed (c : Ckc) (t : Table) (m : Move) (r : Region) (b : Nat) :
    (c.moveFailed t m r b).setOf m = (c.breakPass t m r).setOf m := by cases m <;> rfl

theorem setOf_breakPass (c : Ckc) (t : Table) (m : Move) (r : Region) :
    (c.breakPass t m r).setOf m = BlockSet.outside t r (c.setOf m) := by cases m <;> rfl

theorem outside_pairwise {t : Table} {r : Region} {xs : BlockSet} (h : xs.Pairwise (· < ·)) :
    (BlockSet.outside t r xs).Pairwise (· < ·) := by
  unfold BlockSet.outside
  split
  · exact h.filter _
  · exact h

theorem breakPass_ckState (c : Ckc) (t : Table) (m : Move) (r : Region) :
    (c.breakPass t m r).ckState = c.ckState.set r .broken := by cases m <;> rfl

theorem moveFailed_ckState (c : Ckc) (t : Table) (m : Move) (r : Region) (b : Nat) :
    (c.moveFailed t m r b).ckState = c.ckState.set r .broken := by
  cases m <;> exact breakPass_ckState _ _ _ _

theorem mem_moveFailed {c : Ckc} {t : Table} {m : Move} {r : Region} {d : Descriptor} (hd : t.get r = some d) (b x : Nat) :
    (x ∈ (c.moveFailed t m r b).pass ↔ x ∈ c.pass ∧ (m = .copy → d.authorised x = false)) ∧
    (x ∈ (c.moveFailed t m r b).restore ↔ x ∈ c.restore ∧ (m = .restore → d.authorised x = false)) ∧
    (x ∈ (c.moveFailed t m r b).dirty ↔
      x ∈ c.dirty ∨ m = .copy ∧ (x = b ∨ x ∈ c.pass ∧ d.authorised x = true)) := by
  cases m with
  | copy =>
    refine ⟨?_, ?_, ?_⟩
    · simp [Ckc.moveFailed, Ckc.breakPass, Ckc.setState, mem_outside hd]
    · simp [Ckc.moveFailed, Ckc.breakPass, Ckc.setState]
    · simp only [Ckc.moveFailed, Ckc.breakPass, Ckc.setState, mem_add, mem_addAll, mem_ofRegion hd, true_and]
      tauto
  | restore => simp [Ckc.moveFailed, Ckc.breakPass, Ckc.setState, mem_outside hd]

/-- The state in which a failure is taken: the region out of its pass, and a block that could not be copied marked suspect. -/
def State.moveBroken (s : State) (m : Move) (r : Region) (b : Nat) : State :=
  match m with
  | .copy => (s.breakPass .copy r).addDirty b
  | .restore => s.breakPass .restore r

@[simp] theorem moveBroken_rgd (s : State) (m : Move) (r : Region) (b : Nat) : (s.moveBroken m r b).rgd = s.rgd := by
  cases m <;> simp [State.moveBroken]

@[simp] theorem moveBroken_txe (s : State) (m : Move) (r : Region) (b : Nat) :
    (s.moveBroken m r b).txe = (s.breakPass m r).txe := by
  cases m <;> simp [State.moveBroken]

theorem moveFailed_eq {s : State} {m : Move} {r : Region} (h : s.ckc.ckState.get r = m.inFlight) (b : Nat) (pos : Position)
    (w : Nat) (rep : CheckReport) :
    s.moveFailed m r b pos w rep = (s.moveBroken m r b).takeFault (moveFault m pos w rep) := by
  unfold State.moveFailed
  rw [(shadowBreak_inFlight h).1]
  cases m <;> rfl

/-- What breaks off with the block that could not be moved: its region's pass, with no fault and no taint yet. -/
theorem moveBroken_effect {s : State} {m : Move} {r : Region} {d : Descriptor} {b : Nat} (hd : s.rgd.table.get r = some d)
    (hck : d.attrs.checkpoint = true) (hb : d.authorised b = true)
    (hu : ∀ r' d', s.rgd.table.get r' = some d' → d'.attrs.checkpoint = true → d'.authorised b = true → r' = r)
    (hplain : s.heldIsPlain .heldBlock fun a => a.record.region = r) :
    (s.moveBroken m r b).ckc = s.ckc.moveFailed s.rgd.table m r b ∧
      (s.moveBroken m r b).hbi = s.hbi.released (fun a => decide (a.record.region = r)) ∧
      (s.moveBroken m r b).cau = s.cau ∧ (s.moveBroken m r b).fau = s.fau := by
  have hbreak := breakPass_plain (m := m) hplain
  have hckc : (s.breakPass m r).ckc = s.ckc.breakPass s.rgd.table m r := by rw [hbreak]; simp
  have hhbi : (s.breakPass m r).hbi = s.hbi.released (fun a => decide (a.record.region = r)) := by rw [hbreak]
  have hcau : (s.breakPass m r).cau = s.cau := by rw [hbreak]; simp
  have hfau : (s.breakPass m r).fau = s.fau := by rw [hbreak]; simp
  cases m with
  | copy =>
    have hstate : (s.breakPass .copy r).ckc.ckState.get r ≠ .none := by
      rw [hckc, breakPass_ckState]
      simp [Vector.get_eq_getElem]
    refine ⟨?_, by simpa [State.moveBroken] using hhbi, by simpa [State.moveBroken] using hcau,
      by simpa [State.moveBroken] using hfau⟩
    rw [State.moveBroken, addDirty_owned (by simpa using hd) hck hb (by simpa using hu) hstate, hckc]
    rfl
  | restore => exact ⟨hckc, hhbi, hcau, hfau⟩

/-- Settles O35: the region leaves its pass BROKEN, the failure is taken, and the engine goes on. -/
theorem blockMoveFails : Obligations.BlockMoveFails := by
  intro s m p d src dst rep hmoves hmode hmem hrep hnone hflight hck hauth hu hplain
  have hpos := hmoves.2.1
  have hd := hmoves.2.2.1
  have hexec := exec_readOf_of_moves hmoves hmode hmem
  rw [moveRead_bad hmoves hrep hnone] at hexec
  generalize hv : ({ s with txe := s.txe.flush.dropPriority } : State) = v at hexec
  have hvflight : v.ckc.ckState.get p.region = m.inFlight := by rw [← hv]; exact hflight
  rw [moveFailed_eq hvflight] at hexec
  have hvx : v.txe = s.txe.flush.dropPriority := by rw [← hv]
  have hvplain : v.heldIsPlain .heldBlock fun a => a.record.region = p.region :=
    heldIsPlain_congr (by rw [← hv]) (by rw [hvx, dropPriority_retire]; rfl) hplain
  obtain ⟨hckc, hhbi, hcau, hfau⟩ := moveBroken_effect (s := v) (m := m) (by rw [← hv]; exact hd) hck hauth
    (by rw [← hv]; exact hu) hvplain
  obtain ⟨hactive, hfifo, hfifoMode, hpass, hpriority⟩ := breakPass_txe (m := m) hvplain
  obtain ⟨hvc, hvr, hvh, hvcau, hvfau⟩ :
      v.ckc = s.ckc ∧ v.rgd = s.rgd ∧ v.hbi = s.hbi ∧ v.cau = s.cau ∧ v.fau = s.fau := by
    rw [← hv]
    exact ⟨rfl, rfl, rfl, rfl, rfl⟩
  rw [hvc, hvr] at hckc hpriority
  rw [hvh] at hhbi
  rw [hvcau] at hcau
  rw [hvfau] at hfau
  have hended : BlockEnded s ((v.moveBroken m p.region p.block).takeFault
      (moveFault m ⟨p.region, m.sourcePart, src, p.offset⟩ (src * 128 + p.offset) rep)) m :=
    { rgd := by simp [hvr]
      active := by simp [hactive, hvx, Txe.flush]
      fifo := by simp [hfifo, hvx, Txe.flush]
      fifoMode := by simp [hfifoMode, hvx, Txe.flush]
      sorted := fun h => by
        rw [takeFault_ckc, hckc, setOf_moveFailed, setOf_breakPass]
        exact outside_pairwise h
      pass := fun h => by
        rw [takeFault_txe, moveBroken_txe]
        exact hpass (by rwa [hvx, dropPriority_passSlot, Txe.flush, passSlot_fifo])
      freed := fun ha => by
        have hgone : v.txe.priority = none := by
          rw [hvx, dropPriority_of_priority (x := s.txe.flush) ha]
        rw [takeFault_txe, moveBroken_txe]
        rcases hpriority with he | ⟨he, -⟩
        · exact he.trans hgone
        · exact he
      kept := fun ha => by
        have hsame : v.txe.priority = s.txe.priority := by
          rw [hvx, dropPriority_of_pass (x := s.txe.flush) ha]
          rfl
        rwa [takeFault_txe, takeFault_ckc, moveBroken_txe, hckc, setOf_moveFailed, ← hsame] }
  obtain ⟨hempty, hemptyMode, hanswered⟩ := hended.goesOn hpos s.procAsking
  have hrecord := recordOf_moveFault (s := v.moveBroken m p.region p.block) (r := p.region) (d := d)
    (by rw [moveBroken_rgd, hvr, hd]) m src p.offset (src * 128 + p.offset) rep
  rw [hcau] at hrecord
  refine ⟨_, hexec, hempty, hemptyMode, hanswered, ?state, fun x => ?inS, fun x => ?inR, fun x => ?inD, ?fau, ?cau,
    fun a ha hph hab => ?held, fun h => ?nobody, ?frame⟩
  case state => rw [engineSelectEnd_ckc, moveOver_ckc, takeFault_ckc, hckc, moveFailed_ckState]
  case inS =>
    rw [engineSelectEnd_ckc, moveOver_ckc, takeFault_ckc, hckc]
    exact (mem_moveFailed hd p.block x).1
  case inR =>
    rw [engineSelectEnd_ckc, moveOver_ckc, takeFault_ckc, hckc]
    exact (mem_moveFailed hd p.block x).2.1
  case inD =>
    rw [engineSelectEnd_ckc, moveOver_ckc, takeFault_ckc, hckc]
    exact (mem_moveFailed hd p.block x).2.2
  case fau =>
    rw [engineSelectEnd_fau, moveOver_fau, takeFault_fau, hfau]
    exact congrArg s.fau.take hrecord
  case cau => rw [engineSelectEnd_cau, moveOver_cau, takeFault_cau, hcau, moveFault_taints]
  case held =>
    rw [engineSelectEnd_hbi, moveOver_hbi, takeFault_hbi, hhbi]
    exact released_held ha hph (decide_eq_true hab)
  case nobody =>
    rw [engineSelectEnd_hbi, moveOver_hbi, takeFault_hbi, hhbi]
    exact released_nobody fun a ha hph => decide_eq_false (h a ha hph)
  case frame => rw [← moveFailed_eq hvflight, ← hv]; apply State.ext <;> simp

end Sys2Proof.Machine
end

section
/-! PROOFS. Retire copies within a block, and clears (R62, R68, R69, R74, R78, R79, R177). -/
namespace Sys2Proof.Machine

theorem engineAt_of_engineOn {s : State} {k : EngineKind} (h : s.engineOn k) : s.engineAt k = true := by
  rw [State.engineAt, h.1, h.2]
  simp

theorem active_of_engineOn {s : State} {k : EngineKind} (h : s.engineOn k) : s.txe.active ≠ none := by simp [h.2]

/-! ### The words of a retire copy (R69, R74) -/

theorem exec_retireWordRead {s : State} {o : RetireOp} (hon : s.engineOn .retire) (hslot : s.txe.retire = some o)
    (hmode : s.txe.fifoMode ≠ .draining) (hmem : s.physWord (o.block * 128 + o.offset) < s.memWords) :
    exec .retireWordRead s = .next (s.retireRead o) := by
  have hgranted : s.retireReadGranted = some o := (if_pos ⟨engineAt_of_engineOn hon, hmode⟩).trans hslot
  show execRetireWordRead s = _
  rw [execRetireWordRead, hgranted]
  exact onPort_fitted hmem _

theorem exec_retireWordWrite {s : State} {o : RetireOp} {e : FifoEntry} {rest : List FifoEntry} (hon : s.engineOn .retire)
    (hslot : s.txe.retire = some o) (hmode : s.txe.fifoMode = .draining) (hfifo : s.txe.fifo = e :: rest)
    (hmem : (s.mli.params.spareBase + o.spare) * 128 + e.offset < s.memWords) :
    exec .retireWordWrite s = .next (s.retireWrite o e) := by
  have hgranted : s.retireWriteGranted = some (o, e) := by
    rw [State.retireWriteGranted, if_pos (engineAt_of_engineOn hon), hslot, Txe.oldest, if_pos hmode, hfifo]
    rfl
  show execRetireWordWrite s = _
  rw [execRetireWordWrite, hgranted]
  exact onPort_fitted hmem _

/-- A word of a retire copy that delivers its data goes into the FIFO. -/
theorem retireRead_good {s : State} {o : RetireOp} {data : Word}
    (hdata : (s.check true (o.block * 128 + o.offset) (s.terms (o.block * 128 + o.offset))).data = some data) :
    s.retireRead o =
      ({ s.repair (o.block * 128 + o.offset) (s.terms (o.block * 128 + o.offset))
          (s.check true (o.block * 128 + o.offset) (s.terms (o.block * 128 + o.offset))) with
        txe := { s.txe.push ⟨data, o.offset, s.cau.epoch⟩ with
          retire := some { o with offset := o.offset + 1 } } } : State).engineGroupEnd s.procAsking := by
  unfold State.retireRead
  dsimp only
  rw [RetireOp.word, Config.blockWords, hdata]
  simp [State.entryOf]

/-- The state with the FIFO's oldest entry written to the target spare, under the logical word's signature in the epoch of its
read. -/
def State.retireDrained (s : State) (o : RetireOp) (e : FifoEntry) : State :=
  { s.putPair (s.spareWord o.spare e.offset) e.data
      (encode e.data (signature (o.word e.offset) (s.terms (o.word e.offset)) e.epoch)) with txe := s.txe.pop }

theorem retireDrained_wrote {s t : State} {o : RetireOp} {e : FifoEntry} (hs : s.canonical)
    (hP : t.planeP = (s.retireDrained o e).planeP) (hQ : t.planeQ = (s.retireDrained o e).planeQ) :
    wroteWord s t ((s.mli.params.spareBase + o.spare) * 128 + e.offset) e.data
      (signature (o.block * 128 + e.offset) (s.terms (o.block * 128 + e.offset)) e.epoch) := wrote_of_planes hs hP hQ

theorem retireWrite_more {s : State} {o : RetireOp} {e : FifoEntry} {rest : List FifoEntry} (hfifo : s.txe.fifo = e :: rest)
    (hrest : rest ≠ []) : s.retireWrite o e = (s.retireDrained o e).engineGroupEnd s.procAsking :=
  if_pos (show s.txe.fifo.tail ≠ [] by rwa [hfifo])

theorem retireWrite_chunk {s : State} {o : RetireOp} {e : FifoEntry} (hfifo : s.txe.fifo = [e]) (ho : o.offset < 128) :
    s.retireWrite o e = (s.retireDrained o e).engineSelectEnd s.procAsking :=
  (if_neg (show ¬s.txe.fifo.tail ≠ [] by simp [hfifo])).trans (if_pos ho)

/-- Settles O36: a retire copy reads as a block move, and its chunk ends at a selection point. -/
theorem retireCopies : Obligations.RetireCopies := by
  refine ⟨?read, ?more, ?chunk⟩
  case read =>
    rintro s o rep data hs hon hslot hmode hmem rfl hdata
    have hexec := exec_retireWordRead hon hslot hmode hmem
    rw [retireRead_good hdata] at hexec
    generalize hu : ({ s.repair (o.block * 128 + o.offset) (s.terms (o.block * 128 + o.offset))
        (s.check true (o.block * 128 + o.offset) (s.terms (o.block * 128 + o.offset))) with
      txe := { s.txe.push ⟨data, o.offset, s.cau.epoch⟩ with
        retire := some { o with offset := o.offset + 1 } } } : State) = u at hexec
    have hx : u.txe = { s.txe.push ⟨data, o.offset, s.cau.epoch⟩ with retire := some { o with offset := o.offset + 1 } } := by
      rw [← hu]
    obtain ⟨htxe, hmpt⟩ := portAfterEngine_active (s := s) (u := u) (by rw [hx]; exact active_of_engineOn hon)
      (by simp [← hu]) (by simp [← hu]) (by simp [← hu])
    refine ⟨_, hexec, readWell_congr (repair_readWell hs hdata) ?_ ?_ ?_ ?_, htxe.trans hx, hmpt, ?frame⟩
    case frame => apply State.ext <;> simp [← hu]
    all_goals simp [← hu]
  case more =>
    intro s o e rest hs hon hslot hmode hfifo hrest hmem
    have hexec := exec_retireWordWrite hon hslot hmode hfifo hmem
    rw [retireWrite_more hfifo hrest] at hexec
    obtain ⟨htxe, hmpt⟩ := portAfterEngine_active (s := s) (u := s.retireDrained o e) (active_of_engineOn hon) rfl rfl rfl
    refine ⟨_, hexec, retireDrained_wrote hs (by simp) (by simp), htxe.trans (pop_of_more hmode hfifo hrest), hmpt, ?_⟩
    apply State.ext <;> simp [State.retireDrained]
  case chunk =>
    intro s o e hs hon hslot hmode hfifo ho hmem
    have hexec := exec_retireWordWrite hon hslot hmode hfifo hmem
    rw [retireWrite_chunk hfifo ho] at hexec
    have hx : (s.retireDrained o e).txe = { s.txe with fifo := [], fifoMode := .empty } := pop_of_last hfifo
    obtain ⟨hempty, hemptyMode, hkept, hscrub, hactive⟩ := chunkEnd (s := s) hx rfl rfl rfl rfl rfl
    refine ⟨_, hexec, retireDrained_wrote hs (by simp) (by simp), hempty, hemptyMode,
      retire_of_unbegun (engineSelectEnd_unbegun _ _) (by rw [hx]; exact hslot), hkept, hscrub, hactive, ?_⟩
    apply State.ext <;> simp [State.retireDrained]

/-! ### The words of a clear (R78, R79) -/

/-- The place after the word just cleared, with ranges left to clear. -/
theorem clearNext_eq {o : ClearOp} {c : ClearRange} {cs : List ClearRange} (h : o.ranges = c :: cs) :
    o.next =
      if o.offset + 1 < 128 then some { o with offset := o.offset + 1 }
      else if o.done + 1 < c.count then some { o with done := o.done + 1, offset := 0 }
      else if cs ≠ [] then some { o with ranges := cs, done := 0, offset := 0 }
      else none := by
  unfold ClearOp.next
  rw [h]
  by_cases hcs : cs = [] <;> simp [hcs, Config.blockWords]

theorem clearNext_begun {o o' : ClearOp} (h : o.next = some o') : o'.begun = o.begun := by
  unfold ClearOp.next at h
  split at h
  · cases h
  · (repeat' split at h) <;> cases h <;> rfl

theorem exec_clearWrite {s : State} {o : ClearOp} {c : ClearRange} {cs : List ClearRange} (hon : s.engineOn .clear)
    (hslot : s.txe.clear = some o) (hranges : o.ranges = c :: cs)
    (hmem : s.physWord (c.block o.done * 128 + o.offset) < s.memWords) :
    exec .clearWrite s = .next (s.clearStep o (c.block o.done * 128 + o.offset)) := by
  have hgranted : s.clearGranted = some (o, c.block o.done * 128 + o.offset) := by
    rw [State.clearGranted, if_pos (engineAt_of_engineOn hon), hslot]
    simp [ClearOp.place, hranges, Config.blockWords]
  show execClearWrite s = _
  rw [execClearWrite, hgranted]
  exact onPort_fitted hmem _

/-- The state with a word cleared and the clear gone on to `x`, or out of its slot. -/
def State.cleared (s : State) (w : Nat) (x : Option ClearOp) : State :=
  { s.writeWord w (s.terms w) 0 with txe := { s.txe with clear := x } }

theorem cleared_wrote {s t : State} {w : Nat} {x : Option ClearOp} (hs : s.canonical)
    (hP : t.planeP = (s.cleared w x).planeP) (hQ : t.planeQ = (s.cleared w x).planeQ) :
    wroteWord s t (s.physWord w) 0 (signature w (s.terms w) s.cau.epoch) := wrote_of_planes hs hP hQ

theorem clearStep_next {s : State} {o o' : ClearOp} (h : o.next = some o') (w : Nat) :
    s.clearStep o w =
      if o'.offset % 32 = 0 then (s.cleared w (some o')).engineSelectEnd s.procAsking
      else (s.cleared w (some o')).engineGroupEnd s.procAsking := by
  unfold State.clearStep
  rw [h]
  rfl

theorem clearStep_last {s : State} {o : ClearOp} (h : o.next = none) (w : Nat) :
    s.clearStep o w =
      (if o.atStart then (s.cleared w none).startClearDone else s.cleared w none).engineSelectEnd s.procAsking := by
  unfold State.clearStep
  rw [h]
  rfl

/-- A clear ranks above every other operation, so that it goes on at a selection point as well (R67, R68). -/
theorem clearStep_goesOn {s : State} {o o' : ClearOp} (hon : s.engineOn .clear) (hbegun : o.begun = true)
    (h : o.next = some o') (w : Nat) :
    (s.clearStep o w).txe = { s.txe with clear := some o' } ∧ (s.clearStep o w).mpt = s.afterGroup := by
  rw [clearStep_next h]
  split
  · obtain ⟨htxe, hmpt⟩ := engineSelectEnd_goesOn (s := s) (u := s.cleared w (some o')) (k := .clear) rfl
      (fun m hm => by cases m <;> cases hm) rfl rfl rfl
    refine ⟨htxe.trans ?_, hmpt⟩
    have hactive : s.txe.active = some .clear := hon.2
    have hbegun' : ({ o' with begun := true } : ClearOp) = o' := by rw [← hbegun, ← clearNext_begun h]
    simp only [State.cleared, Txe.activate, Option.map_some, hbegun', hactive]
  · exact portAfterEngine_active (s := s) (u := s.cleared w (some o')) (active_of_engineOn hon) rfl rfl rfl

/-- The states of the regions after the START clear. -/
theorem startClearDone_ckState (s : State) (r : Region) :
    s.startClearDone.ckc.ckState.get r = if hasAttr (·.checkpoint) s.rgd.table r then .valid else .none := by
  have hget : s.startClearDone.ckc.ckState.get r =
      match installedState (s.rgd.table.get r) with
      | .broken => .valid
      | x => x := Vector.getElem_map _ _
  rw [hget, hasAttr]
  cases s.rgd.table.get r with
  | none => rfl
  | some d => cases hck : d.attrs.checkpoint <;> simp [installedState, hck]

/-- Settles O39: each word but the last leads to the next place, and the last ends the clear. -/
theorem clearWrites : Obligations.ClearWrites := by
  intro s o c cs b w hs hon hslot hbegun hranges hb hw hmem
  have hblock : c.block o.done = b := hb.symm
  rw [← hblock] at hw
  have hexec := exec_clearWrite hon hslot hranges (by rwa [← hw])
  rw [← hw] at hexec
  refine ⟨fun o' ho' => ?next, fun hoff hdone hcs => ?last⟩
  case next =>
    rw [← clearNext_eq hranges] at ho'
    obtain ⟨htxe, hmpt⟩ := clearStep_goesOn hon hbegun ho' w
    rw [clearStep_next ho'] at hexec htxe hmpt
    refine ⟨_, hexec, cleared_wrote (x := some o') hs ?_ ?_, htxe, hmpt, ?_⟩
    · split <;> simp
    · split <;> simp
    · split <;> apply State.ext <;> simp [State.cleared]
  case last =>
    have hnone : o.next = none := by
      rw [clearNext_eq hranges, if_neg (by omega), if_neg (by omega), if_neg (by simpa using hcs)]
    rw [clearStep_last hnone] at hexec
    refine ⟨_, hexec, cleared_wrote (x := none) hs ?_ ?_, ?slot, fun hstart => ?start, fun hhold => ?hold, ?frame⟩
    · cases o.atStart <;> simp
    · cases o.atStart <;> simp
    case slot =>
      have hclear : (if o.atStart = true then (s.cleared w none).startClearDone else s.cleared w none).txe.unbegun.clear =
          none := by cases o.atStart <;> simp [State.cleared, Txe.unbegun]
      exact Option.map_eq_none_iff.mp ((congrArg Txe.clear (engineSelectEnd_unbegun _ _)).trans hclear)
    case start =>
      rw [hstart, if_pos rfl, engineSelectEnd_mli, engineSelectEnd_fau, engineSelectEnd_cau, engineSelectEnd_ckc]
      exact ⟨rfl, rfl, rfl, rfl, rfl, rfl, fun r => startClearDone_ckState _ r⟩
    case hold =>
      rw [hhold, if_neg (by decide), engineSelectEnd_mli, engineSelectEnd_fau, engineSelectEnd_cau, engineSelectEnd_ckc]
      exact ⟨rfl, rfl, rfl, rfl⟩
    case frame => cases o.atStart <;> apply State.ext <;> simp [State.cleared]

end Sys2Proof.Machine
end

section
/-! PROOFS. The scrub order and the scrub word check without its audit, and the diagnostic read (R76, R77, R140, R141, R144, R173). -/
namespace Sys2Proof.Machine

/-! ### The scrub order (R140, R141) -/

/-- The first word that entry `r` gives the scrub order, if it is scrubbed. -/
def scrubEntry (t : Table) (r : Region) : Option Cursor :=
  match t.get r with
  | some d => if d.attrs.scrub then some ⟨r, d.firstBlock, 0⟩ else none
  | none => none

theorem scrubFrom_eq (t : Table) (n : Nat) : scrubFrom t n = (regionsFrom n).findSome? (scrubEntry t) := rfl

theorem mem_regionsFrom (n : Nat) (r : Region) : r ∈ regionsFrom n := by
  simp only [regionsFrom, List.mem_append, List.mem_filter, mem_allRegions, true_and, decide_eq_true_iff]
  omega

/-- The entries from n on, wrapping, stand in the order of their distance from n. -/
theorem regionsFrom_pairwise :
    ∀ n ≤ 16, (regionsFrom n).Pairwise fun x y => (x.val + 16 - n) % 16 < (y.val + 16 - n) % 16 := by decide

theorem scrubEntry_none {t : Table} {r : Region} (h : ∀ d, t.get r = some d → d.attrs.scrub = false) :
    scrubEntry t r = none := by
  unfold scrubEntry
  cases hd : t.get r with
  | none => rfl
  | some d => simp [h d hd]

theorem scrubEntry_some {t : Table} {r : Region} {d : Descriptor} (hd : t.get r = some d) (hs : d.attrs.scrub = true) :
    scrubEntry t r = some ⟨r, d.firstBlock, 0⟩ := by
  unfold scrubEntry
  rw [hd]
  exact if_pos hs

theorem scrubFrom_none {t : Table} (h : ∀ r d, t.get r = some d → d.attrs.scrub = false) (n : Nat) :
    scrubFrom t n = none := by
  rw [scrubFrom_eq, List.findSome?_eq_none_iff]
  exact fun r _ => scrubEntry_none (h r)

/-- From entry n on, wrapping, the scrubbed entry at the least distance gives the first word. -/
theorem scrubFrom_first {t : Table} {n : Nat} {r : Region} {d : Descriptor} (hn : n ≤ 16) (hd : t.get r = some d)
    (hs : d.attrs.scrub = true)
    (hleast : ∀ r' d', t.get r' = some d' → d'.attrs.scrub = true → (r.val + 16 - n) % 16 ≤ (r'.val + 16 - n) % 16) :
    scrubFrom t n = some ⟨r, d.firstBlock, 0⟩ := by
  rw [scrubFrom_eq]
  refine findSome?_of_least (regionsFrom_pairwise n hn) (mem_regionsFrom n r) (scrubEntry_some hd hs) fun x _ hx => ?_
  by_contra hlt
  refine hx (scrubEntry_none fun d' hd' => ?_)
  by_contra hscrub
  exact hlt (hleast x d' hd' (by simpa using hscrub))

theorem firstBlock_eq {d : Descriptor} (h1 : 1 ≤ d.len) (h2 : d.len ≤ d.span) :
    d.firstBlock = if d.dir = .up then d.base else d.base + d.span - 1 := by
  unfold Descriptor.firstBlock Descriptor.authLow
  cases d.dir with
  | up => rfl
  | down =>
    show d.base + d.span - d.len + d.len - 1 = d.base + d.span - 1
    omega

theorem scrubNext_inBlock {c : Cursor} (h : c.offset < 127) (t : Table) :
    scrubNext t c = some { c with offset := c.offset + 1 } := if_pos (by rw [Config.blockWords]; omega)

/-- After the last word of a block comes the next block of the region, or the next scrubbed region. -/
theorem scrubNext_blockEnd {t : Table} {c : Cursor} {d : Descriptor} (h : c.offset = 127) (hd : t.get c.region = some d) :
    scrubNext t c =
      match d.nextBlock c.block with
      | some b => some ⟨c.region, b, 0⟩
      | none => scrubFrom t (c.region.val + 1) := by
  refine (if_neg (by rw [Config.blockWords]; omega)).trans ?_
  rw [hd]
  rfl

theorem nextBlock_up {d : Descriptor} (h : d.dir = .up) (b : Nat) :
    d.nextBlock b = if b + 1 < d.base + d.len then some (b + 1) else none := by
  unfold Descriptor.nextBlock Descriptor.authLow
  rw [h]

theorem nextBlock_down {d : Descriptor} (h : d.dir = .down) (b : Nat) :
    d.nextBlock b = if d.base + d.span - d.len < b then some (b - 1) else none := by
  unfold Descriptor.nextBlock Descriptor.authLow
  rw [h]

/-- An installation leaves a cursor that still names a scrubbed word. -/
theorem scrubAdjust_kept {t : Table} {c : Cursor} {d : Descriptor} (hd : t.get c.region = some d)
    (hs : d.attrs.scrub = true) (hb : d.authorised c.block = true) : scrubAdjust t (some c) = some c := by
  unfold scrubAdjust
  dsimp only
  rw [hd]
  exact if_pos (by rw [hs, hb]; rfl)

/-- An installation moves a cursor on that names no scrubbed word any more. -/
theorem scrubAdjust_moved {t : Table} {c : Cursor}
    (h : ∀ d, t.get c.region = some d → d.attrs.scrub = false ∨ d.authorised c.block = false) :
    scrubAdjust t (some c) = scrubFrom t c.region.val := by
  unfold scrubAdjust
  dsimp only
  split
  next d hd =>
    refine if_neg fun hc => ?_
    rw [Bool.and_eq_true] at hc
    rcases h d hd with hs | hb
    · exact Bool.noConfusion (hs.symm.trans hc.1)
    · exact Bool.noConfusion (hb.symm.trans hc.2)
  next => rfl

/-! ### The scrub word check (R144) -/

/-- The state with the scrub cursor at `x`. -/
def State.withCursor (s : State) (x : Option Cursor) : State := { s with sru := { s.sru with cursor := x } }

/-- A repair report does not look at the cursor. -/
theorem reportRepair_withCursor (s : State) (x : Option Cursor) (w : Nat) (pl : Plane) :
    (s.withCursor x).reportRepair w pl = (s.reportRepair w pl).withCursor x := by
  unfold State.reportRepair State.requestRetire State.withCursor
  dsimp only
  split
  · split
    · rfl
    · split <;> rfl
  · rfl

theorem repair_withCursor (s : State) (x : Option Cursor) (w : Nat) (t : Terms) (rep : CheckReport) :
    (s.withCursor x).repair w t rep = (s.repair w t rep).withCursor x := by
  unfold State.repair
  split
  · exact reportRepair_withCursor (s.putP (s.physWord w) (codeData rep.rawQ)) x w .p
  · exact reportRepair_withCursor (s.putQ (s.physWord w) (encode rep.rawP (signature w t s.cau.epoch))) x w .q
  · rfl
  · rfl

/-- What tells a check not to go on to the audit (R145). -/
theorem audits_eq_false {s : State} {c : Cursor} {rep : CheckReport}
    (h : hasAttr (·.checkpoint) s.rgd.table c.region = false ∨
      s.ckc.ckState.get c.region ≠ .valid ∧ s.ckc.ckState.get c.region ≠ .copying ∨
      c.block ∈ s.ckc.dirty ∨ c.block ∈ s.ckc.pass) : s.audits c rep = false := by
  unfold State.audits
  rcases h with h | ⟨h1, h2⟩ | h | h
  · simp [h]
  · simp [h1, h2]
  · simp [h]
  · simp [h]

theorem audits_bad {s : State} {c : Cursor} {rep : CheckReport} (h : rep.data = none) : s.audits c rep = false := by
  unfold State.audits
  rw [h]
  rfl

/-- A check without audit uses its own word alone. -/
theorem exec_scrubWordCheck {s : State} {c : Cursor} {rep : CheckReport} (hon : s.engineOn .scrubBurst)
    (hc : s.sru.cursor = some c) (hmem : s.physWord (c.block * 128 + c.offset) < s.memWords)
    (hrep : rep = s.check true (c.block * 128 + c.offset) (s.terms (c.block * 128 + c.offset)))
    (ha : s.audits c rep = false) : exec .scrubWordCheck s = .next (s.scrubStep c) := by
  have haddrs : s.scrubAddrs c = [s.physWord (c.block * 128 + c.offset)] := by
    unfold State.scrubAddrs
    rw [Cursor.word, Config.blockWords, ← hrep, ha]
    rfl
  show execScrubWordCheck s = _
  unfold execScrubWordCheck
  rw [if_pos (engineAt_of_engineOn hon), hc]
  dsimp only
  rw [haddrs]
  exact onPort_fitted hmem _

theorem scrubCheck_good {s : State} {c : Cursor} {rep : CheckReport} {d : Word}
    (hrep : rep = s.check true (c.block * 128 + c.offset) (s.terms (c.block * 128 + c.offset)))
    (ha : s.audits c rep = false) (hd : rep.data = some d) :
    s.scrubCheck c =
      (s.repair (c.block * 128 + c.offset) (s.terms (c.block * 128 + c.offset)) rep).withCursor
        (scrubNext s.rgd.table c) := by
  unfold State.scrubCheck
  dsimp only
  rw [Cursor.word, Config.blockWords, ← hrep, hd, ha]
  exact repair_withCursor s _ _ _ _

theorem scrubCheck_bad {s : State} {c : Cursor} {rep : CheckReport}
    (hrep : rep = s.check true (c.block * 128 + c.offset) (s.terms (c.block * 128 + c.offset)))
    (hnone : rep.data = none) :
    s.scrubCheck c = (s.withCursor (scrubNext s.rgd.table c)).scrubBadWord c rep := by
  have hrepair : s.repair (c.block * 128 + c.offset) (s.terms (c.block * 128 + c.offset)) rep = s := by
    rw [hrep] at hnone ⊢
    exact repair_bad hnone
  unfold State.scrubCheck
  dsimp only
  rw [Cursor.word, Config.blockWords, ← hrep, hnone]
  exact congrArg (State.scrubBadWord · c rep)
    ((repair_withCursor s _ _ _ _).trans (congrArg (State.withCursor · _) hrepair))

/-- The checks a burst has left after one was made. -/
theorem scrubCounted_left {x : Txe} {o : ScrubOp} (h : x.scrub = some o) :
    x.scrubCounted.scrub.map (·.left) = if 1 < o.left then some (o.left - 1) else none := by
  unfold Txe.scrubCounted
  rw [h]
  dsimp only
  split <;> rfl

theorem scrubStep_left {s : State} {c : Cursor} {o : ScrubOp} (h : (s.scrubCheck c).txe.scrub = some o) :
    (s.scrubStep c).txe.scrub.map (·.left) = if 1 < o.left then some (o.left - 1) else none :=
  (scrub_left_of_unbegun (engineSelectEnd_unbegun _ _)).trans (scrubCounted_left h)

/-- The fault of an UNCORRECTABLE working word (R144). -/
theorem scrubBadWord_effect (s : State) (c : Cursor) (rep : CheckReport) :
    (s.scrubBadWord c rep).fau = s.fau.take
        { kind := .uncorrectable, also := none, source := .engineScrub, word := some (c.block * 128 + c.offset)
          region := some c.region, findings := some ⟨rep.qFinding, rep.pFinding, rep.distance⟩
          position := some ⟨c.region, .working, c.block, c.offset⟩
          vital := hasAttr (·.vital) s.rgd.table c.region, epoch := s.cau.epoch, cycle := s.cau.cycle } ∧
      (s.scrubBadWord c rep).ckc =
        (if hasAttr (·.checkpoint) s.rgd.table c.region then (s.addDirty c.block).ckc else s.ckc) ∧
      (s.scrubBadWord c rep).cau = s.cau.raise
        { TaintSet.empty with suspectBlock := hasAttr (·.checkpoint) s.rgd.table c.region } := by
  unfold State.scrubBadWord
  dsimp only
  rw [takeFault_fau, takeFault_cau, takeFault_ckc, addDirtyIf_fau, addDirtyIf_cau, addDirtyIf_rgd, State.recordOf,
    addDirtyIf_rgd, addDirtyIf_cau]
  refine ⟨rfl, ?_, ?_⟩
  · cases hasAttr (·.checkpoint) s.rgd.table c.region <;> rfl
  · have hsource : (Source.engineScrub == .procRead || Source.engineScrub == .procFetch) = false := rfl
    simp [faultTaints, scrubFault, bareFault, TaintSet.empty, hsource]

theorem check_data_of_uncorrectable {s : State} {b : Bool} {w : Nat} {t : Terms}
    (h : (s.check b w t).cls = .uncorrectable) : (s.check b w t).data = none := by
  show deliveredData (s.check b w t).cls _ _ = none
  rw [h]
  rfl

/-- With the cursor at NONE the slot is emptied and no group is made (log 23). -/
theorem exec_scrubWordCheck_none {s : State} (hon : s.engineOn .scrubBurst) (hc : s.sru.cursor = none) :
    exec .scrubWordCheck s = .next (State.settle { s with txe := { s.txe with scrub := none, active := none } }) := by
  show execScrubWordCheck s = _
  unfold execScrubWordCheck
  rw [if_pos (engineAt_of_engineOn hon), hc]

/-- A good word that is not audited is repaired where it needs it, and the cursor moves on. -/
theorem scrubWordCheck_good {s : State} {c : Cursor} {o : ScrubOp} {rep : CheckReport} {d : Word} (hs : s.canonical)
    (hslot : s.txe.scrub = some o)
    (hrep : rep = s.check true (c.block * 128 + c.offset) (s.terms (c.block * 128 + c.offset)))
    (ha : s.audits c rep = false) (hd : rep.data = some d) :
    wroteWord s (s.scrubStep c) (s.physWord (c.block * 128 + c.offset)) d
        (signature (c.block * 128 + c.offset) (s.terms (c.block * 128 + c.offset)) s.cau.epoch) ∧
      (rep.cls = .clean → (s.scrubStep c).planeP = s.planeP ∧ (s.scrubStep c).planeQ = s.planeQ) ∧
      (s.scrubStep c).sru =
        { (s.withRepair (c.block * 128 + c.offset) rep).sru with cursor := scrubNext s.rgd.table c } ∧
      (s.scrubStep c).fau = (s.withRepair (c.block * 128 + c.offset) rep).fau ∧
      (s.scrubStep c).txe.scrub.map (·.left) = (if 1 < o.left then some (o.left - 1) else none) ∧
      { s.scrubStep c with
        planeP := s.planeP, planeQ := s.planeQ, fau := s.fau, sru := s.sru, mpt := s.mpt, txe := s.txe } = s := by
  have hcheck := scrubCheck_good hrep ha hd
  have hleft := scrubStep_left (s := s) (c := c) (o := o) (by rw [hcheck]; simpa [State.withCursor] using hslot)
  have hread : readWell s (s.repair (c.block * 128 + c.offset) (s.terms (c.block * 128 + c.offset)) rep)
      (c.block * 128 + c.offset) (s.terms (c.block * 128 + c.offset)) rep d := by
    rw [hrep] at hd ⊢
    exact repair_readWell hs hd
  have hstep : s.scrubStep c = ({ s.scrubCheck c with txe := (s.scrubCheck c).txe.scrubCounted } : State).engineSelectEnd
      s.procAsking := rfl
  rw [hcheck] at hstep
  obtain ⟨hwrote, hclean, hfau, hsru⟩ := readWell_congr (t := s.scrubStep c |>.withCursor
      (s.repair (c.block * 128 + c.offset) (s.terms (c.block * 128 + c.offset)) rep).sru.cursor) hread
    (by rw [hstep]; simp [State.withCursor]) (by rw [hstep]; simp [State.withCursor])
    (by rw [hstep]; simp [State.withCursor]) (by rw [hstep]; simp [State.withCursor])
  refine ⟨hwrote, hclean, ?_, hfau, hleft, ?_⟩
  · rw [← hsru, hstep]
    simp [State.withCursor]
  · rw [hstep]
    apply State.ext <;> simp [State.withCursor]

/-- An UNCORRECTABLE word is recorded and, in a CHECKPOINT region, suspect; the cursor moves on. -/
theorem scrubWordCheck_bad {s : State} {c : Cursor} {o : ScrubOp} {rep : CheckReport} (hslot : s.txe.scrub = some o)
    (hrep : rep = s.check true (c.block * 128 + c.offset) (s.terms (c.block * 128 + c.offset)))
    (hnone : rep.data = none) :
    (s.scrubStep c).sru = { s.sru with cursor := scrubNext s.rgd.table c } ∧
      (s.scrubStep c).fau = s.fau.take
        { kind := .uncorrectable, also := none, source := .engineScrub, word := some (c.block * 128 + c.offset)
          region := some c.region, findings := some ⟨rep.qFinding, rep.pFinding, rep.distance⟩
          position := some ⟨c.region, .working, c.block, c.offset⟩
          vital := hasAttr (·.vital) s.rgd.table c.region, epoch := s.cau.epoch, cycle := s.cau.cycle } ∧
      (s.scrubStep c).ckc =
        (if hasAttr (·.checkpoint) s.rgd.table c.region then (s.addDirty c.block).ckc else s.ckc) ∧
      (s.scrubStep c).cau = s.cau.raise
        { TaintSet.empty with suspectBlock := hasAttr (·.checkpoint) s.rgd.table c.region } ∧
      (s.scrubStep c).txe.scrub.map (·.left) = (if 1 < o.left then some (o.left - 1) else none) ∧
      { s.scrubStep c with cau := s.cau, fau := s.fau, ckc := s.ckc, sru := s.sru, mpt := s.mpt, txe := s.txe } = s := by
  have hcheck := scrubCheck_bad hrep hnone
  have hleft := scrubStep_left (s := s) (c := c) (o := o) (by rw [hcheck]; simpa [State.withCursor] using hslot)
  have hstep : s.scrubStep c = ({ s.scrubCheck c with txe := (s.scrubCheck c).txe.scrubCounted } : State).engineSelectEnd
      s.procAsking := rfl
  obtain ⟨hfau, hckc, hcau⟩ := scrubBadWord_effect (s.withCursor (scrubNext s.rgd.table c)) c rep
  rw [hcheck] at hstep
  refine ⟨?_, ?_, ?_, ?_, hleft, ?_⟩
  · rw [hstep]
    simp [State.withCursor]
  · rw [hstep, engineSelectEnd_fau]
    exact hfau
  · rw [hstep, engineSelectEnd_ckc]
    refine hckc.trans ?_
    rw [addDirty_ckc_congr (s := s) (u := s.withCursor (scrubNext s.rgd.table c)) rfl rfl]
    rfl
  · rw [hstep, engineSelectEnd_cau]
    exact hcau
  · rw [hstep]
    apply State.ext <;> simp [State.withCursor]

/-- Settles O40: the order from the search through the entries, the check from its word's report. -/
theorem scrubWordCheck : Obligations.ScrubWordCheck := by
  refine ⟨fun t n => ⟨fun h => scrubFrom_none h n, fun r d hn hd hs h1 h2 hleast => ?first⟩,
    fun t c => ⟨fun h => scrubNext_inBlock h t, fun d hoff hd hb h1 h2 => ?blockEnd⟩,
    fun t => ⟨rfl, fun c => ⟨fun ⟨_, hd, hs, hb⟩ => scrubAdjust_kept hd hs hb, scrubAdjust_moved⟩⟩,
    fun s c o rep hs hon hc hslot hmem hrep => ⟨fun d hd hno => ?good, fun hbad => ?bad⟩,
    fun s hon hc => ?none⟩
  case first =>
    rw [scrubFrom_first hn hd hs hleast, firstBlock_eq h1 h2]
    cases d.dir <;> rfl
  case blockEnd =>
    rw [scrubNext_blockEnd hoff hd]
    refine ⟨fun hdir hlt => ?_, fun hdir hlast => ?_, fun hdir hlt => ?_, fun hdir hlast => ?_⟩
    · rw [nextBlock_up hdir, if_pos (by omega)]
    · rw [nextBlock_up hdir, if_neg (by omega)]
    · rw [nextBlock_down hdir, if_pos hlt]
    · rw [nextBlock_down hdir, if_neg (by omega)]
  case good =>
    have ha := audits_eq_false (rep := rep) hno
    exact ⟨_, exec_scrubWordCheck hon hc hmem hrep ha, scrubWordCheck_good hs hslot hrep ha hd⟩
  case bad =>
    have hnone : rep.data = none := by
      rw [hrep] at hbad ⊢
      exact check_data_of_uncorrectable hbad
    exact ⟨_, exec_scrubWordCheck hon hc hmem hrep (audits_bad hnone), scrubWordCheck_bad hslot hrep hnone⟩
  case none =>
    refine ⟨_, exec_scrubWordCheck_none hon hc, scrub_none_of_unbegun (settle_unbegun _) rfl, ?_⟩
    apply State.ext <;> simp

/-! ### The diagnostic read (R76, R173) -/

/-- A frame that takes a command, with the command's code and operands in it. -/
def State.commanded (s : State) (code : Nat) (operands : List Unit16) : State :=
  { s with mli := { s.mli with code := some (unit code), operands := operands } }

theorem exec_readWordRequest {s : State} (h : s.listens) (w : BitVec 32) :
    exec (.readWordRequest w) s =
      .next (if !(s.commanded 0x16 (units32 w)).runOrHold then (s.commanded 0x16 (units32 w)).answer .wrongState []
        else if s.mli.readResult = .pending then (s.commanded 0x16 (units32 w)).answer .busy []
        else if s.memWords ≤ w.toNat then (s.commanded 0x16 (units32 w)).badOperand
        else (State.settle { s.commanded 0x16 (units32 w) with
          txe := { s.txe with readWord := some ⟨w.toNat, false⟩ }
          mli := { (s.commanded 0x16 (units32 w)).mli with readResult := .pending } }).answer .done []) :=
  congrArg Host.Outcome.next (command_of_listens h _ _ _)

theorem runOrHold_iff (s : State) : s.runOrHold = true ↔ s.mli.control = .run ∨ s.mli.control = .hold := by
  simp [State.runOrHold]

theorem runOrHold_false {s : State} (h : s.mli.control = .config ∨ s.mli.control = .init) : s.runOrHold = false := by
  rcases h with h | h <;> simp [State.runOrHold, h]

/-- A request accepted asks the engine for the read. -/
theorem readWordRequest_accepted {s : State} {w : BitVec 32} (h : s.listens)
    (hc : s.mli.control = .run ∨ s.mli.control = .hold) (hp : s.mli.readResult ≠ .pending) (hm : w.toNat < s.memWords) :
    exec (.readWordRequest w) s =
      .next ((State.settle { s.commanded 0x16 (units32 w) with
        txe := { s.txe with readWord := some ⟨w.toNat, false⟩ }
        mli := { (s.commanded 0x16 (units32 w)).mli with readResult := .pending } }).answer .done []) := by
  have hrun : (s.commanded 0x16 (units32 w)).runOrHold = true := (runOrHold_iff _).mpr hc
  rw [exec_readWordRequest h, hrun, Bool.not_true, if_neg (by decide), if_neg hp, if_neg (by omega)]

theorem readWord_of_unbegun {x y : Txe} (h : y.unbegun = x.unbegun) :
    y.readWord.map (·.word) = x.readWord.map (·.word) := by
  have hslot : y.readWord.map ({ · with begun := false }) = x.readWord.map ({ · with begun := false }) :=
    congrArg Txe.readWord h
  simpa [Function.comp_def] using congrArg (Option.map ReadWordOp.word) hslot

theorem exec_diagnosticRead {s : State} {w : Nat} (hon : s.engineOn .readWord)
    (hslot : s.txe.readWord.map (·.word) = some w) (hmem : s.physWord w < s.memWords) :
    exec .diagnosticRead s = .next (s.diagnose w) := by
  have hgranted : s.readWordGranted = some w := (if_pos (engineAt_of_engineOn hon)).trans hslot
  show execDiagnosticRead s = _
  rw [execDiagnosticRead, hgranted]
  exact onPort_fitted hmem _

theorem exec_readWordCollection {s : State} (h : s.listens) :
    exec .readWordCollection s =
      .next (match s.mli.readResult with
        | .ready rep => State.answer { s.commanded 0x17 [] with
            mli := { (s.commanded 0x17 []).mli with readResult := .none } } .done rep.units
        | .pending => (s.commanded 0x17 []).answer .busy []
        | .none => (s.commanded 0x17 []).answer .empty []) :=
  congrArg Host.Outcome.next (command_of_listens h _ _ _)

/-- Settles O42: the request by its refusals in order, the read by its group, the collection by the result state. -/
theorem diagnosticReads : Obligations.DiagnosticReads := by
  refine ⟨fun s w hl hc hp hm => ?accepted, fun s w hl => ⟨fun hc => ?closed, fun hc hp => ?busy, fun hc hp hm => ?beyond⟩,
    fun s w hon hslot hmem => ?read, fun s hl => ⟨fun rep hr => ?ready, fun hr => ?pending, fun hr => ?empty⟩⟩
  case accepted =>
    refine ⟨_, readWordRequest_accepted hl hc hp hm, ?_, ?_, ?_⟩
    · rw [answer_mli, settle_mli]
      rfl
    · exact readWord_of_unbegun (settle_unbegun _)
    · apply State.ext <;> simp [State.commanded]
  case closed =>
    have hrun : (s.commanded 0x16 (units32 w)).runOrHold = false := runOrHold_false hc
    rw [exec_readWordRequest hl, hrun]
    rfl
  case busy =>
    have hrun : (s.commanded 0x16 (units32 w)).runOrHold = true := (runOrHold_iff _).mpr hc
    rw [exec_readWordRequest hl, hrun, Bool.not_true, if_neg (by decide), if_pos hp]
    rfl
  case beyond =>
    have hrun : (s.commanded 0x16 (units32 w)).runOrHold = true := (runOrHold_iff _).mpr hc
    rw [exec_readWordRequest hl, hrun, Bool.not_true, if_neg (by decide), if_neg hp, if_pos hm]
    rfl
  case read =>
    refine ⟨_, exec_diagnosticRead hon hslot hmem, ?_, ?_, ?_⟩
    · rw [State.diagnose, engineSelectEnd_mli]
    · exact Option.map_eq_none_iff.mp (congrArg Txe.readWord (engineSelectEnd_unbegun _ _))
    · apply State.ext <;> simp [State.diagnose]
  case ready =>
    rw [exec_readWordCollection hl, hr]
    rfl
  case pending =>
    rw [exec_readWordCollection hl, hr]
    rfl
  case empty =>
    rw [exec_readWordCollection hl, hr]
    rfl

end Sys2Proof.Machine
end

section
/-! PROOFS. A verdict's effect: the passes it starts, the retire copy it abandons, the faults it records, and the counts (R75, R86,
R87, R101 to R103, R121, R133 to R136, R167). -/
namespace Sys2Proof.Machine

/-! ### One region that starts its pass (R86, R101) -/

/-- The block is an authorised block of entry `r`, whose descriptor carries CHECKPOINT. -/
def ckBlock (t : Table) (r : Region) (x : Nat) : Prop :=
  ∃ d, t.get r = some d ∧ d.attrs.checkpoint = true ∧ d.authorised x = true

/-- The block goes into the set of a move's pass when entry `r` starts it: a dirty block of a VALID region, or, for a copy, every
block of a BROKEN one. -/
def Ckc.startsBlock (c : Ckc) (t : Table) (m : Move) (r : Region) (x : Nat) : Prop :=
  ckBlock t r x ∧ (c.ckState.get r = .valid ∧ x ∈ c.dirty ∨ m = .copy ∧ c.ckState.get r = .broken)

/-- The block leaves D when entry `r` starts its pass: a block of a VALID or BROKEN region that is copied. -/
def Ckc.cleansBlock (c : Ckc) (t : Table) (m : Move) (r : Region) (x : Nat) : Prop :=
  m = .copy ∧ ckBlock t r x ∧ (c.ckState.get r = .valid ∨ c.ckState.get r = .broken)

/-- The sets and states `c` became `c'` when the entries of `l` started the pass of a move. -/
structure PassStart (c c' : Ckc) (t : Table) (m : Move) (l : List Region) : Prop where
  set : ∀ x, x ∈ c'.setOf m ↔ x ∈ c.setOf m ∨ ∃ r ∈ l, c.startsBlock t m r x
  dirty : ∀ x, x ∈ c'.dirty ↔ x ∈ c.dirty ∧ ¬∃ r ∈ l, c.cleansBlock t m r x
  entered : ∀ r ∈ l, (∃ x, c.startsBlock t m r x) → c'.ckState.get r = m.inFlight
  kept : ∀ r, (r ∈ l → ∀ x, ¬c.startsBlock t m r x) → c'.ckState.get r = c.ckState.get r
  copyKeeps : m = .copy → c'.restore = c.restore
  restoreKeeps : m = .restore → c'.pass = c.pass ∧ c'.dirty = c.dirty

theorem setState_get_same (c : Ckc) (r : Region) (x : CkState) : (c.setState r x).ckState.get r = x :=
  Vector.getElem_set_self _

theorem setState_get_other {r r' : Region} (h : r' ≠ r) (c : Ckc) (x : CkState) :
    (c.setState r x).ckState.get r' = c.ckState.get r' := by
  simp only [Ckc.setState, Vector.get_eq_getElem]
  exact Vector.getElem_set_ne _ _ fun hc => h (Fin.ext hc.symm)

/-- An entry that starts nothing leaves the sets and states alone. -/
theorem passStart_idle {c : Ckc} {t : Table} {m : Move} {r : Region} (h : ∀ x, ¬c.startsBlock t m r x)
    (hc : ∀ x ∈ c.dirty, ¬c.cleansBlock t m r x) : PassStart c c t m [r] where
  set x := by simp [h x]
  dirty x := by
    simp only [List.mem_singleton, exists_eq_left]
    exact ⟨fun hx => ⟨hx, hc x hx⟩, And.left⟩
  entered r' hr' hx := by
    obtain rfl := List.mem_singleton.mp hr'
    exact absurd hx (by simpa using h)
  kept _ _ := rfl
  copyKeeps _ := rfl
  restoreKeeps _ := ⟨rfl, rfl⟩

/-- An entry that starts its pass: its blocks go into the set, and its state is that of the pass. -/
theorem passStart_entered {c c' : Ckc} {t : Table} {m : Move} {r : Region} (hx : ∃ x, c.startsBlock t m r x)
    (hset : ∀ x, x ∈ c'.setOf m ↔ x ∈ c.setOf m ∨ c.startsBlock t m r x)
    (hdirty : ∀ x, x ∈ c'.dirty ↔ x ∈ c.dirty ∧ ¬c.cleansBlock t m r x)
    (hstate : c'.ckState = c.ckState.set r m.inFlight) (hcopy : m = .copy → c'.restore = c.restore)
    (hrestore : m = .restore → c'.pass = c.pass ∧ c'.dirty = c.dirty) : PassStart c c' t m [r] where
  set := by simpa using hset
  dirty := by simpa using hdirty
  entered r' hr' _ := by
    obtain rfl := List.mem_singleton.mp hr'
    rw [hstate]
    exact setState_get_same c r' _
  kept r' hr' := by
    have hne : r' ≠ r := fun he => by
      obtain ⟨x, hx⟩ := hx
      subst he
      exact hr' (List.mem_singleton.mpr rfl) x hx
    rw [hstate]
    exact setState_get_other hne c _
  copyKeeps := hcopy
  restoreKeeps := hrestore

theorem ckBlock_iff {t : Table} {r : Region} {d : Descriptor} (hd : t.get r = some d) (x : Nat) :
    ckBlock t r x ↔ d.attrs.checkpoint = true ∧ d.authorised x = true := by
  simp [ckBlock, hd]

theorem not_ckBlock {t : Table} {r : Region} (h : ∀ d, t.get r = some d → d.attrs.checkpoint = false) (x : Nat) :
    ¬ckBlock t r x := fun ⟨d, hd, hck, _⟩ => by simp [h d hd] at hck

/-- An entry that carries no CHECKPOINT, or is in neither state a pass starts from, starts nothing. -/
theorem passStart_outside {c : Ckc} {t : Table} {m : Move} {r : Region}
    (h : (∀ d, t.get r = some d → d.attrs.checkpoint = false) ∨
      c.ckState.get r ≠ .valid ∧ (m = .copy → c.ckState.get r ≠ .broken)) : PassStart c c t m [r] := by
  rcases h with h | ⟨h1, h2⟩
  · exact passStart_idle (fun x hx => not_ckBlock h x hx.1) fun x _ hx => not_ckBlock h x hx.2.1
  · refine passStart_idle (fun x hx => ?_) fun x _ hx => ?_
    · rcases hx.2 with hv | hb
      · exact h1 hv.1
      · exact h2 hb.1 hb.2
    · rcases hx.2.2 with hv | hb
      · exact h1 hv
      · exact h2 hx.1 hb

theorem filter_authorised_eq_nil {d : Descriptor} {xs : BlockSet} :
    xs.filter d.authorised = [] ↔ ∀ x ∈ xs, d.authorised x = false := by
  simp [List.filter_eq_nil_iff]

theorem mem_authorised_range {d : Descriptor} {x : Nat} :
    x ∈ List.range' d.authLow d.len ↔ d.authorised x = true := by
  rw [List.mem_range'_1, Descriptor.authorised, decide_eq_true_iff]

theorem authorised_authLow {d : Descriptor} (h : 1 ≤ d.len) : d.authorised d.authLow = true := by
  rw [Descriptor.authorised, decide_eq_true_iff]
  exact ⟨le_rfl, Nat.lt_add_of_pos_right h⟩

/-- A VALID region with no dirty block starts nothing. -/
theorem passStart_clean {c : Ckc} {t : Table} {m : Move} {r : Region} {d : Descriptor} (hd : t.get r = some d)
    (hv : c.ckState.get r = .valid) (hnone : ∀ x ∈ c.dirty, d.authorised x = false) : PassStart c c t m [r] := by
  refine passStart_idle (fun x hx => ?_) fun x hx hc => ?_
  · obtain ⟨hb, hv' | hb'⟩ := hx
    · exact Bool.noConfusion ((hnone x hv'.2).symm.trans ((ckBlock_iff hd x).mp hb).2)
    · exact CkState.noConfusion (hv.symm.trans hb'.2)
  · exact Bool.noConfusion ((hnone x hx).symm.trans ((ckBlock_iff hd x).mp hc.2.1).2)

/-- The start of a checkpoint pass for one entry that authorises a block (R86). -/
theorem startCopy_passStart (c : Ckc) {t : Table} {r : Region} (hlen : ∀ d, t.get r = some d → 1 ≤ d.len) :
    PassStart c (c.startCopy t r) t .copy [r] := by
  unfold Ckc.startCopy
  split
  next d hd =>
    split
    next hck =>
      split
      next hv =>
        split
        next hnil => exact passStart_clean hd hv (filter_authorised_eq_nil.mp hnil)
        next hsome =>
          have hmem (x : Nat) : c.startsBlock t .copy r x ↔ x ∈ c.dirty ∧ d.authorised x = true := by
            simp [Ckc.startsBlock, ckBlock_iff hd, hck, hv, and_comm]
          refine passStart_entered ?_ (fun x => ?_) (fun x => ?_) rfl (fun _ => rfl) nofun
          · by_contra hno
            refine hsome (filter_authorised_eq_nil.mpr fun x hx => ?_)
            by_contra ha
            exact hno ⟨x, (hmem x).mpr ⟨hx, by simpa using ha⟩⟩
          · show x ∈ BlockSet.addAll _ c.pass ↔ x ∈ c.pass ∨ _
            rw [mem_addAll, hmem, List.mem_filter, or_comm]
          · show x ∈ c.dirty.filter _ ↔ _
            simp [Ckc.cleansBlock, ckBlock_iff hd, hck, hv]
      next hb =>
        have hmem (x : Nat) : c.startsBlock t .copy r x ↔ d.authorised x = true := by
          simp [Ckc.startsBlock, ckBlock_iff hd, hck, hb]
        refine passStart_entered ⟨d.authLow, (hmem _).mpr ?_⟩ (fun x => ?_) (fun x => ?_) rfl (fun _ => rfl) nofun
        · exact authorised_authLow (hlen d hd)
        · show x ∈ BlockSet.addAll _ c.pass ↔ x ∈ c.pass ∨ _
          rw [mem_addAll, hmem, mem_authorised_range, or_comm]
        · show x ∈ c.dirty.filter _ ↔ _
          simp [Ckc.cleansBlock, ckBlock_iff hd, hck, hb]
      next hnv hnb => exact passStart_outside (.inr ⟨hnv, fun _ => hnb⟩)
    next hck =>
      refine passStart_outside (.inl fun d' hd' => ?_)
      obtain rfl := Option.some.inj (hd.symm.trans hd')
      simpa using hck
  next hnone => exact passStart_outside (.inl fun d hd => absurd (hnone.symm.trans hd) nofun)

/-- The start of a restore pass for one entry (R101, R102). -/
theorem startRestore_passStart (s : State) (r : Region) :
    PassStart s.ckc (s.startRestore r).ckc s.rgd.table .restore [r] := by
  unfold State.startRestore
  split
  next d hd =>
    split
    next hck =>
      split
      next hv =>
        split
        next hnil => exact passStart_clean hd hv (filter_authorised_eq_nil.mp hnil)
        next hsome =>
          have hmem (x : Nat) : s.ckc.startsBlock s.rgd.table .restore r x ↔ x ∈ s.ckc.dirty ∧ d.authorised x = true := by
            simp [Ckc.startsBlock, ckBlock_iff hd, hck, hv, and_comm]
          refine passStart_entered ?_ (fun x => ?_) (fun x => ?_) rfl nofun fun _ => ⟨rfl, rfl⟩
          · by_contra hno
            refine hsome (filter_authorised_eq_nil.mpr fun x hx => ?_)
            by_contra ha
            exact hno ⟨x, (hmem x).mpr ⟨hx, by simpa using ha⟩⟩
          · show x ∈ BlockSet.addAll _ s.ckc.restore ↔ x ∈ s.ckc.restore ∨ _
            rw [mem_addAll, hmem, List.mem_filter, or_comm]
          · show x ∈ s.ckc.dirty ↔ _
            simp [Ckc.cleansBlock]
      next hb => exact passStart_outside (.inr ⟨by simp [hb], nofun⟩)
      next hnv _ => exact passStart_outside (.inr ⟨hnv, nofun⟩)
    next hck =>
      refine passStart_outside (.inl fun d' hd' => ?_)
      obtain rfl := Option.some.inj (hd.symm.trans hd')
      simpa using hck
  next hnone => exact passStart_outside (.inl fun d hd => absurd (hnone.symm.trans hd) nofun)

/-! ### The regions in ascending order (R86, R101) -/

/-- Two starts after each other are one start of both, where no block is of two entries. -/
theorem PassStart.cons {c c1 c' : Ckc} {t : Table} {m : Move} {r : Region} {l : List Region}
    (h1 : PassStart c c1 t m [r]) (h2 : PassStart c1 c' t m l) (hr : r ∉ l)
    (hapart : m = .copy → ∀ r r' x, ckBlock t r x → ckBlock t r' x → r = r') : PassStart c c' t m (r :: l) := by
  have hne {r' : Region} (hr' : r' ∈ l) : r' ≠ r := fun he => hr (he ▸ hr')
  have hstate {r' : Region} (hr' : r' ∈ l) : c1.ckState.get r' = c.ckState.get r' :=
    h1.kept r' fun hmem => absurd (List.mem_singleton.mp hmem) (hne hr')
  have hdirty {r' : Region} (hr' : r' ∈ l) {x : Nat} (hx : ckBlock t r' x) : x ∈ c1.dirty ↔ x ∈ c.dirty := by
    rw [h1.dirty x]
    refine and_iff_left fun ⟨r'', hr'', hm, hb, _⟩ => ?_
    obtain rfl := List.mem_singleton.mp hr''
    exact hne hr' (hapart hm _ _ x hx hb)
  have hstarts {r' : Region} (hr' : r' ∈ l) (x : Nat) : c1.startsBlock t m r' x ↔ c.startsBlock t m r' x := by
    unfold Ckc.startsBlock
    rw [hstate hr']
    exact and_congr_right fun hx => by rw [hdirty hr' hx]
  have hcleans {r' : Region} (hr' : r' ∈ l) (x : Nat) : c1.cleansBlock t m r' x ↔ c.cleansBlock t m r' x := by
    unfold Ckc.cleansBlock
    rw [hstate hr']
  refine ⟨fun x => ?_, fun x => ?_, fun r' hr' hx => ?_, fun r' hr' => ?_, fun hm => (h2.copyKeeps hm).trans (h1.copyKeeps hm),
    fun hm => ?_⟩
  · have hl : (∃ r' ∈ l, c1.startsBlock t m r' x) ↔ ∃ r' ∈ l, c.startsBlock t m r' x :=
      exists_congr fun r' => and_congr_right fun hr' => hstarts hr' x
    rw [h2.set x, h1.set x, hl]
    simp only [List.mem_cons, List.not_mem_nil, or_false, exists_eq_left, exists_eq_or_imp, or_assoc]
  · have hl : (∃ r' ∈ l, c1.cleansBlock t m r' x) ↔ ∃ r' ∈ l, c.cleansBlock t m r' x :=
      exists_congr fun r' => and_congr_right fun hr' => hcleans hr' x
    rw [h2.dirty x, h1.dirty x, hl]
    simp only [List.mem_cons, List.not_mem_nil, or_false, exists_eq_left, exists_eq_or_imp, not_or, and_assoc]
  · rcases List.mem_cons.mp hr' with rfl | hmem
    · exact (h2.kept r' fun hc => absurd hc hr).trans (h1.entered r' (List.mem_singleton.mpr rfl) hx)
    · obtain ⟨x, hx⟩ := hx
      exact h2.entered r' hmem ⟨x, (hstarts hmem x).mpr hx⟩
  · have hfirst := h1.kept r' fun hc => hr' (List.mem_cons.mpr (.inl (List.mem_singleton.mp hc)))
    exact (h2.kept r' fun hc x hx => hr' (List.mem_cons_of_mem _ hc) x ((hstarts hc x).mp hx)).trans hfirst
  · exact ⟨((h2.restoreKeeps hm).1).trans (h1.restoreKeeps hm).1, ((h2.restoreKeeps hm).2).trans (h1.restoreKeeps hm).2⟩

theorem passStart_nil (c : Ckc) (t : Table) (m : Move) : PassStart c c t m [] where
  set x := by simp
  dirty x := by simp
  entered _ h := absurd h List.not_mem_nil
  kept _ _ := rfl
  copyKeeps _ := rfl
  restoreKeeps _ := ⟨rfl, rfl⟩

theorem startCopies_passStart {t : Table} (hlen : ∀ r d, t.get r = some d → 1 ≤ d.len)
    (hapart : ∀ r r' x, ckBlock t r x → ckBlock t r' x → r = r') {l : List Region} (hl : l.Nodup) (c : Ckc) :
    PassStart c (l.foldl (fun c r => c.startCopy t r) c) t .copy l := by
  induction l generalizing c with
  | nil => exact passStart_nil c t .copy
  | cons r l ih =>
    obtain ⟨hr, hl⟩ := List.nodup_cons.mp hl
    exact (startCopy_passStart c (hlen r)).cons (ih hl _) hr fun _ => hapart

theorem startRestores_passStart {l : List Region} (hl : l.Nodup) (s : State) :
    PassStart s.ckc (l.foldl State.startRestore s).ckc s.rgd.table .restore l := by
  induction l generalizing s with
  | nil => exact passStart_nil s.ckc s.rgd.table .restore
  | cons r l ih =>
    obtain ⟨hr, hl⟩ := List.nodup_cons.mp hl
    have hrest := ih hl (s.startRestore r)
    rw [startRestore_rgd] at hrest
    exact (startRestore_passStart s r).cons hrest hr nofun

theorem allRegions_nodup : allRegions.Nodup := by decide

/-! ### The faults of the BROKEN regions (R102) -/

theorem restoreRefused_cau (s : State) (w : Nat) (r : Region) : (s.takeFault (restoreRefused w r)).cau = s.cau := by
  have hnone : faultTaints s.rgd.table (restoreRefused w r) = ⟨false, false, false, false⟩ := by
    simp [faultTaints, restoreRefused, bareFault]
  rw [takeFault_cau, hnone, raise_nothing]

/-- An entry that carries CHECKPOINT and whose region is BROKEN. -/
def State.brokenEntry (s : State) (r : Region) : Bool :=
  hasAttr (·.checkpoint) s.rgd.table r && s.ckc.ckState.get r == .broken

/-- A BROKEN region records RESTORE_FAILED at a verdict that would restore it; no other records anything. -/
theorem startRestore_fau (s : State) (r : Region) :
    (s.startRestore r).fau =
      (if s.brokenEntry r then s.fau.take (s.recordOf (restoreRefused s.mli.params.marker r)) else s.fau) ∧
    (s.startRestore r).cau = s.cau := by
  unfold State.startRestore State.brokenEntry hasAttr
  cases s.rgd.table.get r with
  | none => exact ⟨rfl, rfl⟩
  | some d =>
    cases hck : d.attrs.checkpoint with
    | false => simp [hck]
    | true =>
      cases hst : s.ckc.ckState.get r with
      | broken => simpa [hck] using restoreRefused_cau s _ r
      | valid => by_cases hdirty : s.ckc.dirty.filter d.authorised = [] <;> simp [hck, hdirty]
      | none | copying | restoring => simp [hck]

theorem startRestores_fau {l : List Region} (hl : l.Nodup) (s : State) :
    (l.foldl State.startRestore s).fau =
      ((l.filter s.brokenEntry).foldl (fun g r => g.take (s.recordOf (restoreRefused s.mli.params.marker r))) s.fau) ∧
    (l.foldl State.startRestore s).cau = s.cau := by
  induction l generalizing s with
  | nil => exact ⟨rfl, rfl⟩
  | cons r l ih =>
    obtain ⟨hr, hl⟩ := List.nodup_cons.mp hl
    obtain ⟨hfau, hcau⟩ := startRestore_fau s r
    obtain ⟨hrest, hrestCau⟩ := ih hl (s.startRestore r)
    have hentry : l.filter (s.startRestore r).brokenEntry = l.filter s.brokenEntry := List.filter_congr fun r' hr' => by
      have hkept := (startRestore_passStart s r).kept r' fun hc => absurd hr' (List.mem_singleton.mp hc ▸ hr)
      rw [State.brokenEntry, State.brokenEntry, startRestore_rgd, hkept]
    have hrecord (f : FaultReport) : (s.startRestore r).recordOf f = s.recordOf f := by
      rw [State.recordOf, State.recordOf, startRestore_rgd, hcau]
    rw [hentry, startRestore_mli, hfau] at hrest
    simp only [hrecord] at hrest
    refine ⟨?_, hrestCau.trans hcau⟩
    rw [List.foldl_cons, hrest, List.filter_cons]
    split <;> rfl

end Sys2Proof.Machine
end

section
/-! PROOFS. A verdict takes effect: the pass it requests, the retire copy it abandons, its faults, and what it leaves alone (R75,
R87, R101 to R103, R133 to R136, R167). -/
namespace Sys2Proof.Machine

/-! ### The retire copy a verdict abandons (R75) -/

/-- No access is held for a retire copy. -/
def State.nobodyHeldRetire (u : State) : Prop := ∀ a, u.hbi.access = some a → a.phase ≠ .heldRetire

theorem retireWorking_shadow (u : State) {o : RetireOp} (h : o.part = .shadow) :
    u.retireWorking o = u.workingBlock o.region o.block := by
  unfold State.retireWorking State.workingBlock
  rw [h]
  cases u.rgd.table.get o.region <;> rfl

theorem retireWorking_working (u : State) {o : RetireOp} (h : o.part = .working) : u.retireWorking o = o.block := by
  unfold State.retireWorking
  rw [h]

theorem abandonRetire_empty {u : State} (h : u.txe.retire = none) (m : Move) : u.abandonRetire m = u := by
  unfold State.abandonRetire
  rw [h]

theorem abandonRetire_occupied {u : State} {o : RetireOp} (ho : u.txe.retire = some o) (hn : u.nobodyHeldRetire) (m : Move) :
    u.abandonRetire m = if u.retireWorking o ∈ u.ckc.setOf m then { u with txe := u.txe.dropRetire } else u := by
  have hrelease : State.releaseRetire { u with txe := u.txe.dropRetire } o.block = { u with txe := u.txe.dropRetire } :=
    releaseRetire_nobody fun a ha h => hn a ha h.1
  unfold State.abandonRetire
  rw [ho]
  dsimp only
  rw [hrelease]
  cases hp : o.part with
  | working => rw [retireWorking_working u hp]
  | shadow => rw [retireWorking_shadow u hp]

theorem abandonRetire_cases {u : State} (hn : u.nobodyHeldRetire) (m : Move) :
    u.abandonRetire m = u ∨ u.abandonRetire m = { u with txe := u.txe.dropRetire } := by
  cases ho : u.txe.retire with
  | none => exact .inl (abandonRetire_empty ho m)
  | some o =>
    rw [abandonRetire_occupied ho hn]
    split
    · exact .inr rfl
    · exact .inl rfl

theorem dropRetire_passSlot (x : Txe) (m : Move) : x.dropRetire.passSlot m = x.passSlot m := by
  unfold Txe.dropRetire
  cases m <;> split <;> rfl

theorem dropRetire_priority (x : Txe) : x.dropRetire.priority = x.priority := by
  unfold Txe.dropRetire
  split <;> rfl

theorem dropRetire_retire (x : Txe) : x.dropRetire.retire = none := by
  unfold Txe.dropRetire
  split <;> rfl

theorem dropRetire_active {x : Txe} (h : x.active = some .retire) :
    x.dropRetire.fifo = [] ∧ x.dropRetire.fifoMode = .empty := by
  unfold Txe.dropRetire
  rw [if_pos h]
  exact ⟨rfl, rfl⟩

/-! ### The pass requested (R87, R103) -/

theorem requestPass_cases (w : State) (m : Move) :
    w.requestPass m = { w with txe := w.txe.setPass m (some ⟨none, false, false⟩) } ∧
        (∃ r, w.ckc.ckState.get r = m.inFlight) ∧ w.txe.passSlot m = none ∨
      w.requestPass m = w ∧ ((∀ r, w.ckc.ckState.get r ≠ m.inFlight) ∨ w.txe.passSlot m ≠ none) := by
  have hany : (allRegions.any fun r => w.ckc.ckState.get r == m.inFlight) = true ↔
      ∃ r, w.ckc.ckState.get r = m.inFlight := by
    simp [mem_allRegions]
  unfold State.requestPass
  split
  next h =>
    obtain ⟨hr, hp⟩ := Bool.and_eq_true_iff.mp h
    exact .inl ⟨rfl, hany.mp hr, Option.isNone_iff_eq_none.mp hp⟩
  next h =>
    refine .inr ⟨rfl, ?_⟩
    by_contra hc
    rw [not_or, not_forall, not_not] at hc
    obtain ⟨⟨r, hr⟩, hp⟩ := hc
    exact h (Bool.and_eq_true_iff.mpr ⟨hany.mpr ⟨r, not_not.mp hr⟩, Option.isNone_iff_eq_none.mpr hp⟩)

/-- A request leaves the other slots, the FIFO and the ACTIVE slot alone. -/
theorem requestPass_slots (w : State) (m : Move) :
    (w.requestPass m).txe.retire = w.txe.retire ∧ (w.requestPass m).txe.priority = w.txe.priority ∧
      (w.requestPass m).txe.active = w.txe.active ∧ (w.requestPass m).txe.fifo = w.txe.fifo ∧
      (w.requestPass m).txe.fifoMode = w.txe.fifoMode := by
  rcases requestPass_cases w m with ⟨he, -⟩ | ⟨he, -⟩ <;> rw [he]
  · cases m <;> exact ⟨rfl, rfl, rfl, rfl, rfl⟩
  · exact ⟨rfl, rfl, rfl, rfl, rfl⟩

theorem requestPass_passSlot {w : State} {m : Move} (h : ∃ r, w.ckc.ckState.get r = m.inFlight) :
    (w.requestPass m).txe.passSlot m ≠ none := by
  obtain ⟨r, hr⟩ := h
  rcases requestPass_cases w m with ⟨he, -⟩ | ⟨he, hno | hp⟩ <;> rw [he]
  · simp
  · exact absurd hr (hno r)
  · exact hp

theorem requestPass_passSlot_none {w : State} {m : Move} (h : ∀ r, w.ckc.ckState.get r ≠ m.inFlight)
    (hp : w.txe.passSlot m = none) : (w.requestPass m).txe.passSlot m = none := by
  rcases requestPass_cases w m with ⟨-, ⟨r, hr⟩, -⟩ | ⟨he, -⟩
  · exact absurd hr (h r)
  · rw [he]
    exact hp

/-- The operation table and the port at the end of a verdict, from the state `w` whose entries have started their passes: every
region in flight then has a block to move. -/
theorem passRequested_settle {s w z : State} {m : Move} (hz : z.txe = ((w.requestPass m).abandonRetire m).txe)
    (hzc : z.ckc = w.ckc) (hzt : z.rgd.table = s.rgd.table) (hwt : w.rgd.table = s.rgd.table) (hw : w.txe = s.txe)
    (hn : w.nobodyHeldRetire) (hp : s.txe.priority = none)
    (hcand : (∃ r, w.ckc.ckState.get r = m.inFlight) →
      ∃ r b, (∃ d ∈ w.rgd.table.get r, d.authorised b = true) ∧ w.ckc.ckState.get r = m.inFlight ∧ b ∈ w.ckc.setOf m) :
    passRequested s z.settle m := by
  obtain ⟨hretire, hprio, hact, hfifo, hmode⟩ := requestPass_slots w m
  have hn' : (w.requestPass m).nobodyHeldRetire := fun a ha => hn a (requestPass_hbi w m ▸ ha)
  have hslot : z.txe.passSlot m = (w.requestPass m).txe.passSlot m := by
    rw [hz]
    rcases abandonRetire_cases hn' m with he | he <;> rw [he]
    exact dropRetire_passSlot _ _
  have hpriority : z.txe.priority = none := by
    refine Eq.trans ?_ (hprio.trans (hw ▸ hp))
    rw [hz]
    rcases abandonRetire_cases hn' m with he | he <;> rw [he]
    exact dropRetire_priority _
  obtain ⟨-, hpass⟩ := workKept_iff.mp (workKept_settle z)
  obtain ⟨hempty, hasks, -⟩ := hpass m
  have hsettle : z.settle.txe.unbegun = z.txe.unbegun := settle_unbegun z
  rw [passRequested, settle_ckc, hzc]
  refine ⟨fun hin => ?_, fun hno hs => ?_, fun hs => ?_, fun o ho => ?_⟩
  · obtain ⟨r, b, hd, hr, hb⟩ := hcand hin
    refine hasks ⟨r, b, by rwa [hzt, ← hwt], by rwa [hzc], by rwa [hzc], ?_⟩ (hslot ▸ requestPass_passSlot hin)
    rw [hpriority]
    nofun
  · exact hempty (hslot.trans (requestPass_passSlot_none hno (hw ▸ hs)))
  · refine retire_none_of_unbegun hsettle ?_
    rw [hz, abandonRetire_empty (hretire.trans (hw ▸ hs)), hretire, hw, hs]
  · have hoW : (w.requestPass m).txe.retire = some o := hretire.trans (hw ▸ ho)
    have hworking : (w.requestPass m).retireWorking o = s.retireWorking o := by
      unfold State.retireWorking
      rw [requestPass_rgd, hwt]
    have habandon := abandonRetire_occupied hoW hn' m
    rw [hworking, requestPass_ckc] at habandon
    refine ⟨fun hmem => ?_, fun hmem => ?_⟩
    · rw [if_pos hmem] at habandon
      rw [habandon] at hz
      refine ⟨retire_none_of_unbegun hsettle (hz ▸ dropRetire_retire _), fun hactive => ?_⟩
      obtain ⟨hf, hm⟩ := dropRetire_active (hact.trans (hw ▸ hactive))
      exact ⟨(congrArg Txe.fifo hsettle).trans (hz ▸ hf), (congrArg Txe.fifoMode hsettle).trans (hz ▸ hm)⟩
    · rw [if_neg hmem] at habandon
      rw [habandon] at hz
      exact ⟨retire_of_unbegun hsettle (hz ▸ hoW), (congrArg Txe.fifo hsettle).trans (hz ▸ hfifo.trans (hw ▸ rfl)),
        (congrArg Txe.fifoMode hsettle).trans (hz ▸ hmode.trans (hw ▸ rfl))⟩

/-! ### The passes started (R86, R101) -/

/-- The state whose entries have started the pass of a move, in ascending order. -/
def State.entriesStarted (s : State) : Move → State
  | .copy => { s with ckc := allRegions.foldl (fun c r => c.startCopy s.rgd.table r) s.ckc }
  | .restore => allRegions.foldl State.startRestore s

theorem startPasses_eq (s : State) (m : Move) : s.startPasses m = ((s.entriesStarted m).requestPass m).abandonRetire m := by
  cases m <;> rfl

@[simp] theorem entriesStarted_hbi (s : State) (m : Move) : (s.entriesStarted m).hbi = s.hbi := by
  cases m
  · rfl
  · exact foldStartRestore_hbi _ s
@[simp] theorem entriesStarted_rgd (s : State) (m : Move) : (s.entriesStarted m).rgd = s.rgd := by
  cases m
  · rfl
  · exact foldStartRestore_rgd _ s
@[simp] theorem entriesStarted_txe (s : State) (m : Move) : (s.entriesStarted m).txe = s.txe := by
  cases m
  · rfl
  · exact foldStartRestore_txe _ s
@[simp] theorem entriesStarted_cau (s : State) (m : Move) : (s.entriesStarted m).cau = s.cau := by
  cases m
  · rfl
  · exact (startRestores_fau allRegions_nodup s).2

theorem entriesStarted_passStart {s : State} {m : Move} (h : m = .copy → s.tableApart) :
    PassStart s.ckc (s.entriesStarted m).ckc s.rgd.table m allRegions := by
  cases m with
  | copy =>
    obtain ⟨hlen, hapart⟩ := h rfl
    exact startCopies_passStart hlen
      (fun r r' x ⟨d, hd, _, hx⟩ ⟨d', hd', _, hx'⟩ => hapart r r' d d' x hd hd' hx hx') allRegions_nodup s.ckc
  | restore => exact startRestores_passStart allRegions_nodup s

/-- With nobody held for a retire copy, starting passes changes the operation table and what the entries change. -/
theorem startPasses_frame {s : State} (hn : s.nobodyHeldRetire) (m : Move) :
    s.startPasses m = { s.entriesStarted m with txe := (s.startPasses m).txe } := by
  have hn' : ((s.entriesStarted m).requestPass m).nobodyHeldRetire := fun a ha => hn a (by simpa using ha)
  rw [startPasses_eq]
  rcases abandonRetire_cases hn' m with he | he <;> rw [he]
  all_goals rcases requestPass_cases (s.entriesStarted m) m with ⟨he', -⟩ | ⟨he', -⟩ <;> rw [he']

theorem startPasses_hbi {s : State} (hn : s.nobodyHeldRetire) (m : Move) : (s.startPasses m).hbi = s.hbi := by
  rw [startPasses_frame hn]
  exact entriesStarted_hbi s m
theorem startPasses_ckc {s : State} (hn : s.nobodyHeldRetire) (m : Move) :
    (s.startPasses m).ckc = (s.entriesStarted m).ckc := by rw [startPasses_frame hn]
theorem startPasses_fau {s : State} (hn : s.nobodyHeldRetire) (m : Move) :
    (s.startPasses m).fau = (s.entriesStarted m).fau := by rw [startPasses_frame hn]
theorem startPasses_cau {s : State} (hn : s.nobodyHeldRetire) (m : Move) : (s.startPasses m).cau = s.cau := by
  rw [startPasses_frame hn]
  exact entriesStarted_cau s m

theorem inFlight_ne_of_passInFlight {s : State} (h : s.passInFlight = false) (m : Move) (r : Region) :
    s.ckc.ckState.get r ≠ m.inFlight := by
  obtain ⟨hc, hr⟩ := Bool.or_eq_false_iff.mp h
  intro he
  cases m with
  | copy => exact List.any_eq_false.mp hc r (mem_allRegions r) (by simp [he, Move.inFlight])
  | restore => exact List.any_eq_false.mp hr r (mem_allRegions r) (by simp [he, Move.inFlight])

/-- Where no pass was in flight, a region in flight has entered it now, with a block to move. -/
theorem PassStart.candidate {s : State} {c' : Ckc} {m : Move} (h : PassStart s.ckc c' s.rgd.table m allRegions)
    (hidle : s.passInFlight = false) (hin : ∃ r, c'.ckState.get r = m.inFlight) :
    ∃ r b, (∃ d ∈ s.rgd.table.get r, d.authorised b = true) ∧ c'.ckState.get r = m.inFlight ∧ b ∈ c'.setOf m := by
  obtain ⟨r, hr⟩ := hin
  have hstarts : ∃ x, s.ckc.startsBlock s.rgd.table m r x := by
    by_contra hno
    exact inFlight_ne_of_passInFlight hidle m r ((h.kept r fun _ x hx => hno ⟨x, hx⟩).symm.trans hr)
  obtain ⟨x, hx⟩ := hstarts
  obtain ⟨d, hd, -, hauth⟩ := hx.1
  exact ⟨r, x, ⟨d, hd, hauth⟩, hr, (h.set x).mpr (.inr ⟨r, mem_allRegions r, hx⟩)⟩

theorem ckBlock_and_iff {t : Table} {r : Region} {x : Nat} {q : Prop} :
    ckBlock t r x ∧ q ↔ ∃ d, t.get r = some d ∧ d.attrs.checkpoint = true ∧ d.authorised x = true ∧ q :=
  ⟨fun ⟨⟨d, hd, hck, hx⟩, hq⟩ => ⟨d, hd, hck, hx, hq⟩, fun ⟨d, hd, hck, hx, hq⟩ => ⟨⟨d, hd, hck, hx⟩, hq⟩⟩

theorem copiesStarted_of_passStart {s t : State} (hlen : ∀ r d, s.rgd.table.get r = some d → 1 ≤ d.len)
    (h : PassStart s.ckc t.ckc s.rgd.table .copy allRegions)
    (hreq : passRequested s t .copy) : copiesStarted s t := by
  refine ⟨fun x => (h.set x).trans ?_, fun x => (h.dirty x).trans ?_, h.copyKeeps rfl, fun r d hd hck hx => ?_,
    fun r hv hnone => ?_, hreq⟩
  · simp [Ckc.startsBlock, ckBlock_and_iff, mem_allRegions, Ckc.setOf]
  · simp [Ckc.cleansBlock, ckBlock_and_iff, mem_allRegions]
  · refine h.entered r (mem_allRegions r) ?_
    rcases hx with ⟨hv, x, hx, hauth⟩ | hb
    · exact ⟨x, ⟨d, hd, hck, hauth⟩, .inl ⟨hv, hx⟩⟩
    · exact ⟨d.authLow, ⟨d, hd, hck, authorised_authLow (hlen r d hd)⟩, .inr ⟨rfl, hb⟩⟩
  · refine (h.kept r fun _ x ⟨⟨d, hd, _, hx⟩, hst⟩ => ?_).trans hv
    rcases hst with ⟨_, hdirty⟩ | ⟨_, hb⟩
    · exact Bool.noConfusion ((hnone d hd x hdirty).symm.trans hx)
    · exact CkState.noConfusion (hv.symm.trans hb)

theorem restoresStarted_of_passStart {s t : State} (h : PassStart s.ckc t.ckc s.rgd.table .restore allRegions)
    (hreq : passRequested s t .restore) : restoresStarted s t := by
  obtain ⟨hpass, hdirty⟩ := h.restoreKeeps rfl
  refine ⟨hpass, hdirty, fun x => (h.set x).trans ?_, fun r d hd hck hv ⟨x, hx, hauth⟩ => ?_, fun r hv hnone => ?_,
    fun r hb => ?_, hreq⟩
  · simp [Ckc.startsBlock, ckBlock_and_iff, mem_allRegions, Ckc.setOf]
  · exact h.entered r (mem_allRegions r) ⟨x, ⟨d, hd, hck, hauth⟩, .inl ⟨hv, hx⟩⟩
  · refine (h.kept r fun _ x ⟨⟨d, hd, _, hx⟩, hst⟩ => ?_).trans hv
    rcases hst with ⟨_, hdirty⟩ | ⟨hm, _⟩
    · exact Bool.noConfusion ((hnone d hd x hdirty).symm.trans hx)
    · exact Move.noConfusion hm
  · refine (h.kept r fun _ x ⟨_, hst⟩ => ?_).trans hb
    rcases hst with ⟨hv, _⟩ | ⟨hm, _⟩
    · exact CkState.noConfusion (hb.symm.trans hv)
    · exact Move.noConfusion hm

/-! ### The verdict (R134 to R136) -/

/-- The state of which a verdict's passes start: the counts and the qualification are the verdict's (R134 steps 1 and 2). -/
def State.verdictTaken (s : State) (v : Verdict) : State :=
  { s with cau := s.cau.onVerdict v, fau := s.fau.onVerdict v }

/-- The fault a FAILED verdict records for the marker. -/
def State.markerFault (s : State) (k : FaultKind) : FaultReport :=
  { bareFault k .marker with word := some s.mli.params.marker, region := s.markerRegion }

theorem verdict_committed (s : State) :
    s.verdict (.committed, none) =
      State.settle { (s.verdictTaken .committed).startPasses .copy with
        rgd := { ((s.verdictTaken .committed).startPasses .copy).rgd with loadOpen := false } } := rfl

theorem move_of_ne_committed {v : Verdict} (h : v ≠ .committed) : v.move = .restore := by
  cases v with
  | committed => exact absurd rfl h
  | none | rolledBack | failed => rfl

theorem verdict_silent (s : State) {v : Verdict} (h : v ≠ .committed) :
    s.verdict (v, none) = ((s.verdictTaken v).startPasses .restore).settle := by
  unfold State.verdict
  dsimp only
  rw [if_neg h, move_of_ne_committed h, State.verdictTaken]

theorem verdict_failing (s : State) {v : Verdict} (h : v ≠ .committed) (k : FaultKind) :
    s.verdict (v, some k) = (((s.verdictTaken v).startPasses .restore).takeFault
      (((s.verdictTaken v).startPasses .restore).markerFault k)).settle := by
  unfold State.verdict
  dsimp only
  rw [if_neg h, move_of_ne_committed h, State.verdictTaken, State.markerFault]

theorem markerFault_cau (s u : State) (k : FaultKind) : (s.takeFault (u.markerFault k)).cau = s.cau := by
  have hnone : faultTaints s.rgd.table (u.markerFault k) = ⟨false, false, false, false⟩ := by
    simp [faultTaints, State.markerFault, bareFault]
  rw [takeFault_cau, hnone, raise_nothing]

/-- A processor that waits at the marker is held for no retire copy. -/
theorem nobodyHeldRetire_of_heldMarker {s : State} {a : Access} (ha : s.hbi.access = some a) (hph : a.phase = .heldMarker) :
    s.nobodyHeldRetire := fun b hb hr => by
  obtain rfl := Option.some.inj (ha.symm.trans hb)
  exact Phase.noConfusion (hph.symm.trans hr)

/-- The sets and the operation table at the end of a verdict, whatever its fault and the load period. -/
theorem passRequested_verdict {s z : State} {v : Verdict} {m : Move} (hn : s.nobodyHeldRetire)
    (hz : z.txe = ((s.verdictTaken v).startPasses m).txe) (hzc : z.ckc = ((s.verdictTaken v).entriesStarted m).ckc)
    (hzt : z.rgd.table = s.rgd.table) (hap : m = .copy → s.tableApart) (hidle : s.passInFlight = false)
    (hp : s.txe.priority = none) :
    PassStart s.ckc z.settle.ckc s.rgd.table m allRegions ∧ passRequested s z.settle m := by
  have hstart : PassStart s.ckc z.settle.ckc s.rgd.table m allRegions := by
    rw [settle_ckc, hzc]
    exact entriesStarted_passStart (s := s.verdictTaken v) hap
  refine ⟨hstart, passRequested_settle (w := (s.verdictTaken v).entriesStarted m) (hz.trans (by rw [startPasses_eq])) hzc hzt
    (by rw [entriesStarted_rgd]; rfl) (by rw [entriesStarted_txe]; rfl) (fun a ha => hn a (by rwa [entriesStarted_hbi] at ha))
    hp fun hin => ?_⟩
  rw [settle_ckc, hzc] at hstart
  rw [entriesStarted_rgd]
  exact hstart.candidate hidle hin

/-- What every verdict does: its counts, its load period and its faults, its passes, and nothing else. -/
structure VerdictEffect (s t : State) (v : Verdict) (k : Option FaultKind) (r : Region) : Prop where
  cau : t.cau = s.cau.decided v
  settled : verdictSettled s t v k r
  passes : passesStarted s t v
  frame : { t with cau := s.cau, rgd := s.rgd, fau := s.fau, ckc := s.ckc, mpt := s.mpt, txe := s.txe } = s

theorem verdictEffect_committed {s : State} {r : Region} (hn : s.nobodyHeldRetire) :
    VerdictEffect s (s.verdict (.committed, none)) .committed none r := by
  have hn' : (s.verdictTaken .committed).nobodyHeldRetire := hn
  rw [verdict_committed]
  refine ⟨?_, ⟨fun _ => ⟨?_, ?_⟩, fun h => absurd rfl h⟩, fun hidle hp => ⟨fun _ hap => ?_, fun h => absurd rfl h⟩, ?_⟩
  · rw [settle_cau, startPasses_cau hn']
    rfl
  · rw [settle_rgd, startPasses_rgd]
    rfl
  · rw [settle_fau, startPasses_fau hn']
    rfl
  · obtain ⟨hstart, hreq⟩ := passRequested_verdict (v := .committed) (m := .copy)
      (z := { (s.verdictTaken .committed).startPasses .copy with
        rgd := { ((s.verdictTaken .committed).startPasses .copy).rgd with loadOpen := false } }) hn rfl
      (startPasses_ckc hn' .copy) (by rw [startPasses_rgd]; rfl) (fun _ => hap) hidle hp
    exact copiesStarted_of_passStart hap.1 hstart hreq
  · apply State.ext
    case hbi => exact (settle_hbi _).trans (startPasses_hbi hn' .copy)
    all_goals simp [State.verdictTaken]

/-- The Fault and Alarm Unit once a verdict that is not COMMITTED has found the BROKEN regions (R102, R167). -/
theorem startRestores_brokenTaken (s : State) {v : Verdict} (h : v ≠ .committed) :
    ((s.verdictTaken v).entriesStarted .restore).fau =
      s.brokenTaken { s.fau with qualified := false, epochFlag := false } := by
  refine (startRestores_fau allRegions_nodup (s.verdictTaken v)).1.trans ?_
  cases v with
  | committed => exact absurd rfl h
  | none | rolledBack | failed => rfl

theorem verdictEffect_restore {s u : State} {v : Verdict} {k : Option FaultKind} {r : Region} {f : Fau} (h : v ≠ .committed)
    (hn : s.nobodyHeldRetire) (hu : (s.verdictTaken v).startPasses .restore = u) (hf : f = s.verdictFaults k r) :
    VerdictEffect s (State.settle { u with fau := f }) v k r := by
  have hn' : (s.verdictTaken v).nobodyHeldRetire := hn
  have hcau : u.cau = s.cau.decided v := hu ▸ startPasses_cau hn' .restore
  have hckc : u.ckc = ((s.verdictTaken v).entriesStarted .restore).ckc :=
    (congrArg State.ckc hu).symm.trans (startPasses_ckc hn' .restore)
  have hhbi : u.hbi = s.hbi := hu ▸ startPasses_hbi hn' .restore
  have hrgd : u.rgd = s.rgd := hu ▸ startPasses_rgd (s.verdictTaken v) .restore
  refine ⟨?_, ⟨fun hc => absurd hc h, fun _ => ⟨?_, ?_⟩⟩, fun hidle hp => ⟨fun hc => absurd hc h, fun _ => ?_⟩, ?_⟩
  · rw [settle_cau, hcau]
  · rw [settle_rgd, hrgd]
  · rw [settle_fau, hf]
  · obtain ⟨hstart, hreq⟩ := passRequested_verdict (v := v) (m := .restore) (z := { u with fau := f }) hn
      (congrArg State.txe hu).symm hckc (congrArg Rgd.table hrgd) nofun hidle hp
    exact restoresStarted_of_passStart hstart hreq
  · apply State.ext
    case hbi => exact (settle_hbi _).trans hhbi
    all_goals simp [← hu, State.verdictTaken]

/-- A verdict as the table gives it: with no fault when it is COMMITTED, and else with at most one, which is vital (R133, R135). -/
def verdictForm (v : Verdict) (k : Option FaultKind) : Prop :=
  (v = .committed → k = none) ∧ ∀ x ∈ k, ∀ t r, faultVital t x r = true

theorem verdict_effect {s : State} {v : Verdict} {k : Option FaultKind} {a : Access} (hform : verdictForm v k)
    (ha : s.hbi.access = some a) (hph : a.phase = .heldMarker) : VerdictEffect s (s.verdict (v, k)) v k a.record.region := by
  obtain ⟨hnone, hvital⟩ := hform
  have hn : s.nobodyHeldRetire := nobodyHeldRetire_of_heldMarker ha hph
  have hn' : (s.verdictTaken v).nobodyHeldRetire := hn
  by_cases hv : v = .committed
  · subst hv
    obtain rfl := hnone rfl
    exact verdictEffect_committed hn
  · obtain ⟨u, hu⟩ : ∃ u, (s.verdictTaken v).startPasses .restore = u := ⟨_, rfl⟩
    have hfau : u.fau = s.brokenTaken { s.fau with qualified := false, epochFlag := false } :=
      hu ▸ (startPasses_fau hn' .restore).trans (startRestores_brokenTaken s hv)
    cases k with
    | none =>
      rw [verdict_silent s hv, hu]
      exact verdictEffect_restore hv hn hu hfau
    | some k =>
      have hcau : u.cau = s.cau.decided v := hu ▸ startPasses_cau hn' .restore
      have hhbi : u.hbi = s.hbi := hu ▸ startPasses_hbi hn' .restore
      have hmli : u.mli = s.mli := hu ▸ startPasses_mli (s.verdictTaken v) .restore
      have htaken : u.takeFault (u.markerFault k) = { u with fau := u.fau.take (u.recordOf (u.markerFault k)) } := by
        apply State.ext
        case cau => exact markerFault_cau u u k
        all_goals rfl
      rw [verdict_failing s hv, hu, htaken]
      refine verdictEffect_restore hv hn hu ?_
      rw [State.verdictFaults, hfau]
      refine congrArg _ ?_
      simp [State.recordOf, State.markerFault, bareFault, State.markerRegion, hvital k rfl, hcau, hhbi, hmli, ha,
        Cau.decided, hv]

theorem decideVerdict_form {mode : TwinMode} {c : Count8} {loc : Mark} {twin : Option Mark} {v : Verdict}
    {k : Option FaultKind} (h : (v, k) = decideVerdict mode c loc twin) : verdictForm v k := by
  have hrolled : verdictForm .rolledBack none := ⟨nofun, nofun⟩
  have hcommitted : verdictForm .committed none := ⟨fun _ => rfl, nofun⟩
  have hfailed {x : FaultKind} (hx : ∀ t r, faultVital t x r = true) : verdictForm .failed (some x) :=
    ⟨nofun, fun y hy => Option.some.inj hy ▸ hx⟩
  suffices hall : verdictForm (decideVerdict mode c loc twin).1 (decideVerdict mode c loc twin).2 by rwa [← h] at hall
  unfold decideVerdict
  split
  · exact hfailed fun _ _ => rfl
  · split
    · split
      · exact hfailed fun _ _ => rfl
      · split
        · exact hfailed fun _ _ => rfl
        · split
          · exact hrolled
          · split
            · exact hfailed fun _ _ => rfl
            · exact hcommitted
    · split
      · exact hcommitted
      · exact hrolled

end Sys2Proof.Machine
end

section
/-! PROOFS. A marker in PAIRED mode: the local MARK sent, and the verdict it or the agreement timer brings (R125, R127, R132 to
R135). -/
namespace Sys2Proof.Machine

/-! ### The local MARK (R125, R127) -/

theorem taintSet_isEmpty_iff {t : TaintSet} : t.isEmpty = true ↔ t = TaintSet.empty := beq_iff_eq

theorem localKind_eq (k : MarkKind) (t : TaintSet) :
    localKind k t = if k = .commit ∧ t = TaintSet.empty then .commit else .rollback := by
  unfold localKind
  cases k with
  | commit => cases ht : t.isEmpty <;> simp [← taintSet_isEmpty_iff, ht]
  | rollback => rfl

theorem formMark_eq (s : State) (h : HeldMarker) :
    s.formMark h =
      { epoch := s.cau.epoch, n := h.n
        kind := if h.kind = .commit ∧ s.cau.taint = TaintSet.empty then .commit else .rollback
        digest := s.cau.digest, tag := s.rgd.layoutTag } := by
  rw [State.formMark, localKind_eq]

theorem place_eq (x : Twl) (m : Mark) :
    x.place m = if x.sending = none then { x with sending := some (.mark m), idleTimer := false }
      else { x with waiting := some m } := by
  unfold Twl.place
  cases x.sending <;> rfl

theorem exec_fixLocalKind {s : State} {h : HeldMarker} (hm : s.cau.marker = .draining) (hh : s.cau.held = some h)
    (hl : s.cau.localMark = none) (hp : s.passInFlight = false) : exec .fixLocalKind s = .next (s.fixKind h) := by
  have hfix : s.fixable = some h := by
    unfold State.fixable
    rw [if_pos ⟨hm, Option.isNone_iff_eq_none.mpr hl, hp⟩, hh]
  show execFixLocalKind s = _
  rw [execFixLocalKind, hfix]

/-- The state in which a MARK has been sent to the twin and awaits its answer (R125, R127). -/
def State.awaiting (s : State) (m : Mark) : State :=
  { s with
    twl := s.twl.place m
    cau := { s.cau with
      localMark := some m, agreementTimer := some s.mli.params.agreementTimeout, marker := .awaitingTwin } }

theorem fixKind_up {s : State} (h : HeldMarker) (hmode : s.mli.params.twinMode = .paired) (hup : s.twl.linkUp = true)
    (hslot : s.cau.slot = none) : s.fixKind h = s.awaiting (s.formMark h) := by
  unfold State.fixKind
  dsimp only
  rw [hmode]
  dsimp only
  rw [if_pos hup]
  split
  next t ht => exact absurd (hslot.symm.trans ht) nofun
  next => rfl

theorem fixKind_slot {s : State} {twin : Mark} (h : HeldMarker) (hmode : s.mli.params.twinMode = .paired)
    (hup : s.twl.linkUp = true) (hslot : s.cau.slot = some twin) :
    s.fixKind h = (s.awaiting (s.formMark h)).verdict (decideVerdict .paired s.cau.cycle (s.formMark h) (some twin)) := by
  unfold State.fixKind
  dsimp only
  rw [hmode]
  dsimp only
  rw [if_pos hup]
  split
  next t ht =>
    obtain rfl := Option.some.inj (hslot.symm.trans ht)
    rfl
  next hnone => exact absurd (hslot.symm.trans hnone) nofun

theorem fixKind_down {s : State} (h : HeldMarker) (hmode : s.mli.params.twinMode = .paired) (hdown : s.twl.linkUp = false) :
    s.fixKind h = s.timeoutVerdict (s.formMark h) := by
  unfold State.fixKind
  dsimp only
  rw [hmode]
  dsimp only
  rw [if_neg (by simp [hdown])]

/-! ### FAILED for want of a twin (R125, R132) -/

theorem timeoutVerdict_eq (s : State) (loc : Mark) :
    s.timeoutVerdict loc = s.verdict (.failed, some (if loc.n = s.cau.cycle then .twinTimeout else .sequence)) := by
  rw [State.timeoutVerdict, ite_not]

theorem verdictForm_timeout (p : Prop) [Decidable p] : verdictForm .failed (some (if p then .twinTimeout else .sequence)) := by
  refine ⟨nofun, fun x hx t r => ?_⟩
  obtain rfl := Option.some.inj hx
  split <;> rfl

/-- What the verdict for want of a twin does. -/
theorem timeoutVerdict_effect {s : State} {a : Access} (loc : Mark) (ha : s.hbi.access = some a)
    (hph : a.phase = .heldMarker) :
    (s.timeoutVerdict loc).cau = s.cau.decided .failed ∧
      (s.timeoutVerdict loc).fau =
        s.verdictFaults (some (if loc.n = s.cau.cycle then .twinTimeout else .sequence)) a.record.region ∧
      passesStarted s (s.timeoutVerdict loc) .failed ∧
      { s.timeoutVerdict loc with cau := s.cau, fau := s.fau, ckc := s.ckc, mpt := s.mpt, txe := s.txe } = s := by
  have heffect := verdict_effect (verdictForm_timeout (loc.n = s.cau.cycle)) ha hph
  rw [← timeoutVerdict_eq] at heffect
  obtain ⟨hrgd, hfau⟩ := heffect.settled.2 nofun
  have hframe := heffect.frame
  rw [← hrgd] at hframe
  exact ⟨heffect.cau, hfau, heffect.passes, hframe⟩

/-- Settles O48, by the branch the local kind is fixed in: each verdict does what every verdict does. -/
theorem pairedMarker : Obligations.PairedMarker := by
  unfold Obligations.PairedMarker
  intro s
  refine ⟨fun h m x hm hh hl hp hmode hmark hx => ?_, fun m a hl ht hslot hm ha hph => ?_, fun hno => ?_⟩
  · rw [exec_fixLocalKind hm hh hl hp]
    rw [← formMark_eq] at hmark
    rw [← place_eq] at hx
    subst hmark hx
    refine ⟨fun hup hslot => ?_, fun hup twin v k a hslot ha hph hv => ?_, fun hdown a ha hph => ?_⟩
    · rw [fixKind_up h hmode hup hslot]
      rfl
    · have heffect := verdict_effect (s := s.awaiting (s.formMark h)) (decideVerdict_form hv) ha hph
      rw [fixKind_slot h hmode hup hslot, ← hv]
      exact ⟨_, rfl, verdict_twl _ _, heffect.cau, heffect.settled, heffect.passes,
        congrArg (fun z : State => { z with twl := s.twl, cau := s.cau }) heffect.frame⟩
    · rw [fixKind_down h hmode hdown]
      exact ⟨_, rfl, timeoutVerdict_effect _ ha hph⟩
  · refine ⟨s.timeoutVerdict m, ?_, timeoutVerdict_effect m ha hph⟩
    show execAgreementTimerExpiry s = _
    unfold execAgreementTimerExpiry
    rw [hl]
    dsimp only
    rw [if_pos (by simp [hslot, hm, Option.isSome_iff_ne_none, ht])]
  · show execAgreementTimerExpiry s = _
    unfold execAgreementTimerExpiry
    split
    next m hl =>
      rw [if_neg]
      simp only [Bool.and_eq_true, Option.isSome_iff_ne_none, Option.isNone_iff_eq_none, beq_iff_eq]
      rintro ⟨⟨ht, hslot⟩, hm⟩
      rcases hno with h | h | h | h
      · exact absurd (h.symm.trans hl) nofun
      · exact ht h
      · exact h hslot
      · exact h hm
    next => rfl

end Sys2Proof.Machine
end

section
/-! PROOFS. Frames received on the twin link: how their units complete a frame, what its judgement gives back, and what each MARK
does (R126, R128 to R131, R183, R184). -/
namespace Sys2Proof.Machine

/-! ### The judgement of a frame as it was sent (R126, R183) -/

/-- The sum of a frame's units, its check among them, is 65,535 modulo 65,536. -/
theorem checkPasses_frameCheck (us : List Unit16) : checkPasses (us ++ [frameCheck us]) = true := by
  have hsum : unitSum (us ++ [frameCheck us]) = unitSum us + (65535 - unitSum us % 65536) % 65536 := by
    simp [unitSum, frameCheck, unit]
  rw [checkPasses, decide_eq_true_iff, hsum]
  omega

@[simp] theorem hiByte_ofBytes (a b : BitVec 8) : hiByte (ofBytes a b) = a := by
  rw [hiByte_eq_iff, ofBytes_toNat]
  omega

@[simp] theorem loByte_ofBytes (a b : BitVec 8) : loByte (ofBytes a b) = b := by
  refine BitVec.eq_of_toNat_eq ?_
  rw [loByte_toNat, ofBytes_toNat]
  omega

theorem halves_append (x : BitVec 32) : x.extractLsb' 16 16 ++ x.extractLsb' 0 16 = x := by
  ext i hi
  rw [BitVec.getElem_append]
  split
  next h => rw [BitVec.getElem_extractLsb', Nat.zero_add, BitVec.getLsbD_eq_getElem]
  next h => rw [BitVec.getElem_extractLsb', Nat.add_sub_cancel' (not_lt.mp h), BitVec.getLsbD_eq_getElem]

theorem markKindOf_unit16 (k : MarkKind) : markKindOf k.unit16 = some k := by cases k <;> rfl

theorem frameFields_units (f : TwinFrame) : frameFields f.units = some f := by
  cases f with
  | idle => rfl
  | mark m =>
    show (markKindOf m.kind.unit16).map _ = _
    simp [markKindOf_unit16, halves_append]

theorem received_data (f : TwinFrame) : f.received.map (·.data) = f.units := by
  cases f <;> simp [TwinFrame.received, TwinFrame.units, TwinFrame.body]

/-- A frame is judged to be the one that was sent. -/
theorem judgeFrame_received (f : TwinFrame) : judgeFrame f.received = some f := by
  have hdata := received_data f
  have hchecked : checkPasses f.units = true := checkPasses_frameCheck f.body
  have hstop : f.received.all (·.stop) = true := by cases f <;> rfl
  have hlength : ∃ u us, f.received = u :: us ∧ frameLength u = some f.received.length := by
    cases f <;> exact ⟨_, _, rfl, rfl⟩
  obtain ⟨u, us, hcons, hlen⟩ := hlength
  rw [← hdata] at hchecked
  rw [hcons] at hchecked hlen hstop hdata ⊢
  rw [judgeFrame, if_pos ⟨hlen, hstop, hchecked⟩, hdata, frameFields_units]

/-! ### The units that complete a frame (R184) -/

theorem rxUnit_joins {s : State} {u v : RxUnit} {us : List RxUnit} (hrx : s.twl.rx = some (u :: us)) (hv : v.first = false)
    (hlen : frameLength u ≠ some (us.length + 2)) :
    s.rxUnit v = { s with twl := { s.twl with rx := some (u :: us ++ [v]) } } := by
  unfold State.rxUnit
  rw [hrx]
  dsimp only
  rw [hv, if_neg Bool.false_ne_true]
  exact if_neg (by simpa using hlen)

theorem rxUnit_completes {s : State} {u v : RxUnit} {us : List RxUnit} (hrx : s.twl.rx = some (u :: us))
    (hv : v.first = false) (hlen : frameLength u = some (us.length + 2)) :
    s.rxUnit v = State.frameDone { s with twl := { s.twl with rx := none } } (u :: us ++ [v]) := by
  unfold State.rxUnit
  rw [hrx]
  dsimp only
  rw [hv, if_neg Bool.false_ne_true]
  exact if_pos (by simpa using hlen)

/-- The units that follow a header complete its frame when the last of them arrives. -/
theorem foldl_rxUnit {u : RxUnit} {n : Nat} (hlen : frameLength u = some n) {us : List RxUnit}
    (hus : ∀ v ∈ us, v.first = false) (hne : us ≠ []) (pre : List RxUnit) (hn : pre.length + us.length + 1 = n) (s : State)
    (hrx : s.twl.rx = some (u :: pre)) :
    us.foldl State.rxUnit s = State.frameDone { s with twl := { s.twl with rx := none } } (u :: (pre ++ us)) := by
  induction us generalizing s pre with
  | nil => exact absurd rfl hne
  | cons v vs ih =>
    have hv : v.first = false := hus v List.mem_cons_self
    have hvs : ∀ x ∈ vs, x.first = false := fun x hx => hus x (List.mem_cons_of_mem v hx)
    rw [List.length_cons] at hn
    by_cases hlast : vs = []
    · subst hlast
      exact rxUnit_completes hrx hv (by rw [hlen, ← hn, List.length_nil])
    · have hpos : vs.length ≠ 0 := fun h => hlast (List.length_eq_zero_iff.mp h)
      have hjoin := rxUnit_joins hrx hv (by rw [hlen, ne_eq, Option.some.injEq]; omega)
      rw [List.foldl_cons, hjoin, ih hvs hlast (pre ++ [v]) (by simp; omega) _ rfl, List.append_assoc]
      rfl

/-- A frame as it was sent, arriving with none open, is completed and judged. -/
theorem exec_twinFrameReceived {s : State} (hreset : s.inReset = false) (hrx : s.twl.rx = none) (f : TwinFrame) :
    exec (.twinFrameReceived f.received) s = .next (s.frameDone f.received) := by
  have hshape : ∃ u us, f.received = u :: us ∧ frameLength u = some (us.length + 1) ∧ us ≠ [] ∧
      ∀ v ∈ us, v.first = false := by
    cases f with
    | idle => exact ⟨_, _, rfl, rfl, nofun, by simp⟩
    | mark m => exact ⟨_, _, rfl, rfl, nofun, by simp⟩
  obtain ⟨u, us, hcons, hlen, hne, hus⟩ := hshape
  have hopen : s.rxUnit u = { s with twl := { s.twl with rx := some [u] } } := by
    unfold State.rxUnit
    rw [hrx]
    refine if_neg ?_
    rw [hlen, Option.some.injEq, List.length_singleton]
    exact fun h => hne (List.length_eq_zero_iff.mp (Nat.succ.inj h))
  have hclosed : { s with twl := { s.twl with rx := none } } = s := by rw [← hrx]
  show execTwinFrameReceived f.received s = _
  rw [execTwinFrameReceived, hreset, if_neg Bool.false_ne_true, hcons, List.foldl_cons, hopen,
    foldl_rxUnit hlen hus hne [] (by simp) _ rfl]
  exact congrArg (fun z : State => Host.Outcome.next (z.frameDone (u :: us))) hclosed

/-! ### What a valid frame does (R129 to R131) -/

theorem linkSeen_eq (s : State) :
    s.linkSeen = { s with
      twl := { s.twl with linkUp := true, linkTimer := true }
      fau := { s.fau with pending := { s.fau.pending with
        linkChange := s.fau.pending.linkChange || !s.twl.linkUp } } } := by
  have hnew (h : s.twl.linkUp = true) : (s.fau.pending.linkChange || !s.twl.linkUp) = s.fau.pending.linkChange := by
    rw [h, Bool.not_true, Bool.or_false]
  unfold State.linkSeen State.linkChange
  cases hup : s.twl.linkUp with
  | false => simp
  | true => simp [← hup, hnew]

theorem frameDone_idle (s : State) : s.frameDone TwinFrame.idle.received = s.linkSeen := by
  rw [State.frameDone, judgeFrame_received]

theorem frameDone_mark (s : State) (m : Mark) : s.frameDone (TwinFrame.mark m).received = s.linkSeen.twinMark m := by
  rw [State.frameDone, judgeFrame_received]

/-- A fault of the twin link raises no taint, and names no place. -/
theorem takeFault_twinLink (u : State) (k : FaultKind) :
    u.takeFault (bareFault k .twinLink) =
      { u with
        fau := u.fau.take
          { kind := k, also := none, source := .twinLink, word := none, region := none, findings := none
            position := none, vital := faultVital u.rgd.table k none, epoch := u.cau.epoch, cycle := u.cau.cycle } } := by
  have hnone : faultTaints u.rgd.table (bareFault k .twinLink) = ⟨false, false, false, false⟩ := by
    simp [faultTaints, bareFault]
  apply State.ext
  case cau => exact (takeFault_cau _ _).trans (by rw [hnone, raise_nothing])
  all_goals rfl

theorem twinMark_config {l : State} (h : l.mli.control = .config) (m : Mark) : l.twinMark m = l := by
  rw [State.twinMark, if_pos h]

theorem twinMark_single {l : State} (h : l.mli.control ≠ .config) (hmode : l.mli.params.twinMode = .single) (m : Mark) :
    l.twinMark m = l.takeFault (bareFault .linkProtocol .twinLink) := by
  rw [State.twinMark, if_neg h, hmode]

theorem twinMark_paired {l : State} (h : l.mli.control ≠ .config) (hmode : l.mli.params.twinMode = .paired) (m : Mark) :
    l.twinMark m =
      if m.epoch = l.cau.epoch then l.slotMark m
      else if m.epoch = l.cau.epoch - 1 then l.takeFault (bareFault .linkLate .twinLink)
      else l.takeFault (bareFault .sequence .twinLink) := by
  rw [State.twinMark, if_neg h, hmode]

theorem slotMark_full {l : State} (h : l.cau.slot ≠ none) (m : Mark) :
    l.slotMark m = l.takeFault (bareFault .linkProtocol .twinLink) := by
  rw [State.slotMark, if_pos (Option.isSome_iff_ne_none.mpr h)]

theorem slotMark_kept {l : State} (h : l.cau.slot = none) (hl : l.cau.localMark = none) (m : Mark) :
    l.slotMark m = { l with cau := { l.cau with slot := some m } } := by
  rw [State.slotMark, if_neg (by simp [h])]
  dsimp only
  rw [hl]

theorem slotMark_decides {l : State} {loc : Mark} (h : l.cau.slot = none) (hl : l.cau.localMark = some loc) (m : Mark) :
    l.slotMark m = State.verdict { l with cau := { l.cau with slot := some m } }
      (decideVerdict .paired l.cau.cycle loc (some m)) := by
  rw [State.slotMark, if_neg (by simp [h])]
  dsimp only
  rw [hl]

theorem epoch_late_iff {e c : Count8} : e = c - 1 ↔ e + 1 = c := by bv_omega

theorem epoch_late_ne {e c : Count8} (h : e + 1 = c) : e ≠ c := by bv_omega

/-- Settles O51: a frame is completed and judged as it was sent, and a MARK acts by its epoch, the mode and the slot. -/
theorem framesReceived : Obligations.FramesReceived := by
  unfold Obligations.FramesReceived
  intro s l hreset hrx hl
  have hseen : l = s.linkSeen := by rw [linkSeen_eq, hl]
  have hmark (m : Mark) : exec (.twinFrameReceived (TwinFrame.mark m).received) s = .next (l.twinMark m) := by
    rw [exec_twinFrameReceived hreset hrx, frameDone_mark, hseen]
  have hmli : l.mli = s.mli := by rw [hl]
  have hcau : l.cau = s.cau := by rw [hl]
  have haccess : l.hbi.access = s.hbi.access := by rw [hl]
  refine ⟨by rw [exec_twinFrameReceived hreset hrx, frameDone_idle, hseen], fun m => ?_⟩
  rw [hmark m, ← hmli, ← hcau]
  refine ⟨fun hc => by rw [twinMark_config hc], fun hc hmode he hslot hloc => ?_,
    fun hc hmode he hslot loc v k a hloc ha hph hv => ?_, fun k vital hc hcase => ?_⟩
  · rw [twinMark_paired hc hmode, if_pos he, slotMark_kept hslot hloc]
  · rw [twinMark_paired hc hmode, if_pos he, slotMark_decides hslot hloc, ← hv]
    have heffect := verdict_effect (s := { l with cau := { l.cau with slot := some m } }) (decideVerdict_form hv)
      (haccess.trans ha) hph
    refine ⟨_, rfl, verdict_twl _ _, heffect.cau, heffect.settled, ?_, ?_⟩
    · subst hl
      exact heffect.passes
    · subst hl
      exact congrArg (fun z : State => { z with twl := s.twl, cau := s.cau, fau := s.fau }) heffect.frame
  · rcases hcase with ⟨hmode, rfl, rfl⟩ | ⟨hmode, ⟨he, hslot, rfl, rfl⟩ | ⟨he, rfl, rfl⟩ | ⟨he, hlate, rfl, rfl⟩⟩
    · rw [twinMark_single hc hmode, takeFault_twinLink]
      rfl
    · rw [twinMark_paired hc hmode, if_pos he, slotMark_full hslot, takeFault_twinLink]
      rfl
    · rw [twinMark_paired hc hmode, if_neg (epoch_late_ne he), if_pos (epoch_late_iff.mpr he), takeFault_twinLink]
      rfl
    · rw [twinMark_paired hc hmode, if_neg he, if_neg (mt epoch_late_iff.mp hlate), takeFault_twinLink]
      rfl

end Sys2Proof.Machine
end

section
/-! PROOFS. Which blocks a mark of the dirty map takes in, and which it refuses (R81, R83, R84). -/
namespace Sys2Proof.Machine

/-- A block that is an authorised block of no CHECKPOINT region does not join D. -/
theorem addDirty_unowned {s : State} {b : Nat}
    (h : ∀ r d, s.rgd.table.get r = some d → d.attrs.checkpoint = true → d.authorised b = false) : s.addDirty b = s := by
  have hnone : firstRegion (fun _ d => d.attrs.checkpoint && d.authorised b) s.rgd.table = none := by
    refine firstRegion_none fun r d hd => ?_
    cases hck : d.attrs.checkpoint with
    | false => rfl
    | true => exact h r d hd hck
  unfold State.addDirty
  rw [hnone]

/-- A block of a region whose state is NONE does not join D. -/
theorem addDirty_stateNone {s : State} {r : Region} {d : Descriptor} {b : Nat} (hd : s.rgd.table.get r = some d)
    (hck : d.attrs.checkpoint = true) (hb : d.authorised b = true)
    (hu : ∀ r' d', s.rgd.table.get r' = some d' → d'.attrs.checkpoint = true → d'.authorised b = true → r' = r)
    (hstate : s.ckc.ckState.get r = .none) : s.addDirty b = s := by
  have hfirst := firstRegion_unique (p := fun _ d => d.attrs.checkpoint && d.authorised b) hd (by simp [hck, hb])
    fun r' d' hd' hp => hu r' d' hd' (Bool.and_eq_true_iff.mp hp).1 (Bool.and_eq_true_iff.mp hp).2
  unfold State.addDirty
  rw [hfirst]
  exact if_pos hstate

/-- Settles O31: the one region that owns the block decides by its state, and with no such region the mark is refused. -/
theorem dirtyMapMarked : Obligations.DirtyMapMarked := by
  refine ⟨fun s b r d hd hck hb hu => ⟨addDirty_stateNone hd hck hb hu, fun hstate => ?_⟩, fun s b => addDirty_unowned⟩
  have hckc := addDirty_owned hd hck hb hu hstate
  refine ⟨fun x => by rw [hckc]; exact mem_add, ?_⟩
  rw [hckc]
  apply State.ext <;> simp

end Sys2Proof.Machine
end

section
/-! PROOFS. The audit of a good working word against its shadow word (R95, R144 to R146). -/
namespace Sys2Proof.Machine

/-! ### A region broken by its audit (R95) -/

/-- A VALID or COPYING region found untrustworthy is BROKEN; the blocks a COPYING one had in S are back in D. -/
theorem shadowBroken_ofAudit {c : Ckc} {t : Table} {r : Region} {d : Descriptor} (hd : t.get r = some d)
    (hstate : c.ckState.get r = .valid ∨ c.ckState.get r = .copying) :
    (c.shadowBroken t r).ckState = c.ckState.set r .broken ∧ (c.shadowBroken t r).restore = c.restore ∧
      (c.ckState.get r = .valid →
        (c.shadowBroken t r).dirty = c.dirty ∧ (c.shadowBroken t r).pass = c.pass) ∧
      (c.ckState.get r = .copying →
        (∀ x, x ∈ (c.shadowBroken t r).pass ↔ x ∈ c.pass ∧ d.authorised x = false) ∧
        (∀ x, x ∈ (c.shadowBroken t r).dirty ↔ x ∈ c.dirty ∨ x ∈ c.pass ∧ d.authorised x = true)) := by
  have hmem := mem_shadowBroken (c := c) hd
  refine ⟨?state, ?restore, fun h => ?valid, fun h => ⟨fun x => ?pass, fun x => ?dirty⟩⟩
  case state => rw [shadowBroken_ckState, if_pos (hstate.imp_right .inl)]
  case restore =>
    unfold Ckc.shadowBroken
    rcases hstate with h | h <;> rw [h] <;> rfl
  case valid =>
    unfold Ckc.shadowBroken
    rw [h]
    exact ⟨rfl, rfl⟩
  case pass => simpa [h] using (hmem x).1
  case dirty => simpa [h] using (hmem x).2.2

/-- The break of a VALID region releases nobody; that of a COPYING one releases the access held for one of its blocks. -/
theorem shadowBreak_ofAudit {s : State} {r : Region}
    (hstate : s.ckc.ckState.get r = .valid ∨ s.ckc.ckState.get r = .copying)
    (hplain : s.heldIsPlain .heldBlock fun a => a.record.region = r) :
    (s.shadowBreak r).ckc = s.ckc.shadowBroken s.rgd.table r ∧ (s.shadowBreak r).cau = s.cau ∧
      (s.shadowBreak r).fau = s.fau ∧
      (s.ckc.ckState.get r = .valid → (s.shadowBreak r).hbi = s.hbi) ∧
      (s.ckc.ckState.get r = .copying →
        (s.shadowBreak r).hbi = s.hbi.released fun a => decide (a.record.region = r)) := by
  rcases hstate with h | h
  · have hbreak : s.shadowBreak r = { s with ckc := s.ckc.setState r .broken } := by rw [State.shadowBreak, h]
    rw [hbreak, Ckc.shadowBroken, h]
    exact ⟨rfl, rfl, rfl, fun _ => rfl, nofun⟩
  · obtain ⟨hbreak, hckc⟩ := shadowBreak_inFlight (m := .copy) h
    rw [hbreak, hckc, breakPass_plain hplain, h]
    exact ⟨by simp, by simp, by simp, nofun, fun _ => rfl⟩

/-! ### The two checks of a word audited (R144, R145) -/

theorem wroteWord_congr {s t u : State} {pw sig : Nat} {d : Word} (h : wroteWord s u pw d sig) (hP : t.planeP = u.planeP)
    (hQ : t.planeQ = u.planeQ) : wroteWord s t pw d sig := by
  unfold wroteWord State.holds sameButWord at h ⊢
  rwa [hP, hQ]

theorem requestRetire_remap (s : State) (b w : Nat) : (s.requestRetire b w).sru.remap = s.sru.remap := by
  unfold State.requestRetire
  split
  · rfl
  · split <;> rfl

theorem reportRepair_remap (s : State) (w : Nat) (pl : Plane) : (s.reportRepair w pl).sru.remap = s.sru.remap := by
  unfold State.reportRepair
  dsimp only
  split
  · exact requestRetire_remap _ _ _
  · rfl

/-- A repair leaves every logical word at its place. -/
theorem repair_physWord (s : State) (w : Nat) (t : Terms) (rep : CheckReport) (v : Nat) :
    (s.repair w t rep).physWord v = s.physWord v := by
  refine physWord_congr ?_ (by simp) v
  unfold State.repair
  split
  · exact reportRepair_remap _ _ _
  · exact reportRepair_remap _ _ _
  · rfl
  · rfl

/-- What tells a check to go on to the audit (R145). -/
theorem audits_eq_true {s : State} {c : Cursor} {rep : CheckReport} {data : Word} (hd : rep.data = some data)
    (hck : hasAttr (·.checkpoint) s.rgd.table c.region = true)
    (hstate : s.ckc.ckState.get c.region = .valid ∨ s.ckc.ckState.get c.region = .copying)
    (hD : c.block ∉ s.ckc.dirty) (hS : c.block ∉ s.ckc.pass) : s.audits c rep = true := by
  unfold State.audits
  rcases hstate with h | h <;> simp [hd, hck, h, hD, hS]

theorem cursorShadow_eq {s : State} {c : Cursor} {d : Descriptor} {sb : Nat} (hd : s.rgd.table.get c.region = some d)
    (hsb : d.shadow = some sb) : s.cursorShadow c = (sb + (c.block - d.base)) * 128 + c.offset := by
  simp [State.cursorShadow, State.shadowBlock, hd, Descriptor.shadowOf, hsb, Config.blockWords]

/-- A check with audit uses its own word and its shadow word. -/
theorem exec_scrubWordCheck_audited {s : State} {c : Cursor} (hon : s.engineOn .scrubBurst) (hc : s.sru.cursor = some c)
    (hw : s.physWord c.word < s.memWords) (hv : s.physWord (s.cursorShadow c) < s.memWords)
    (ha : s.audits c (s.check true c.word (s.terms c.word)) = true) :
    exec .scrubWordCheck s = .next (s.scrubStep c) := by
  have haddrs : s.scrubAddrs c = [s.physWord c.word, s.physWord (s.cursorShadow c)] := by
    unfold State.scrubAddrs
    rw [ha]
    rfl
  show execScrubWordCheck s = _
  unfold execScrubWordCheck
  rw [if_pos (engineAt_of_engineOn hon), hc]
  dsimp only
  rw [haddrs]
  simp [onPort, hw, hv]

/-- A word audited is repaired first; the cursor has moved on when its shadow word is read. -/
theorem scrubCheck_audited {s : State} {c : Cursor} {data : Word}
    (hd : (s.check true c.word (s.terms c.word)).data = some data)
    (ha : s.audits c (s.check true c.word (s.terms c.word)) = true) :
    s.scrubCheck c =
      ((s.repair c.word (s.terms c.word) (s.check true c.word (s.terms c.word))).withCursor
        (scrubNext s.rgd.table c)).audit c data := by
  unfold State.scrubCheck
  dsimp only
  rw [hd, ha]
  exact congrArg (State.audit · c data) (repair_withCursor s _ _ _ _)

/-- A scrub step leaves what its check made; only the port and the operation table go on from there. -/
theorem scrubStep_ofCheck (s : State) (c : Cursor) :
    (s.scrubStep c).planeP = (s.scrubCheck c).planeP ∧ (s.scrubStep c).planeQ = (s.scrubCheck c).planeQ ∧
      (s.scrubStep c).hbi = (s.scrubCheck c).hbi ∧ (s.scrubStep c).ckc = (s.scrubCheck c).ckc ∧
      (s.scrubStep c).cau = (s.scrubCheck c).cau ∧ (s.scrubStep c).fau = (s.scrubCheck c).fau ∧
      (s.scrubStep c).sru = (s.scrubCheck c).sru := by
  simp [State.scrubStep]

/-! ### What the audit reports (R145, R146) -/

@[simp] theorem withCursor_cursorShadow (s : State) (x : Option Cursor) (c : Cursor) :
    (s.withCursor x).cursorShadow c = s.cursorShadow c := rfl
@[simp] theorem withCursor_terms (s : State) (x : Option Cursor) (w : Nat) : (s.withCursor x).terms w = s.terms w := rfl
@[simp] theorem withCursor_check (s : State) (x : Option Cursor) (b : Bool) (w : Nat) (t : Terms) :
    (s.withCursor x).check b w t = s.check b w t := rfl

/-- The record of an audit that found the words unequal, or that could not read the shadow word. -/
theorem recordOf_scrubFault (s : State) (k : FaultKind) (w : Nat) (pos : Position) (rep : CheckReport)
    (also : Option FaultKind) (suspect : Bool) :
    s.recordOf { scrubFault k w pos rep with also := also, suspect := suspect } =
      { kind := k, also := also, source := .engineScrub, word := some w, region := some pos.region
        findings := some ⟨rep.qFinding, rep.pFinding, rep.distance⟩, position := some pos
        vital := faultVital s.rgd.table k (some pos.region), epoch := s.cau.epoch, cycle := s.cau.cycle } := rfl

/-- The one taint reason an audit's fault can raise is its suspect mark. -/
theorem scrubFault_taints (t : Table) {k : FaultKind} (hk : k = .audit ∨ k = .checkpointFailed) (w : Nat) (pos : Position)
    (rep : CheckReport) (also : Option FaultKind) (suspect : Bool) :
    faultTaints t { scrubFault k w pos rep with also := also, suspect := suspect } =
      { TaintSet.empty with suspectBlock := suspect } := by
  rcases hk with rfl | rfl <;> simp [faultTaints, scrubFault, bareFault, TaintSet.empty]

/-- A shadow word that can be read is repaired where it needs it, and reported where it is unequal. -/
theorem audit_readable {u t : State} {c : Cursor} {x : Option Cursor} {v : Nat} {rep : CheckReport} {data other : Word}
    (ht : t = (u.withCursor x).audit c data) (hu : u.canonical) (hv : u.cursorShadow c = v)
    (hrep : rep = u.check true v (u.terms v)) (hother : rep.data = some other) :
    wroteWord u t (u.physWord v) other (signature v (u.terms v) u.cau.epoch) ∧
      t.sru = { (u.withRepair v rep).sru with cursor := x } ∧ t.hbi = u.hbi ∧
      (other = data → t.fau = (u.withRepair v rep).fau ∧ t.ckc = u.ckc ∧ t.cau = u.cau) ∧
      (other ≠ data →
        t.ckc = (u.addDirty c.block).ckc ∧ t.cau = u.cau.raise { TaintSet.empty with suspectBlock := true } ∧
        t.fau = (u.withRepair v rep).fau.take
          { kind := .audit, also := none, source := .engineScrub, word := some c.word, region := some c.region
            findings := some ⟨rep.qFinding, rep.pFinding, rep.distance⟩
            position := some ⟨c.region, .working, c.block, c.offset⟩, vital := hasAttr (·.vital) u.rgd.table c.region
            epoch := u.cau.epoch, cycle := u.cau.cycle }) := by
  have hread : readWell u (u.repair v (u.terms v) rep) v (u.terms v) rep other := by
    rw [hrep] at hother ⊢
    exact repair_readWell hu hother
  obtain ⟨hwrote, -, hfau, hsru⟩ := hread
  have haudit : t =
      if other = data then (u.repair v (u.terms v) rep).withCursor x
      else (((u.repair v (u.terms v) rep).withCursor x).addDirty c.block).takeFault
        { scrubFault .audit c.word ⟨c.region, .working, c.block, c.offset⟩ rep with suspect := true } := by
    rw [ht]
    unfold State.audit
    dsimp only
    rw [withCursor_cursorShadow, hv, withCursor_terms, withCursor_check, ← hrep, hother, repair_withCursor]
  by_cases heq : other = data
  · rw [haudit, if_pos heq]
    exact ⟨wroteWord_congr hwrote rfl rfl, congrArg (fun y : Sru => { y with cursor := x }) hsru, repair_hbi _ _ _ _,
      fun _ => ⟨hfau, repair_ckc _ _ _ _, repair_cau _ _ _ _⟩, fun hne => absurd heq hne⟩
  · rw [haudit, if_neg heq]
    refine ⟨wroteWord_congr hwrote (by simp [State.withCursor]) (by simp [State.withCursor]), ?sru,
      by simp [State.withCursor], fun he => absurd he heq, fun _ => ⟨?ckc, ?cau, ?fau⟩⟩
    case sru => simp [State.withCursor, hsru]
    case ckc =>
      rw [takeFault_ckc]
      exact addDirty_ckc_congr (by simp [State.withCursor]) (by simp [State.withCursor]) c.block
    case cau =>
      rw [takeFault_cau, scrubFault_taints _ (.inl rfl)]
      simp [State.withCursor]
    case fau =>
      rw [takeFault_fau, recordOf_scrubFault]
      simp [State.withCursor, hfau, faultVital, scrubFault, bareFault]

/-- A shadow word that cannot be read breaks the region, and its failure is recorded. -/
theorem audit_unreadable {u t : State} {c : Cursor} {x : Option Cursor} {v : Nat} {rep : CheckReport} {data : Word}
    (ht : t = (u.withCursor x).audit c data) (hv : u.cursorShadow c = v) (hrep : rep = u.check true v (u.terms v))
    (hnone : rep.data = none) (hstate : u.ckc.ckState.get c.region = .valid ∨ u.ckc.ckState.get c.region = .copying)
    (hplain : u.heldIsPlain .heldBlock fun a => a.record.region = c.region) :
    t.planeP = u.planeP ∧ t.planeQ = u.planeQ ∧ t.sru = { (u.withRepair v rep).sru with cursor := x } ∧
      t.cau = u.cau ∧ t.ckc = u.ckc.shadowBroken u.rgd.table c.region ∧
      (u.ckc.ckState.get c.region = .valid → t.hbi = u.hbi) ∧
      (u.ckc.ckState.get c.region = .copying → t.hbi = u.hbi.released fun a => decide (a.record.region = c.region)) ∧
      t.fau = u.fau.take
        { kind := .checkpointFailed, also := some .uncorrectable, source := .engineScrub, word := some v
          region := some c.region, findings := some ⟨rep.qFinding, rep.pFinding, rep.distance⟩
          position := some ⟨c.region, .shadow, v / 128, c.offset⟩, vital := false
          epoch := u.cau.epoch, cycle := u.cau.cycle } := by
  have hkept : u.repair v (u.terms v) rep = u ∧ u.withRepair v rep = u := by
    rw [hrep] at hnone ⊢
    exact ⟨repair_bad hnone, withRepair_bad (check_bad hnone) v⟩
  obtain ⟨hrepair, hreported⟩ := hkept
  have haudit : t = ((u.withCursor x).shadowBreak c.region).takeFault
      { scrubFault .checkpointFailed v ⟨c.region, .shadow, v / 128, c.offset⟩ rep with
        also := some .uncorrectable } := by
    rw [ht]
    unfold State.audit
    dsimp only
    rw [withCursor_cursorShadow, hv, withCursor_terms, withCursor_check, ← hrep, hnone, repair_withCursor, hrepair]
    rfl
  obtain ⟨hckc, hcau, hfau, hvalid, hcopying⟩ := shadowBreak_ofAudit (s := u.withCursor x) hstate hplain
  rw [haudit, hreported]
  refine ⟨by simp [State.withCursor], by simp [State.withCursor], by simp [State.withCursor], ?cau, hckc, hvalid,
    hcopying, ?fau⟩
  case cau =>
    rw [takeFault_cau, hcau, scrubFault_taints _ (.inr rfl)]
    exact raise_nothing _
  case fau =>
    rw [takeFault_fau, hfau, recordOf_scrubFault, hcau]
    rfl

/-- Settles O41: the word's own check and repair, then the audit, by what the check of the shadow word found. -/
theorem scrubAudit : Obligations.ScrubAudit := by
  intro s u c d sb w v rep rep' data hs hon hc hd hck hsb hstate hD hS hw hv hwmem hvmem hoff hrep hdata hu hrep' hplain
  obtain rfl : w = c.word := hw
  subst hrep
  have hread : readWell s u c.word (s.terms c.word) (s.check true c.word (s.terms c.word)) data := by
    rw [hu]
    exact repair_readWell hs hdata
  have hshadow : s.cursorShadow c = v := by rw [cursorShadow_eq hd hsb, hv]
  have ha := audits_eq_true hdata (by simp [hasAttr, hd, hck]) hstate hD hS
  have hexec := exec_scrubWordCheck_audited hon hc hwmem (hshadow ▸ hvmem) ha
  obtain ⟨hckc, hrgd, hcau, hhbi, htxe⟩ :
      u.ckc = s.ckc ∧ u.rgd = s.rgd ∧ u.cau = s.cau ∧ u.hbi = s.hbi ∧ u.txe = s.txe := by simp [hu]
  have hucan : u.canonical := hu ▸ repair_canonical hs _ _ _
  have hplace : u.physWord v = s.physWord v := by rw [hu, repair_physWord]
  have hterms : u.terms v = s.terms v := by rw [State.terms, State.terms, hrgd]
  have hushadow : u.cursorShadow c = v := by rw [cursorShadow_eq (hrgd ▸ hd) hsb, hv]
  have hposition : v / 128 = sb + (c.block - d.base) := by omega
  rw [← hterms] at hrep'
  have huplain : u.heldIsPlain .heldBlock fun a => a.record.region = c.region :=
    heldIsPlain_congr hhbi (by rw [htxe]) hplain
  obtain ⟨hP, hQ, htbus, htckc, htcau, htfau, htsru⟩ := scrubStep_ofCheck s c
  have htcheck := scrubCheck_audited hdata ha
  rw [← hu] at htcheck
  refine ⟨hread, by rw [hu]; apply State.ext <;> simp, _, hexec, ?sru, fun other hother => ?readable,
    fun hnone => ?unreadable, by apply State.ext <;> simp⟩
  case sru =>
    rw [htsru]
    cases hfound : rep'.data with
    | some other =>
      obtain ⟨-, hsru, -⟩ := audit_readable htcheck hucan hushadow hrep' hfound
      exact hsru
    | none =>
      obtain ⟨-, -, hsru, -⟩ := audit_unreadable htcheck hushadow hrep' hfound (hckc ▸ hstate) huplain
      exact hsru
  case readable =>
    obtain ⟨hwrote, -, hbus, hequal, hunequal⟩ := audit_readable htcheck hucan hushadow hrep' hother
    rw [hplace, hterms, hcau] at hwrote
    rw [htbus, hbus, htckc, htcau, htfau]
    refine ⟨wroteWord_congr hwrote hP hQ, hhbi, fun h => ?_, fun h => ?_⟩
    · obtain ⟨hf, hk, ht⟩ := hequal h
      exact ⟨hf, hk.trans hckc, ht.trans hcau⟩
    · obtain ⟨hk, ht, hf⟩ := hunequal h
      rw [hk, ht, hf, hcau, hrgd]
      exact ⟨addDirty_ckc_congr hckc hrgd c.block, rfl, by simp [hasAttr, hd]⟩
  case unreadable =>
    obtain ⟨haP, haQ, -, hacau, hackc, hvalid, hcopying, hafau⟩ :=
      audit_unreadable htcheck hushadow hrep' hnone (hckc ▸ hstate) huplain
    rw [hckc, hhbi] at hvalid hcopying
    rw [hckc, hrgd] at hackc
    obtain ⟨hstates, hrestore, hvalidSets, hcopyingSets⟩ := shadowBroken_ofAudit hd hstate
    rw [htckc, htcau, htfau, htbus, hP, hQ, hacau, hackc, hafau, hcau, hposition]
    refine ⟨haP, haQ, rfl, hstates, hrestore, fun h => ?valid, fun h => ?copying, rfl⟩
    case valid =>
      obtain ⟨hdirty, hpass⟩ := hvalidSets h
      exact ⟨hdirty, hpass, hvalid h⟩
    case copying =>
      obtain ⟨hpass, hdirty⟩ := hcopyingSets h
      rw [hcopying h]
      exact ⟨hpass, hdirty, fun a haccess hph hreg => released_held haccess hph (decide_eq_true hreg),
        fun hother => released_nobody fun a haccess hph => decide_eq_false (hother a haccess hph)⟩

end Sys2Proof.Machine
end

section
/-! PROOFS. The epoch, the cycle number, the last verdict and the load period change at a verdict, a REINIT and a reset alone (R24,
R117, R180, R181). -/
namespace Sys2Proof.Machine

/-! ### The counts of the verdicts -/

/-- What a verdict counts, and the local MARK it decides from. -/
structure Counts where
  epoch       : Count8
  cycle       : Count8
  lastVerdict : Verdict
  localMark   : Option Mark
  loadOpen    : Bool

/-- The counts, for a load period that is open or closed. -/
def Cau.counts (c : Cau) (loadOpen : Bool) : Counts := ⟨c.epoch, c.cycle, c.lastVerdict, c.localMark, loadOpen⟩

/-- The counts of the part. -/
def State.counts (s : State) : Counts := s.cau.counts s.rgd.loadOpen

/-- The counts a verdict leaves (R24, R117). -/
def Counts.decided (k : Counts) (v : Verdict) : Counts :=
  { epoch := k.epoch + 1, cycle := if v = .committed then k.cycle + 1 else k.cycle, lastVerdict := v, localMark := none
    loadOpen := if v = .committed then false else k.loadOpen }

/-! ### The operations that keep them -/

@[simp] theorem raiseCarry_counts (c : Cau) (ts : TaintSet) (l : Bool) : (c.raiseCarry ts).counts l = c.counts l := rfl

@[simp] theorem raise_counts (c : Cau) (ts : TaintSet) (l : Bool) : (c.raise ts).counts l = c.counts l := by
  unfold Cau.raise
  split <;> rfl

@[simp] theorem takeRetireFault_counts (s : State) (f : FaultReport) (l : Bool) :
    (s.takeRetireFault f).cau.counts l = s.cau.counts l := by
  rw [takeRetireFault_cau]
  split <;> simp

@[simp] theorem addDigest_counts (s : State) (x : BitVec 32) (l : Bool) :
    (s.addDigest x).cau.counts l = s.cau.counts l := rfl

@[simp] theorem addDigestIf_counts (s : State) (c : Bool) (x : BitVec 32) (l : Bool) :
    (s.addDigestIf c x).cau.counts l = s.cau.counts l := by
  rw [addDigestIf_cau]
  rfl

@[simp] theorem takeMarker_counts (s : State) (a : Access) (v : Word) (l : Bool) :
    (s.takeMarker a v).cau.counts l = s.cau.counts l := by
  rw [takeMarker_cau]
  rfl

@[simp] theorem startDeadline_counts (s : State) (l : Bool) : s.startDeadline.cau.counts l = s.cau.counts l := rfl

@[simp] theorem markerCheck_counts (s : State) (a : Access) (l : Bool) : (s.markerCheck a).cau.counts l = s.cau.counts l := by
  unfold State.markerCheck
  split <;> simp

@[simp] theorem retireCheck_counts (s : State) (a : Access) (l : Bool) : (s.retireCheck a).cau.counts l = s.cau.counts l := by
  unfold State.retireCheck
  split <;> simp

@[simp] theorem holdCheck_counts (s : State) (a : Access) (l : Bool) : (s.holdCheck a).cau.counts l = s.cau.counts l := by
  unfold State.holdCheck
  split <;> simp

@[simp] theorem releaseHeld_counts (s : State) (p : Access → Bool) (l : Bool) :
    (s.releaseHeld p).cau.counts l = s.cau.counts l := by
  unfold State.releaseHeld
  split
  · split <;> simp
  · rfl

@[simp] theorem releaseRetire_counts (s : State) (b : Nat) (l : Bool) :
    (s.releaseRetire b).cau.counts l = s.cau.counts l := by
  unfold State.releaseRetire
  split
  · split <;> simp
  · rfl

@[simp] theorem blockMoved_counts (s : State) (m : Move) (r : Region) (b : Nat) (l : Bool) :
    (s.blockMoved m r b).cau.counts l = s.cau.counts l := by simp [State.blockMoved]

@[simp] theorem shadowBreak_counts (s : State) (r : Region) (l : Bool) :
    (s.shadowBreak r).cau.counts l = s.cau.counts l := by
  unfold State.shadowBreak
  split <;> simp [State.breakPass]

@[simp] theorem moveFailed_counts (s : State) (m : Move) (r : Region) (b : Nat) (pos : Position) (w : Nat)
    (rep : CheckReport) (l : Bool) : (s.moveFailed m r b pos w rep).cau.counts l = s.cau.counts l := by
  cases m <;> simp [State.moveFailed]

@[simp] theorem reportBadWord_counts (s : State) (a : Access) (src : Source) (rep : CheckReport) (l : Bool) :
    (s.reportBadWord a src rep).cau.counts l = s.cau.counts l := by simp [State.reportBadWord]

@[simp] theorem retireFails_counts (s : State) (o : RetireOp) (w : Nat) (rep : CheckReport) (l : Bool) :
    (s.retireFails o w rep).cau.counts l = s.cau.counts l := by
  unfold State.retireFails
  cases o.part <;> simp [-takeRetireFault_cau]

@[simp] theorem retireCompletes_counts (s : State) (o : RetireOp) (l : Bool) :
    (s.retireCompletes o).cau.counts l = s.cau.counts l := by simp [State.retireCompletes]

@[simp] theorem audit_counts (s : State) (c : Cursor) (d : Word) (l : Bool) :
    (s.audit c d).cau.counts l = s.cau.counts l := by
  unfold State.audit
  dsimp only
  split
  · split <;> simp
  · simp

@[simp] theorem scrubCheck_counts (s : State) (c : Cursor) (l : Bool) :
    (s.scrubCheck c).cau.counts l = s.cau.counts l := by
  unfold State.scrubCheck
  dsimp only
  split
  · split <;> simp
  · simp [State.scrubBadWord]

@[simp] theorem startRestore_counts (s : State) (r : Region) (l : Bool) :
    (s.startRestore r).cau.counts l = s.cau.counts l := by
  unfold State.startRestore
  (repeat' split) <;> simp

@[simp] theorem entriesStarted_counts (s : State) (m : Move) (l : Bool) :
    (s.entriesStarted m).cau.counts l = s.cau.counts l := by rw [entriesStarted_cau]

@[simp] theorem abandonRetire_counts (s : State) (m : Move) (l : Bool) :
    (s.abandonRetire m).cau.counts l = s.cau.counts l := by
  unfold State.abandonRetire
  dsimp only
  (repeat' split) <;> simp

@[simp] theorem startPasses_counts (s : State) (m : Move) (l : Bool) :
    (s.startPasses m).cau.counts l = s.cau.counts l := by simp [startPasses_eq]

/-! ### The groups and the commands that keep them -/

/-- A next state the answer gives has the counts of `s`. -/
def keepsCounts (s : State) (x : Answer) : Prop := ∀ t, x = .next t → t.counts = s.counts

theorem keepsCounts_next {s t : State} (h : t.counts = s.counts) : keepsCounts s (.next t) := fun u hu => by
  obtain rfl := Host.Outcome.next.inj hu
  exact h

theorem keepsCounts_self (s : State) : keepsCounts s (.next s) := keepsCounts_next rfl

theorem onPort_keepsCounts {s : State} {ready : Bool} {addrs : List Nat} {f : State → State}
    (hf : (f s).counts = s.counts) : keepsCounts s (onPort s ready addrs f) := fun _ ht => onPort_field State.counts ht hf

theorem command_keepsCounts (s : State) (code : Nat) (ops : List Unit16) {f : State → State}
    (hf : ∀ m, (f { s with mli := m }).counts = s.counts) : keepsCounts s (.next (s.command code ops f)) :=
  keepsCounts_next (command_field State.counts s code ops f hf)

theorem readGroup_counts (s : State) (a : Access) : (s.readGroup a).counts = s.counts := by
  unfold State.readGroup
  dsimp only
  split <;> simp [State.counts]

theorem plainWrite_counts (s : State) (a : Access) (d : Word) : (s.plainWrite a d).counts = s.counts := by
  simp [State.counts, State.plainWrite]

theorem agreedWrite_counts (s : State) (a : Access) (d : Word) : (s.agreedWrite a d).counts = s.counts := by
  unfold State.agreedWrite
  dsimp only
  split <;> simp [State.counts, -addDigest_cau]

theorem byteWrite_counts (s : State) (a : Access) (l : Lane) (b : BitVec 8) : (s.byteWrite a l b).counts = s.counts := by
  unfold State.byteWrite
  dsimp only
  split <;> simp [State.counts]

theorem lockedRead_counts (s : State) (a : Access) : (s.lockedRead a).counts = s.counts := by
  unfold State.lockedRead
  dsimp only
  split
  · split <;> simp [State.counts, State.openLocked]
  · simp [State.counts]

theorem lockedWrite_counts (s : State) (a : Access) (h : WriteHalf) : (s.lockedWrite a h).counts = s.counts := by
  simp [State.counts, State.lockedWrite]

theorem writeVerdictWord_counts (s : State) (a : Access) : (s.writeVerdictWord a).counts = s.counts := by
  rw [State.counts, State.writeVerdictWord, releasePort_cau, releasePort_rgd]
  rfl

theorem moveRead_counts (s : State) (m : Move) (p : PassPos) : (s.moveRead m p).counts = s.counts := by
  unfold State.moveRead
  dsimp only
  split <;> simp [State.counts, State.moveReadFails]

theorem moveWrite_counts (s : State) (m : Move) (p : PassPos) (e : FifoEntry) : (s.moveWrite m p e).counts = s.counts := by
  unfold State.moveWrite
  dsimp only
  split
  · simp [State.counts]
  · split <;> simp [State.counts]

theorem retireRead_counts (s : State) (o : RetireOp) : (s.retireRead o).counts = s.counts := by
  unfold State.retireRead
  dsimp only
  split <;> simp [State.counts]

theorem retireWrite_counts (s : State) (o : RetireOp) (e : FifoEntry) : (s.retireWrite o e).counts = s.counts := by
  unfold State.retireWrite
  dsimp only
  split
  · simp [State.counts]
  · split <;> simp [State.counts]

theorem clearStep_counts (s : State) (o : ClearOp) (w : Nat) : (s.clearStep o w).counts = s.counts := by
  unfold State.clearStep
  dsimp only
  split
  · split <;> simp [State.counts]
  · split <;> simp [State.counts, State.startClearDone]

theorem scrubStep_counts (s : State) (c : Cursor) : (s.scrubStep c).counts = s.counts := by
  simp [State.counts, State.scrubStep]

theorem accessGroup_keepsCounts {s : State} {g : Grant} {p : AccessOp → Bool} {f : Access → State → State}
    (hf : ∀ a, (f a s).counts = s.counts) : keepsCounts s (s.accessGroup g p f) := fun _ ht =>
  accessGroup_field State.counts ht hf

theorem execProcPlainWriteGroup_keepsCounts (s : State) : keepsCounts s (execProcPlainWriteGroup s) := by
  unfold execProcPlainWriteGroup
  split
  · exact onPort_keepsCounts (plainWrite_counts s _ _)
  · exact keepsCounts_self s

theorem execProcAgreedWriteGroup_keepsCounts (s : State) : keepsCounts s (execProcAgreedWriteGroup s) := by
  unfold execProcAgreedWriteGroup
  split
  · exact onPort_keepsCounts (agreedWrite_counts s _ _)
  · exact keepsCounts_self s

theorem execProcByteWriteGroup_keepsCounts (s : State) : keepsCounts s (execProcByteWriteGroup s) := by
  unfold execProcByteWriteGroup
  split
  · exact onPort_keepsCounts (byteWrite_counts s _ _ _)
  · exact keepsCounts_self s

theorem execLockedWriteHalfGroup_keepsCounts (s : State) : keepsCounts s (execLockedWriteHalfGroup s) := by
  unfold execLockedWriteHalfGroup
  split
  · exact onPort_keepsCounts (lockedWrite_counts s _ _)
  · exact keepsCounts_self s

theorem execVerdictWordWrite_keepsCounts (s : State) : keepsCounts s (execVerdictWordWrite s) := by
  unfold execVerdictWordWrite
  split
  · exact onPort_keepsCounts (writeVerdictWord_counts s _)
  · exact keepsCounts_self s

theorem moveReadStep_keepsCounts (m : Move) (s : State) : keepsCounts s (moveReadStep m s) := by
  unfold moveReadStep
  split
  · exact onPort_keepsCounts (moveRead_counts s m _)
  · exact keepsCounts_self s

theorem moveWriteStep_keepsCounts (m : Move) (s : State) : keepsCounts s (moveWriteStep m s) := by
  unfold moveWriteStep
  split
  · exact onPort_keepsCounts (moveWrite_counts s m _ _)
  · exact keepsCounts_self s

theorem execRetireWordRead_keepsCounts (s : State) : keepsCounts s (execRetireWordRead s) := by
  unfold execRetireWordRead
  split
  · exact onPort_keepsCounts (retireRead_counts s _)
  · exact keepsCounts_self s

theorem execRetireWordWrite_keepsCounts (s : State) : keepsCounts s (execRetireWordWrite s) := by
  unfold execRetireWordWrite
  split
  · exact onPort_keepsCounts (retireWrite_counts s _ _)
  · exact keepsCounts_self s

theorem execClearWrite_keepsCounts (s : State) : keepsCounts s (execClearWrite s) := by
  unfold execClearWrite
  split
  · exact onPort_keepsCounts (clearStep_counts s _ _)
  · exact keepsCounts_self s

theorem execScrubWordCheck_keepsCounts (s : State) : keepsCounts s (execScrubWordCheck s) := by
  unfold execScrubWordCheck
  split
  · split
    · exact onPort_keepsCounts (scrubStep_counts s _)
    · exact keepsCounts_next (by simp [State.counts])
  · exact keepsCounts_self s

theorem execDiagnosticRead_keepsCounts (s : State) : keepsCounts s (execDiagnosticRead s) := by
  unfold execDiagnosticRead
  split
  · exact onPort_keepsCounts (by simp [State.counts])
  · exact keepsCounts_self s

theorem take_counts (s : State) (c : BusCycle) : (s.take c).counts = s.counts := by
  rw [State.counts, take_rgd, State.counts]
  unfold State.take
  dsimp only
  split
  · simp
  · split <;> simp

theorem takeRetire_counts (s : State) (b : Nat) : (s.takeRetire b).counts = s.counts := by
  unfold State.takeRetire
  (repeat' split) <;> simp [State.counts]

theorem install_counts (s : State) (d : Option Descriptor) : (s.install d).counts = s.counts := by
  have hhold : (s.installHold d).counts = s.counts := by
    unfold State.installHold
    dsimp only
    split <;> simp [State.counts, Rgd.install, Rgd.discard]
  unfold State.install
  split
  · split
    · rfl
    · exact hhold
  · rfl

theorem takeField_counts (s : State) (v : Unit16) : (s.takeField v).counts = s.counts := by
  unfold State.takeField
  split
  · exact install_counts s none
  · split
    · rfl
    · split
      · exact install_counts _ _
      · rfl

theorem startRun_counts (s : State) : s.startRun.counts = s.counts := by
  rw [State.counts, State.startRun, settle_cau, settle_rgd]
  rfl

theorem execUnknownCommand_keepsCounts (code : Unit16) (s : State) : keepsCounts s (execUnknownCommand code s) := by
  unfold execUnknownCommand
  split
  · exact keepsCounts_self s
  · exact command_keepsCounts s _ _ fun _ => rfl

theorem execLoadRemap_keepsCounts (n : Unit16) (es : List RemapOperand) (s : State) :
    keepsCounts s (execLoadRemap n es s) := by
  unfold execLoadRemap
  split
  · exact command_keepsCounts s _ _ fun _ => rfl
  · exact command_keepsCounts s _ _ fun _ => by unfold State.loadRemap; (repeat' split) <;> rfl

/-- The commands that may issue a verdict: the fixing of the local kind, the agreement timer, and the twin link's frames. -/
def issuesVerdict : Instr → Bool
  | .fixLocalKind | .agreementTimerExpiry | .twinFrameReceived _ | .twinLineIdleTimeout => true
  | _ => false

/-- The commands that put the counts at their power-on values. -/
def resetsCounts : Instr → Bool
  | .powerOn | .systemResetAssert | .internalResetEnd | .reinit => true
  | _ => false

/-- Every other command keeps the counts. -/
theorem exec_keepsCounts {c : Instr} (s : State) (hv : issuesVerdict c = false) (hr : resetsCounts c = false) :
    keepsCounts s (exec c s) := by
  cases c
  case accessPresented c => exact keepsCounts_next (by simp [State.counts])
  case takeAccess => exact keepsCounts_next (by (repeat' split) <;> simp [take_counts])
  case presentedAccessWithdrawn => exact keepsCounts_next rfl
  case accessWithdrawn => exact keepsCounts_next (by (repeat' split) <;> simp [State.counts])
  case lockedWriteHalfPresented c => exact keepsCounts_next (by simp [State.counts])
  case lockNegated o => exact keepsCounts_next (by split <;> simp [State.counts])
  case procReadGroup => exact accessGroup_keepsCounts (readGroup_counts s)
  case procPlainWriteGroup => exact execProcPlainWriteGroup_keepsCounts s
  case procAgreedWriteGroup => exact execProcAgreedWriteGroup_keepsCounts s
  case procByteWriteGroup => exact execProcByteWriteGroup_keepsCounts s
  case lockedReadHalfGroup => exact accessGroup_keepsCounts (lockedRead_counts s)
  case lockedWriteHalfGroup => exact execLockedWriteHalfGroup_keepsCounts s
  case copyWordRead => exact moveReadStep_keepsCounts .copy s
  case copyWordWrite => exact moveWriteStep_keepsCounts .copy s
  case restoreWordRead => exact moveReadStep_keepsCounts .restore s
  case restoreWordWrite => exact moveWriteStep_keepsCounts .restore s
  case retireWordRead => exact execRetireWordRead_keepsCounts s
  case retireWordWrite => exact execRetireWordWrite_keepsCounts s
  case clearWrite => exact execClearWrite_keepsCounts s
  case scrubWordCheck => exact execScrubWordCheck_keepsCounts s
  case diagnosticRead => exact execDiagnosticRead_keepsCounts s
  case retireTake => exact keepsCounts_next (by (repeat' split) <;> simp [takeRetire_counts])
  case scrubTimerExpiry => exact keepsCounts_next (by split <;> simp [State.counts])
  case verdictWordWrite => exact execVerdictWordWrite_keepsCounts s
  case cycleDeadlineExpiry =>
    refine keepsCounts_next ?_
    split
    · rw [State.counts, takeFault_cau, raise_counts]
      rfl
    · rfl
  case linkTimerExpiry => exact keepsCounts_next (by split <;> simp [State.counts])
  case idleFrameTimerExpiry => exact keepsCounts_next (by split <;> rfl)
  case transmitFrameEnd => exact keepsCounts_next (by (repeat' split) <;> rfl)
  case chipSelectAssert => exact keepsCounts_next (by split <;> rfl)
  case chipSelectNegate => exact keepsCounts_next rfl
  case unknownCommand code => exact execUnknownCommand_keepsCounts code s
  case loadRemap n es => exact execLoadRemap_keepsCounts n es s
  case getStatus => exact command_keepsCounts s _ _ fun _ => rfl
  case selectRegion e => exact command_keepsCounts s _ _ fun _ => by (repeat' split) <;> rfl
  case regionField v =>
    refine command_keepsCounts s _ _ fun m => ?_
    split
    · rfl
    · split
      · rfl
      · exact takeField_counts _ v
  case readRegion e => exact command_keepsCounts s _ _ fun _ => by split <;> rfl
  case setParam sel v => exact command_keepsCounts s _ _ fun _ => by (repeat' split) <;> rfl
  case readParam sel => exact command_keepsCounts s _ _ fun _ => by split <;> rfl
  case readRemap => exact command_keepsCounts s _ _ fun _ => rfl
  case start =>
    refine command_keepsCounts s _ _ fun m => ?_
    split
    · rfl
    · split
      · rfl
      · exact startRun_counts _
  case hold => exact command_keepsCounts s _ _ fun _ => by split <;> simp [State.counts]
  case release => exact command_keepsCounts s _ _ fun _ => by (repeat' split) <;> rfl
  case popFault => exact command_keepsCounts s _ _ fun _ => by split <;> rfl
  case peekFault => exact command_keepsCounts s _ _ fun _ => by split <;> rfl
  case readCounters => exact command_keepsCounts s _ _ fun _ => rfl
  case clearCounters => exact command_keepsCounts s _ _ fun _ => rfl
  case setAlarmMask m => exact command_keepsCounts s _ _ fun _ => by split <;> rfl
  case ackAlarm m => exact command_keepsCounts s _ _ fun _ => by split <;> rfl
  case enableVital => exact command_keepsCounts s _ _ fun _ => by split <;> rfl
  case requestRollback => exact command_keepsCounts s _ _ fun _ => by split <;> simp [State.counts]
  case retireBlock b => exact command_keepsCounts s _ _ fun _ => by dsimp only; (repeat' split) <;> simp [State.counts]
  case readWordRequest w => exact command_keepsCounts s _ _ fun _ => by (repeat' split) <;> simp [State.counts]
  case readWordCollection => exact command_keepsCounts s _ _ fun _ => by split <;> rfl
  case readEngine => exact command_keepsCounts s _ _ fun _ => rfl
  case fixLocalKind | agreementTimerExpiry | twinFrameReceived | twinLineIdleTimeout => exact Bool.noConfusion hv
  case powerOn | systemResetAssert | internalResetEnd | reinit => exact Bool.noConfusion hr

/-! ### What a verdict makes of them -/

theorem verdict_counts (s : State) (v : Verdict × Option FaultKind) : (s.verdict v).counts = s.counts.decided v.1 := by
  obtain ⟨v, k⟩ := v
  cases v <;> cases k <;> simp [State.verdict, State.counts] <;> rfl

/-- A step keeps the counts, or a verdict is issued, which takes the local MARK it decides from (R117, R124). -/
def countsAtMostOnce (s t : State) : Prop :=
  t.counts = s.counts ∨ s.cau.localMark ≠ none ∧ ∃ v, v ≠ .none ∧ t.counts = s.counts.decided v

theorem countsAtMostOnce_refl (s : State) : countsAtMostOnce s s := .inl rfl

theorem localMark_congr {s t : State} (h : t.counts = s.counts) : t.cau.localMark = s.cau.localMark :=
  congrArg Counts.localMark h

theorem localMark_decided {s t : State} {v : Verdict} (h : t.counts = s.counts.decided v) : t.cau.localMark = none :=
  congrArg Counts.localMark h

/-- One command issues one verdict at most: no local MARK is left for a second. -/
theorem countsAtMostOnce_trans {s t u : State} (hst : countsAtMostOnce s t) (htu : countsAtMostOnce t u) :
    countsAtMostOnce s u := by
  rcases htu with htu | ⟨hmark, v, hv, htu⟩
  · unfold countsAtMostOnce
    rwa [htu]
  · rcases hst with hst | ⟨-, w, -, hst⟩
    · exact .inr ⟨localMark_congr hst ▸ hmark, v, hv, hst ▸ htu⟩
    · exact absurd (localMark_decided hst) hmark

theorem decideVerdict_ne_none (mode : TwinMode) (c : Count8) (loc : Mark) (twin : Option Mark) :
    (decideVerdict mode c loc twin).1 ≠ .none := by
  unfold decideVerdict
  (repeat' split) <;> nofun

theorem timeoutVerdict_counts (s : State) (loc : Mark) : (s.timeoutVerdict loc).counts = s.counts.decided .failed :=
  verdict_counts s _

theorem slotMark_countsAtMostOnce (s : State) (m : Mark) : countsAtMostOnce s (s.slotMark m) := by
  unfold State.slotMark
  dsimp only
  split
  · exact .inl (by simp [State.counts])
  · split
    next loc hloc =>
      exact .inr ⟨by simp [hloc], _, decideVerdict_ne_none _ _ _ _, verdict_counts _ _⟩
    next => exact .inl rfl

theorem twinMark_countsAtMostOnce (s : State) (m : Mark) : countsAtMostOnce s (s.twinMark m) := by
  unfold State.twinMark
  split
  · exact countsAtMostOnce_refl s
  · split
    · exact .inl (by simp [State.counts])
    · split
      · exact slotMark_countsAtMostOnce s m
      · split <;> exact .inl (by simp [State.counts])

theorem frameDone_countsAtMostOnce (s : State) (us : List RxUnit) : countsAtMostOnce s (s.frameDone us) := by
  have hseen : countsAtMostOnce s s.linkSeen := .inl (by simp [State.counts])
  unfold State.frameDone
  split
  · exact hseen
  · exact countsAtMostOnce_trans hseen (twinMark_countsAtMostOnce _ _)
  · exact .inl (by simp [State.counts])

theorem closeIfFull_countsAtMostOnce (s : State) (us : List RxUnit) : countsAtMostOnce s (s.closeIfFull us) := by
  unfold State.closeIfFull
  split
  · exact countsAtMostOnce_refl s
  · split
    · exact frameDone_countsAtMostOnce { s with twl := { s.twl with rx := none } } _
    · exact .inl rfl

theorem rxUnit_countsAtMostOnce (s : State) (u : RxUnit) : countsAtMostOnce s (s.rxUnit u) := by
  unfold State.rxUnit
  split
  · exact closeIfFull_countsAtMostOnce s _
  · split
    · exact countsAtMostOnce_trans (frameDone_countsAtMostOnce { s with twl := { s.twl with rx := none } } _)
        (closeIfFull_countsAtMostOnce _ _)
    · exact closeIfFull_countsAtMostOnce s _

theorem foldl_rxUnit_countsAtMostOnce (us : List RxUnit) (s : State) : countsAtMostOnce s (us.foldl State.rxUnit s) := by
  induction us generalizing s with
  | nil => exact countsAtMostOnce_refl s
  | cons u us ih => exact countsAtMostOnce_trans (rxUnit_countsAtMostOnce s u) (ih _)

/-- The counts are kept, or those of a verdict, as the fixing of the local kind leaves them; the local MARK apart. -/
def countsOrVerdict (s t : State) : Prop :=
  ∃ loc, t.counts = { s.counts with localMark := loc } ∨ ∃ v, v ≠ .none ∧ t.counts = s.counts.decided v

theorem countsOrVerdict_of_atMostOnce {s t : State} (h : countsAtMostOnce s t) : countsOrVerdict s t :=
  ⟨s.cau.localMark, h.imp_right fun ⟨_, hv⟩ => hv⟩

theorem fixKind_countsOrVerdict (s : State) (h : HeldMarker) : countsOrVerdict s (s.fixKind h) := by
  cases hmode : s.mli.params.twinMode with
  | single =>
    have hfix : s.fixKind h = s.verdict (decideVerdict .single s.cau.cycle (s.formMark h) none) := by
      unfold State.fixKind
      dsimp only
      rw [hmode]
    rw [hfix]
    exact ⟨none, .inr ⟨_, decideVerdict_ne_none _ _ _ _, verdict_counts s _⟩⟩
  | paired =>
    cases hup : s.twl.linkUp with
    | false =>
      rw [fixKind_down h hmode hup]
      exact ⟨none, .inr ⟨.failed, nofun, timeoutVerdict_counts s _⟩⟩
    | true =>
      cases hslot : s.cau.slot with
      | none =>
        rw [fixKind_up h hmode hup hslot]
        exact ⟨some (s.formMark h), .inl rfl⟩
      | some twin =>
        rw [fixKind_slot h hmode hup hslot]
        exact ⟨none, .inr ⟨_, decideVerdict_ne_none _ _ _ _, verdict_counts _ _⟩⟩

theorem exec_countsOrVerdict {c : Instr} {s t : State} (hv : issuesVerdict c = true) (h : exec c s = .next t) :
    countsOrVerdict s t := by
  have hself : countsOrVerdict s s := countsOrVerdict_of_atMostOnce (countsAtMostOnce_refl s)
  cases c
  case fixLocalKind =>
    obtain rfl := Host.Outcome.next.inj h
    split
    · exact fixKind_countsOrVerdict s _
    · exact hself
  case agreementTimerExpiry =>
    obtain rfl := Host.Outcome.next.inj h
    split
    · split
      · exact ⟨none, .inr ⟨.failed, nofun, timeoutVerdict_counts s _⟩⟩
      · exact hself
    · exact hself
  case twinFrameReceived us =>
    obtain rfl := Host.Outcome.next.inj h
    split
    · exact hself
    · exact countsOrVerdict_of_atMostOnce (foldl_rxUnit_countsAtMostOnce us s)
  case twinLineIdleTimeout =>
    obtain rfl := Host.Outcome.next.inj h
    split
    · exact countsOrVerdict_of_atMostOnce (frameDone_countsAtMostOnce { s with twl := { s.twl with rx := none } } _)
    · exact hself
  all_goals exact Bool.noConfusion hv

/-! ### What a REINIT and a reset make of them -/

theorem execReinit_counts (s : State) :
    s.command 0x0A [] (fun s => (s.groupEnded.reinitialise).answer .done []) = s ∨
      (s.command 0x0A [] fun s => (s.groupEnded.reinitialise).answer .done []).counts = ⟨0, 0, .none, none, true⟩ :=
  (command_cases s _ _ _).imp_right (congrArg State.counts)

theorem exec_resetsCounts {c : Instr} {s t : State} (hr : resetsCounts c = true) (h : exec c s = .next t) :
    t = s ∨ t.counts = ⟨0, 0, .none, none, true⟩ := by
  cases c
  case powerOn => exact .inr (Host.Outcome.next.inj h ▸ rfl)
  case systemResetAssert => exact .inr (Host.Outcome.next.inj h ▸ rfl)
  case internalResetEnd =>
    obtain rfl := Host.Outcome.next.inj h
    split
    · exact .inr rfl
    · exact .inl rfl
  case reinit => exact Host.Outcome.next.inj h ▸ execReinit_counts s
  all_goals exact Bool.noConfusion hr

theorem counts_fields {t : State} {k : Counts} (h : t.counts = k) :
    t.cau.epoch = k.epoch ∧ t.cau.cycle = k.cycle ∧ t.cau.lastVerdict = k.lastVerdict ∧ t.rgd.loadOpen = k.loadOpen := by
  subst h
  exact ⟨rfl, rfl, rfl, rfl⟩

theorem issuesVerdict_iff {c : Instr} : issuesVerdict c = true ↔
    c = .fixLocalKind ∨ c = .agreementTimerExpiry ∨ c = .twinLineIdleTimeout ∨ ∃ us, c = .twinFrameReceived us := by
  cases c <;> simp [issuesVerdict]

theorem resetsCounts_iff {c : Instr} :
    resetsCounts c = true ↔ c = .reinit ∨ c = .powerOn ∨ c = .systemResetAssert ∨ c = .internalResetEnd := by
  cases c <;> simp [resetsCounts]

/-- Settles O13, by the kind of the command: it may issue a verdict, it resets the counts, or it keeps them. -/
theorem epochCountsVerdicts : Obligations.EpochCountsVerdicts := by
  intro c s t h
  by_cases hv : issuesVerdict c = true
  · obtain ⟨loc, hk | ⟨v, hne, hk⟩⟩ := exec_countsOrVerdict hv h
    · exact .inl (counts_fields hk)
    · obtain ⟨hepoch, hcycle, hlast, hload⟩ := counts_fields hk
      rw [hepoch, hcycle, hlast, hload]
      exact .inr (.inl ⟨issuesVerdict_iff.mp hv, rfl, hne, rfl, rfl⟩)
  · by_cases hr : resetsCounts c = true
    · rcases exec_resetsCounts hr h with rfl | hk
      · exact .inl ⟨rfl, rfl, rfl, rfl⟩
      · exact .inr (.inr ⟨resetsCounts_iff.mp hr, counts_fields hk⟩)
    · exact .inl (counts_fields (exec_keepsCounts s (eq_false_of_ne_true hv) (eq_false_of_ne_true hr) t h))

end Sys2Proof.Machine
end

section
/-! PROOFS. The verdict table, a marker in SINGLE mode, and the verdict word (R125, R133 to R138, R182). -/
namespace Sys2Proof.Machine

/-! ### The verdict table (R133) -/

/-- Row 1. -/
theorem decideVerdict_sequence {c : Count8} {loc : Mark} (h : loc.n ≠ c) (mode : TwinMode) (twin : Option Mark) :
    decideVerdict mode c loc twin = (.failed, some .sequence) := if_pos h

/-- Rows 2 and 3. -/
theorem decideVerdict_single (loc : Mark) (twin : Option Mark) :
    decideVerdict .single loc.n loc twin = (if loc.kind = .commit then .committed else .rolledBack, none) := by
  refine (if_neg (not_not.mpr rfl)).trans ?_
  cases loc.kind <;> rfl

/-- Rows 4 to 8. -/
theorem decideVerdict_paired (loc twin : Mark) :
    decideVerdict .paired loc.n loc (some twin) =
      if twin.n ≠ loc.n then (.failed, some .sequence)
      else if twin.tag ≠ loc.tag then (.failed, some .layout)
      else if loc.kind = .rollback ∨ twin.kind = .rollback then (.rolledBack, none)
      else if loc.digest ≠ twin.digest then (.failed, some .disagree)
      else (.committed, none) := if_neg (not_not.mpr rfl)

theorem markKind_ne_rollback {k : MarkKind} : k ≠ .rollback ↔ k = .commit := by cases k <;> decide

/-- The last row is reached by two COMMIT MARKs that agree in cycle number, tag and digest. -/
theorem decideVerdict_paired_committed (loc twin : Mark) :
    (decideVerdict .paired loc.n loc (some twin)).1 = .committed ↔
      twin.n = loc.n ∧ twin.tag = loc.tag ∧ twin.digest = loc.digest ∧ loc.kind = .commit ∧ twin.kind = .commit := by
  rw [decideVerdict_paired]
  by_cases hn : twin.n = loc.n
  case neg => simp [hn]
  by_cases ht : twin.tag = loc.tag
  case neg => simp [hn, ht]
  by_cases hk : loc.kind = .rollback ∨ twin.kind = .rollback
  case pos => rcases hk with hk | hk <;> simp [hn, ht, hk]
  by_cases hd : loc.digest = twin.digest
  case neg => simp [hn, ht, hk, hd, Ne.symm hd]
  obtain ⟨hl, hw⟩ := not_or.mp hk
  simp [hn, ht, hd, markKind_ne_rollback.mp hl, markKind_ne_rollback.mp hw]

/-- Rows 4 to 8 ask nothing that tells the two channels apart. -/
theorem decideVerdict_paired_comm (a b : Mark) :
    decideVerdict .paired a.n a (some b) = decideVerdict .paired b.n b (some a) := by
  rw [decideVerdict_paired, decideVerdict_paired]
  simp only [ne_comm (a := b.n), ne_comm (a := b.tag), ne_comm (a := b.digest), or_comm (a := b.kind = .rollback)]

/-- Settles O45, row by row. -/
theorem verdictTable : Obligations.VerdictTable := by
  refine ⟨fun mode c loc twin h => decideVerdict_sequence h mode twin, decideVerdict_single, decideVerdict_paired,
    fun c loc twin => ?committed, fun c c' a b ha hb => ?agree⟩
  case committed =>
    by_cases hn : loc.n = c
    · subst hn
      simp only [decideVerdict_paired_committed, true_and]
    · simp [decideVerdict_sequence hn, hn]
  case agree =>
    subst ha hb
    exact decideVerdict_paired_comm a b

/-! ### A marker in SINGLE mode (R125, R134, R135) -/

theorem fixKind_single {s : State} (h : HeldMarker) (hmode : s.mli.params.twinMode = .single) :
    s.fixKind h = s.verdict (decideVerdict .single s.cau.cycle (s.formMark h) none) := by
  unfold State.fixKind
  dsimp only
  rw [hmode]

/-- The local kind alone decides the current cycle. -/
theorem decideVerdict_formMark {s : State} {h : HeldMarker} (hn : h.n = s.cau.cycle) :
    decideVerdict .single s.cau.cycle (s.formMark h) none =
      (if h.kind = .commit ∧ s.cau.taint = TaintSet.empty then .committed else .rolledBack, none) := by
  have hmark : (s.formMark h).n = s.cau.cycle := hn
  rw [← hmark, decideVerdict_single, formMark_eq]
  by_cases hc : h.kind = .commit ∧ s.cau.taint = TaintSet.empty
  · rw [if_pos hc, if_pos rfl, if_pos hc]
  · rw [if_neg hc, if_neg nofun, if_neg hc]

/-- Settles O46: what every verdict does, at the COMMITTED one the table gives. -/
theorem cycleCommitted : Obligations.CycleCommitted := by
  intro s a h hm hh hl hidle hmode ha hph hkind hn htaint hp hap
  have heffect : VerdictEffect s (s.verdict (.committed, none)) .committed none a.record.region :=
    verdict_effect ⟨fun _ => rfl, nofun⟩ ha hph
  obtain ⟨hrgd, hfau⟩ := heffect.settled.1 rfl
  refine ⟨_, ?_, heffect.cau, hrgd, hfau, (heffect.passes hidle hp).1 rfl hap, heffect.frame⟩
  rw [exec_fixLocalKind hm hh hl hidle, fixKind_single h hmode, decideVerdict_formMark hn, if_pos ⟨hkind, htaint⟩]

/-- A marker that does not commit, by its cycle number. -/
theorem decideVerdict_notCommit {s : State} {h : HeldMarker}
    (hwhy : h.kind = .rollback ∨ s.cau.taint ≠ TaintSet.empty ∨ h.n ≠ s.cau.cycle) :
    decideVerdict .single s.cau.cycle (s.formMark h) none =
      (if h.n = s.cau.cycle then .rolledBack else .failed,
        if h.n = s.cau.cycle then none else some .sequence) := by
  by_cases hn : h.n = s.cau.cycle
  · have hno : ¬(h.kind = .commit ∧ s.cau.taint = TaintSet.empty) := by
      rintro ⟨hk, ht⟩
      rcases hwhy with hr | htaint | hne
      · exact MarkKind.noConfusion (hk.symm.trans hr)
      · exact htaint ht
      · exact hne hn
    rw [decideVerdict_formMark hn, if_neg hno, if_pos hn, if_pos hn]
  · rw [decideVerdict_sequence (loc := s.formMark h) hn, if_neg hn, if_neg hn]

/-- Settles O47: what every verdict does, at the one the table gives a marker that does not commit. -/
theorem cycleRolledBackOrFailed : Obligations.CycleRolledBackOrFailed := by
  intro s a h hm hh hl hidle hmode ha hph hwhy hp
  have hdecided := decideVerdict_notCommit hwhy
  have heffect := verdict_effect (decideVerdict_form hdecided.symm) ha hph
  have hne : (if h.n = s.cau.cycle then Verdict.rolledBack else .failed) ≠ .committed := by split <;> nofun
  obtain ⟨hrgd, hfau⟩ := heffect.settled.2 hne
  have hframe := heffect.frame
  rw [← hrgd] at hframe
  refine ⟨_, ?_, heffect.cau, hfau, (heffect.passes hidle hp).2 hne, hframe⟩
  rw [exec_fixLocalKind hm hh hl hidle, fixKind_single h hmode, hdecided]

/-! ### The verdict word (R136 to R138) -/

theorem verdictWord_toNat (v : Verdict) (c : Count8) : (verdictWord v c).toNat = 256 * v.code + c.toNat := by
  rw [verdictWord, ofBytes_toNat]
  cases v <;> rfl

theorem exec_verdictWordWrite {s : State} {a : Access} (hdue : s.cau.verdictDue = true) (ha : s.hbi.access = some a)
    (hph : a.phase = .heldMarker) (hg : s.mpt.grant = .processor) (hw : s.physWord a.word < s.memWords) :
    exec .verdictWordWrite s = .next (s.writeVerdictWord a) := by
  have hgranted : s.verdictGranted = some a := by
    unfold State.verdictGranted
    rw [ha]
    exact if_pos ⟨hdue, hg, hph⟩
  show execVerdictWordWrite s = _
  rw [execVerdictWordWrite, hgranted]
  simp [onPort, hw]

/-- The state in which the marker write has ended, its verdict word written, and the port is still to be released. -/
def State.verdictWritten (s : State) (a : Access) : State :=
  { s.writeWord a.word a.terms (verdictWord s.cau.lastVerdict s.cau.cycle) with
    hbi := s.ended a .ackWrite
    cau := { s.cau with
      marker := .opened, verdictDue := false
      deadlineTimer := if s.mli.params.deadline = 0 then none else some s.mli.params.deadline } }

theorem writeVerdictWord_eq (s : State) (a : Access) : s.writeVerdictWord a = (s.verdictWritten a).releasePort := rfl

/-- Settles O49: the word is written, the marker write ends, and the port is released with nobody on the processor side asking. -/
theorem verdictWordWritten : Obligations.VerdictWordWritten := by
  intro s a v hs hdue ha hph hg hw hv
  have hword : v = verdictWord s.cau.lastVerdict s.cau.cycle :=
    BitVec.eq_of_toNat_eq (hv.trans (verdictWord_toNat _ _).symm)
  refine ⟨_, exec_verdictWordWrite hdue ha hph hg hw, ?_⟩
  rw [writeVerdictWord_eq, hword]
  refine ⟨wrote_of_planes hs (releasePort_planeP _) (releasePort_planeQ _), releasePort_hbi _, releasePort_cau _,
    fun hactive => ?active, fun hactive hhighest => ?idle, ?frame⟩
  case active =>
    obtain ⟨-, hmpt⟩ := settle_active (s := { s.verdictWritten a with mpt := { s.mpt with grant := .none } }) hactive rfl
    exact hmpt
  case idle =>
    have hsettle := settle_idle (s := { s.verdictWritten a with mpt := { s.mpt with grant := .none } }) hactive hhighest rfl rfl
    exact congrArg State.mpt hsettle
  case frame => apply State.ext <;> simp [State.verdictWritten]

end Sys2Proof.Machine
end

section
/-! PROOFS. Bad frames of the twin link, its units one by one, the link timer and the transmitter (R127 to R129, R184). -/
namespace Sys2Proof.Machine

/-! ### The length a header fixes (R126, R184) -/

theorem frameLength_iff {u : RxUnit} {n : Nat} :
    frameLength u = some n ↔ u.first = true ∧ (u.data = 0xA501 ∧ n = 2 ∨ u.data = 0xA502 ∧ n = 7) := by
  unfold frameLength idleHeader markHeader
  cases u.first with
  | false => simp
  | true =>
    by_cases hidle : u.data = 0xA501#16
    · simp [hidle, eq_comm]
    · by_cases hmark : u.data = 0xA502#16
      · simp [hmark, eq_comm]
      · simp [hidle, hmark]

/-- No frame ends with its first unit. -/
theorem frameLength_ne_one (u : RxUnit) : frameLength u ≠ some 1 := by
  rw [ne_eq, frameLength_iff]
  omega

theorem closeIfFull_first (s : State) (u : RxUnit) : s.closeIfFull [u] = { s with twl := { s.twl with rx := some [u] } } :=
  if_neg (frameLength_ne_one u)

/-! ### Bad frames (R128) -/

/-- The state after a bad frame, with this frame open (R128, R184). -/
def State.badFrame (s : State) (rx : Option (List RxUnit)) : State :=
  { s with
    twl := { s.twl with rx := rx }
    fau := s.fau.take
      { kind := .linkFrame, also := none, source := .twinLink, word := none, region := none, findings := none
        position := none, vital := false, epoch := s.cau.epoch, cycle := s.cau.cycle } }

theorem frameDone_bad {us : List RxUnit} (h : judgeFrame us = none) (s : State) :
    State.frameDone { s with twl := { s.twl with rx := none } } us = s.badFrame none := by
  rw [State.frameDone, h]
  exact takeFault_twinLink _ _

theorem exec_twinLineIdleTimeout {s : State} {us : List RxUnit} (hrx : s.twl.rx = some us) :
    exec .twinLineIdleTimeout s = .next (State.frameDone { s with twl := { s.twl with rx := none } } us) := by
  show execTwinLineIdleTimeout s = _
  rw [execTwinLineIdleTimeout, hrx]

theorem exec_twinLineIdleTimeout_closed {s : State} (hrx : s.twl.rx = none) : exec .twinLineIdleTimeout s = .next s := by
  show execTwinLineIdleTimeout s = _
  rw [execTwinLineIdleTimeout, hrx]

/-! ### One unit (R184) -/

theorem exec_twinUnitReceived {s : State} (h : s.inReset = false) (u : RxUnit) :
    exec (.twinFrameReceived [u]) s = .next (s.rxUnit u) := by
  show execTwinFrameReceived [u] s = _
  rw [execTwinFrameReceived, h, if_neg Bool.false_ne_true, List.foldl_cons, List.foldl_nil]

theorem rxUnit_opens {s : State} (hrx : s.twl.rx = none) (u : RxUnit) :
    s.rxUnit u = { s with twl := { s.twl with rx := some [u] } } := by
  rw [State.rxUnit, hrx]
  exact closeIfFull_first s u

/-- A flagged unit completes a bad frame and opens the next. -/
theorem rxUnit_reopens {s : State} {us : List RxUnit} (hrx : s.twl.rx = some us) (hbad : judgeFrame us = none) {u : RxUnit}
    (hu : u.first = true) : s.rxUnit u = s.badFrame (some [u]) := by
  unfold State.rxUnit
  rw [hrx]
  dsimp only
  rw [if_pos hu, frameDone_bad hbad, closeIfFull_first]
  rfl

/-! ### The link timer and the transmitter (R127, R129) -/

theorem exec_linkTimerExpiry {s : State} (hup : s.twl.linkUp = true) (ht : s.twl.linkTimer = true) :
    exec .linkTimerExpiry s = .next (s.linkChange false) := by
  show execLinkTimerExpiry s = _
  rw [execLinkTimerExpiry, if_pos (by rw [hup, ht, Bool.and_self])]

theorem exec_idleFrameTimerExpiry (s : State) :
    exec .idleFrameTimerExpiry s = .next
      (if s.twl.idleTimer = true ∧ s.twl.sending = none ∧ s.twl.waiting = none then
        { s with twl := { s.twl with sending := some .idle, idleTimer := false } }
      else s) := by
  show execIdleFrameTimerExpiry s = _
  simp only [execIdleFrameTimerExpiry, Bool.and_eq_true_iff, Option.isNone_iff_eq_none, and_assoc]

theorem exec_transmitFrameEnd_mark {s : State} {m : Mark} (hs : s.twl.sending ≠ none) (hw : s.twl.waiting = some m) :
    exec .transmitFrameEnd s = .next
      { s with twl := { s.twl with sending := some (.mark m), waiting := none, idleTimer := false } } := by
  obtain ⟨f, hf⟩ := Option.ne_none_iff_exists'.mp hs
  show execTransmitFrameEnd s = _
  rw [execTransmitFrameEnd, hf, hw]

theorem exec_transmitFrameEnd_idle {s : State} (hs : s.twl.sending ≠ none) (hw : s.twl.waiting = none) :
    exec .transmitFrameEnd s = .next { s with twl := { s.twl with sending := none, idleTimer := true } } := by
  obtain ⟨f, hf⟩ := Option.ne_none_iff_exists'.mp hs
  show execTransmitFrameEnd s = _
  rw [execTransmitFrameEnd, hf, hw]

/-- Settles O52: the receiver by what its next unit completes, then the two timers and the transmitter. -/
theorem linkTimers : Obligations.LinkTimers := by
  intro s bad hbad
  obtain rfl : bad = s.badFrame := hbad
  refine ⟨exec_twinLineIdleTimeout_closed, fun us hrx hj => ?_,
    fun hr => ⟨fun u hrx => ?_, fun u us hrx hj hu => ?_, fun u v us hrx hv => ⟨fun hlen hj => ?_, fun hlen => ?_⟩⟩,
    exec_linkTimerExpiry, fun ht hs hw => ?_, fun hno => ?_, fun m => exec_transmitFrameEnd_mark,
    exec_transmitFrameEnd_idle⟩
  · rw [exec_twinLineIdleTimeout hrx, frameDone_bad hj]
  · rw [exec_twinUnitReceived hr, rxUnit_opens hrx]
  · rw [exec_twinUnitReceived hr, rxUnit_reopens hrx hj hu]
  · rw [exec_twinUnitReceived hr, rxUnit_completes hrx hv (frameLength_iff.mpr hlen), frameDone_bad hj]
  · rw [exec_twinUnitReceived hr, rxUnit_joins hrx hv (mt frameLength_iff.mp hlen)]
  · rw [exec_idleFrameTimerExpiry, if_pos ⟨ht, hs, hw⟩]
  · rw [exec_idleFrameTimerExpiry, if_neg fun ⟨_, hs, hw⟩ => hno.elim (· hs) (· hw)]

end Sys2Proof.Machine
end

section
/-! PROOFS. ENABLE_VITAL, REQUEST_ROLLBACK and RETIRE_BLOCK (R121, R122, R149, R150, R168). -/
namespace Sys2Proof.Machine

/-- A command answered with no other effect. -/
theorem commanded_answer (s : State) (code : Nat) (ops : List Unit16) (st : Status) (data : List Unit16) :
    (s.commanded code ops).answer st data = { s with mli := s.replied code ops (unit st.code :: data) } := rfl

@[simp] theorem commanded_runOrHold (s : State) (code : Nat) (ops : List Unit16) :
    (s.commanded code ops).runOrHold = s.runOrHold := rfl

/-! ### ENABLE_VITAL (R168) -/

theorem exec_enableVital {s : State} (h : s.listens) :
    exec .enableVital s = .next
      (if s.mli.control = .run ∧ s.fau.qualified = true then
        State.answer { s.commanded 0x13 [] with fau := { s.fau with ven := true, latch := false } } .done []
      else (s.commanded 0x13 []).answer .wrongState []) := congrArg Host.Outcome.next (command_of_listens h _ _ _)

/-! ### REQUEST_ROLLBACK (R121, R122) -/

theorem exec_requestRollback {s : State} (h : s.listens) :
    exec .requestRollback s = .next
      (if (s.commanded 0x14 []).runOrHold then
        State.answer { s.commanded 0x14 [] with cau := s.cau.raise { TaintSet.empty with maint := true } } .done []
      else (s.commanded 0x14 []).answer .wrongState []) := congrArg Host.Outcome.next (command_of_listens h _ _ _)

theorem union_maint (t : TaintSet) : t.union { TaintSet.empty with maint := true } = { t with maint := true } := by
  simp [TaintSet.union, TaintSet.empty]

theorem raise_maint_free {c : Cau} (h : c.localMark = none) :
    c.raise { TaintSet.empty with maint := true } = { c with taint := { c.taint with maint := true } } := by
  rw [Cau.raise, if_neg (by simp [h]), union_maint]

theorem raise_maint_fixed {c : Cau} (h : c.localMark ≠ none) :
    c.raise { TaintSet.empty with maint := true } = { c with carry := { c.carry with maint := true } } := by
  rw [Cau.raise, if_pos (Option.isSome_iff_ne_none.mpr h), Cau.raiseCarry, union_maint]

/-! ### RETIRE_BLOCK (R149, R150) -/

theorem exec_retireBlock {s : State} (h : s.listens) (b : Unit16) :
    exec (.retireBlock b) s = .next
      (if !(s.commanded 0x15 [b]).runOrHold then (s.commanded 0x15 [b]).answer .wrongState []
      else if (ownerOf s.rgd.table b.toNat).isNone then (s.commanded 0x15 [b]).badOperand
      else ((s.commanded 0x15 [b]).requestRetire b.toNat (b.toNat * 128)).answer
        (if (s.commanded 0x15 [b]).retireQueueFull b.toNat then .busy else .done) []) :=
  congrArg Host.Outcome.next (command_of_listens h _ _ _)

theorem exec_retireBlock_owned {s : State} {b : Unit16} (h : s.listens) (hc : s.mli.control = .run ∨ s.mli.control = .hold)
    (ho : ownerOf s.rgd.table b.toNat ≠ none) :
    exec (.retireBlock b) s = .next (((s.commanded 0x15 [b]).requestRetire b.toNat (b.toNat * 128)).answer
      (if (s.commanded 0x15 [b]).retireQueueFull b.toNat then .busy else .done) []) := by
  rw [exec_retireBlock h, commanded_runOrHold, (runOrHold_iff s).mpr hc, if_neg (by decide),
    if_neg (mt Option.isNone_iff_eq_none.mp ho)]

theorem retireQueueFull_iff {s : State} {b : Nat} :
    s.retireQueueFull b = true ↔ b ∉ s.sru.retireQueue ∧ 4 ≤ s.sru.retireQueue.length := by
  rw [State.retireQueueFull, Bool.and_eq_true_iff, Bool.not_eq_true', Bool.not_eq_true', decide_eq_false_iff_not,
    decide_eq_false_iff_not, not_lt]
  rfl

/-- A retirement whose request is dropped (R149, R150). -/
theorem requestRetire_answer_full {u : State} {b : Nat} (hb : b ∉ u.sru.retireQueue) (hl : u.sru.retireQueue.length = 4) :
    (u.requestRetire b (b * 128)).answer (if u.retireQueueFull b then .busy else .done) [] =
      State.answer { u with fau := u.fau.take (u.recordOf (retireFault u.rgd.table .retireQueueFull b (b * 128))) }
        .busy [] := by
  rw [requestRetire_full hb (by omega), if_pos (retireQueueFull_iff.mpr ⟨hb, by omega⟩)]
  apply State.ext
  case cau => exact retireFault_cau u _ _ _ (.inl rfl)
  all_goals rfl

/-- Settles O60, each command by the control state; a retirement then by its owner and the retire queue. -/
theorem requestCommands : Obligations.RequestCommands := by
  intro s h
  refine ⟨fun hc hq => ?_, fun hno => ?_, fun hc => ⟨fun hl => ?_, fun hl => ?_⟩, fun hc => ⟨?_, fun b => ?_⟩,
    fun b hc => ⟨fun ho => ?_, fun ho => ⟨fun hb => ?queued, fun hb hl => ?room, fun hb hl => ?full⟩⟩⟩
  · rw [exec_enableVital h, if_pos ⟨hc, hq⟩]
    rfl
  · have hrefused : ¬(s.mli.control = .run ∧ s.fau.qualified = true) := fun ⟨hc, hq⟩ =>
      hno.elim (· hc) fun hf => Bool.noConfusion (hf.symm.trans hq)
    rw [exec_enableVital h, if_neg hrefused]
    rfl
  · rw [exec_requestRollback h, commanded_runOrHold, if_pos ((runOrHold_iff s).mpr hc), raise_maint_free hl]
    rfl
  · rw [exec_requestRollback h, commanded_runOrHold, if_pos ((runOrHold_iff s).mpr hc), raise_maint_fixed hl]
    rfl
  · rw [exec_requestRollback h, commanded_runOrHold, runOrHold_false hc, if_neg Bool.false_ne_true, commanded_answer]
    rfl
  · rw [exec_retireBlock h, commanded_runOrHold, runOrHold_false hc, if_pos (by decide), commanded_answer]
    rfl
  · rw [exec_retireBlock h, commanded_runOrHold, (runOrHold_iff s).mpr hc, if_neg (by decide), if_pos (by rw [ho]; rfl)]
    rfl
  case queued =>
    have hfree : ¬(s.commanded 0x15 [b]).retireQueueFull b.toNat = true := fun hf => (retireQueueFull_iff.mp hf).1 hb
    rw [exec_retireBlock_owned h hc ho, if_neg hfree, requestRetire_queued (s := s.commanded 0x15 [b]) hb]
    rfl
  case room =>
    have hfree : ¬(s.commanded 0x15 [b]).retireQueueFull b.toNat = true := fun hf =>
      absurd hl (not_lt.mpr (retireQueueFull_iff.mp hf).2)
    rw [exec_retireBlock_owned h hc ho, if_neg hfree, requestRetire_room (s := s.commanded 0x15 [b]) hb hl]
    rfl
  case full =>
    rw [exec_retireBlock_owned h hc ho, requestRetire_answer_full (u := s.commanded 0x15 [b]) hb hl]
    exact ⟨_, s.recordOf (retireFault s.rgd.table .retireQueueFull b.toNat (b.toNat * 128)), rfl, rfl, rfl, rfl, rfl, rfl,
      rfl⟩

end Sys2Proof.Machine
end

section
/-! PROOFS. The frames of the twin link on the line, bit by bit, and a frame with one unit changed (R126, R183, R184). -/
namespace Sys2Proof.Machine

/-! ### A frame with one unit changed (R126) -/

theorem unitSum_cons (u : Unit16) (us : List Unit16) : unitSum (u :: us) = u.toNat + unitSum us := List.sum_cons

/-- A unit's change is the change of the sum. -/
theorem unitSum_set {us : List Unit16} {i : Nat} {u : Unit16} (h : us[i]? = some u) (d : Unit16) :
    unitSum (us.set i d) + u.toNat = unitSum us + d.toNat := by
  induction us generalizing i with
  | nil => cases h
  | cons v vs ih =>
    cases i with
    | zero =>
      obtain rfl := Option.some.inj h
      rw [List.set_cons_zero, unitSum_cons, unitSum_cons]
      omega
    | succ i =>
      have htail := ih (i := i) h
      rw [List.set_cons_succ, unitSum_cons, unitSum_cons]
      omega

/-- The frame check sees a change of one unit, which is no multiple of 65,536. -/
theorem checkPasses_set {us : List Unit16} {i : Nat} {u d : Unit16} (h : us[i]? = some u) (hd : d ≠ u)
    (hus : checkPasses us = true) : checkPasses (us.set i d) = false := by
  have hsum := unitSum_set h d
  have hne : d.toNat ≠ u.toNat := fun he => hd (BitVec.eq_of_toNat_eq he)
  have hdlt := d.isLt
  have hult := u.isLt
  rw [checkPasses, decide_eq_true_iff] at hus
  rw [checkPasses, decide_eq_false_iff_not]
  omega

theorem judgeFrame_checkFails {us : List RxUnit} (h : checkPasses (us.map (·.data)) = false) : judgeFrame us = none := by
  unfold judgeFrame
  split
  · rfl
  · refine if_neg ?_
    rintro ⟨-, -, hpasses⟩
    exact Bool.noConfusion (h.symm.trans hpasses)

theorem judgeFrame_changed {f : TwinFrame} {i : Nat} {u : RxUnit} {d : Unit16} (h : f.received[i]? = some u)
    (hd : d ≠ u.data) : judgeFrame (f.received.set i { u with data := d }) = none := by
  have hunit : f.units[i]? = some u.data := by rw [← received_data, List.getElem?_map, h, Option.map_some]
  have hpasses : checkPasses f.units = true := checkPasses_frameCheck f.body
  refine judgeFrame_checkFails ?_
  rw [List.map_set, received_data]
  exact checkPasses_set hunit hd hpasses

/-! ### One unit on the line (R183) -/

theorem dataBits_length (d : Unit16) : (dataBits d).length = 16 := by simp [dataBits]

theorem lineBits_length (first : Bool) (d : Unit16) : (lineBits first d).length = 19 := by simp [lineBits, dataBits_length]

/-- Bits of a number from bit k up, least significant first, are its value from there. -/
theorem foldr_testBit (x k n : Nat) :
    (List.range' k n).foldr (fun i m => 2 * m + (x.testBit i).toNat) 0 = x / 2 ^ k % 2 ^ n := by
  induction n generalizing k with
  | zero => simp [Nat.mod_one]
  | succ n ih =>
    rw [List.range'_succ, List.foldr_cons, ih, Nat.toNat_testBit, pow_succ' 2 n, Nat.mod_mul, Nat.div_div_eq_div_mul,
      ← pow_succ, Nat.add_comm]

theorem bitsValue_dataBits (d : Unit16) : bitsValue (dataBits d) = d.toNat := by
  have hvalue := foldr_testBit d.toNat 0 16
  rw [pow_zero, Nat.div_one, Nat.mod_eq_of_lt d.isLt, ← List.range_eq_range'] at hvalue
  rw [bitsValue, dataBits, List.foldl_reverse, List.foldr_map]
  exact hvalue

theorem sampleUnit_lineBits (first : Bool) (d : Unit16) : sampleUnit (lineBits first d) = some ⟨first, d, true⟩ := by
  have hlength : (dataBits d ++ [true]).length = 17 := by simp [dataBits_length]
  have htake : (dataBits d ++ [true]).take 16 = dataBits d := List.take_left' (dataBits_length d)
  rw [lineBits, sampleUnit, if_pos hlength, htake, bitsValue_dataBits, BitVec.ofNat_toNat, BitVec.setWidth_eq,
    List.getLast?_concat, Option.getD_some]

/-! ### A frame on the line (R183, R184) -/

/-- The bits that a unit, as it is received, stands for. -/
def unitLine (u : RxUnit) : List Bool := lineBits u.first u.data

theorem bits_eq (f : TwinFrame) : f.bits = f.received.flatMap unitLine := by
  have hcons : ∃ h t, f.units = h :: t := by cases f <;> exact ⟨_, _, rfl⟩
  obtain ⟨h, t, hunits⟩ := hcons
  rw [TwinFrame.bits, TwinFrame.received, hunits]
  simp [List.flatMap_map, unitLine]

theorem received_stop (f : TwinFrame) : ∀ u ∈ f.received, u.stop = true := by
  cases f <;> simp [TwinFrame.received, TwinFrame.units, TwinFrame.body]

theorem flatMap_line_length (us : List RxUnit) : (us.flatMap unitLine).length = 19 * us.length := by
  induction us with
  | nil => rfl
  | cons u us ih =>
    rw [List.flatMap_cons, List.length_append, ih, unitLine, lineBits_length, List.length_cons]
    omega

theorem received_length (f : TwinFrame) : f.received.length = f.units.length := by rw [← received_data, List.length_map]

theorem bits_length (f : TwinFrame) : f.bits.length = 19 * f.units.length := by
  rw [bits_eq, flatMap_line_length, received_length]

theorem transmitLine_sending {s : State} {f : TwinFrame} (h : s.twl.sending = some f) (n : Nat) :
    s.transmitLine n = f.bits.getD n true := by
  unfold State.transmitLine
  rw [h]

theorem transmitLine_idle {s : State} (h : s.twl.sending = none) (n : Nat) : s.transmitLine n = true := by
  unfold State.transmitLine
  rw [h]

/-- The line carries the frame from its first bit, and idles after its last. -/
theorem map_transmitLine {s : State} {f : TwinFrame} (h : s.twl.sending = some f) (n : Nat) :
    (List.range (f.bits.length + n)).map s.transmitLine = f.bits ++ List.replicate n true := by
  refine List.ext_getElem (by simp) fun j hj _ => ?_
  rw [List.getElem_map, List.getElem_range, transmitLine_sending h, List.getElem_append]
  split
  next hlt => exact List.getD_eq_getElem _ _ hlt
  next hge => rw [List.getElem_replicate, List.getD_eq_default _ _ (not_lt.mp hge)]

/-! ### The receiver on the line (R183) -/

theorem sampleLine_idles (fuel i : Nat) (l : List Bool) :
    sampleLine (i + fuel) (List.replicate i true ++ l) = sampleLine fuel l := by
  induction i with
  | zero => rw [Nat.zero_add, List.replicate_zero, List.nil_append]
  | succ i ih =>
    rw [Nat.succ_add, List.replicate_succ, List.cons_append]
    exact ih

theorem sampleLine_silent (fuel n : Nat) : sampleLine fuel (List.replicate n true) = [] := by
  induction fuel generalizing n with
  | zero => rfl
  | succ fuel ih =>
    cases n with
    | zero => rfl
    | succ n => exact ih n

theorem sampleLine_unit (fuel : Nat) {u : RxUnit} (hu : u.stop = true) (l : List Bool) :
    sampleLine (fuel + 1) (unitLine u ++ l) = u :: sampleLine fuel l := by
  obtain ⟨first, d, stop⟩ := u
  obtain rfl : stop = true := hu
  have hlength : (first :: (dataBits d ++ [true])).length = 18 := by simp [dataBits_length]
  have hsample : sampleUnit (false :: first :: (dataBits d ++ [true])) = some ⟨first, d, true⟩ := sampleUnit_lineBits first d
  show sampleLine (fuel + 1) (false :: ((first :: (dataBits d ++ [true])) ++ l)) = _
  rw [sampleLine, List.take_left' hlength, List.drop_left' hlength, hsample]
  rfl

/-- Units sent without a gap are sampled one by one, and nothing after them. -/
theorem sampleLine_units {us : List RxUnit} (hus : ∀ u ∈ us, u.stop = true) {fuel : Nat} (hfuel : us.length ≤ fuel) (n : Nat) :
    sampleLine fuel (us.flatMap unitLine ++ List.replicate n true) = us := by
  induction us generalizing fuel with
  | nil => exact sampleLine_silent fuel n
  | cons u us ih =>
    obtain ⟨hu, htail⟩ := List.forall_mem_cons.mp hus
    obtain ⟨k, rfl⟩ : ∃ k, fuel = k + 1 := ⟨fuel - 1, by rw [List.length_cons] at hfuel; omega⟩
    rw [List.flatMap_cons, List.append_assoc, sampleLine_unit k hu, ih htail (Nat.le_of_succ_le_succ hfuel)]

/-- A receiver on the line samples the units of the frame and nothing else, wherever it begins to look. -/
theorem sampleLine_frame {s : State} {f : TwinFrame} (h : s.twl.sending = some f) (i n : Nat) :
    sampleLine (i + f.bits.length + n)
      (List.replicate i true ++ (List.range (f.bits.length + n)).map s.transmitLine) = f.received := by
  have hfuel : f.received.length ≤ f.bits.length + n := by
    rw [bits_length, received_length]
    omega
  rw [map_transmitLine h, Nat.add_assoc, sampleLine_idles, bits_eq]
  rw [bits_eq] at hfuel
  exact sampleLine_units (received_stop f) hfuel n

/-- Settles O50: a frame by its judgement, a unit by its bits, and the line by the units it carries. -/
theorem twinFramesOnTheLine : Obligations.TwinFramesOnTheLine :=
  ⟨judgeFrame_received, fun _ _ _ _ => judgeFrame_changed, fun first d => ⟨lineBits_length first d, sampleUnit_lineBits first d⟩,
    fun _ i h => transmitLine_idle h i, fun _ f i n h =>
      ⟨bits_length f, fun hn => (transmitLine_sending h n).trans (List.getD_eq_default _ _ hn), sampleLine_frame h i n⟩⟩

end Sys2Proof.Machine
end

section
/-! PROOFS. The expiry of the scrub interval timer and of the cycle deadline timer (R138, R142, R143). -/
namespace Sys2Proof.Machine

/-! ### The scrub interval timer (R142, R143) -/

theorem scrubSuspended_iff (s : State) :
    s.scrubSuspended = true ↔ s.mli.control = .init ∨ s.mli.control = .hold ∨ s.cau.marker ≠ .opened := by
  simp [State.scrubSuspended, or_assoc]

theorem exec_scrubTimerExpiry (s : State) :
    exec .scrubTimerExpiry s = .next
      (if s.sru.scrubTimer ≠ none ∧ s.scrubSuspended = false ∧ s.txe.scrub = none then
        State.settle { s with txe := { s.txe with scrub := some ⟨s.mli.params.burst, false⟩ } }
      else s) := by
  show execScrubTimerExpiry s = _
  simp only [execScrubTimerExpiry, Bool.and_eq_true_iff, Bool.not_eq_true', Option.isSome_iff_ne_none,
    Option.isNone_iff_eq_none, and_assoc]

/-! ### The cycle deadline timer (R138) -/

theorem exec_cycleDeadlineExpiry (s : State) :
    exec .cycleDeadlineExpiry s = .next
      (if s.cau.deadlineTimer ≠ none then
        State.takeFault { s with cau := { s.cau with deadlineTimer := none } } (bareFault .cycleOverrun .marker)
      else s) := by
  show execCycleDeadlineExpiry s = _
  simp only [execCycleDeadlineExpiry, Option.isSome_iff_ne_none]

/-- A fault reported by its kind and source alone raises no taint (R162) and names no place. -/
theorem takeFault_bareFault (u : State) (k : FaultKind) (src : Source) :
    u.takeFault (bareFault k src) =
      { u with
        fau := u.fau.take
          { kind := k, also := none, source := src, word := none, region := none, findings := none
            position := none, vital := faultVital u.rgd.table k none, epoch := u.cau.epoch, cycle := u.cau.cycle } } := by
  have hnone : faultTaints u.rgd.table (bareFault k src) = ⟨false, false, false, false⟩ := by
    simp [faultTaints, bareFault]
  apply State.ext
  case cau => exact (takeFault_cau _ _).trans (by rw [hnone, raise_nothing])
  all_goals rfl

/-- Settles O44: the scrub timer by what suspends scrub, then the deadline timer by whether it runs. -/
theorem timersExpire : Obligations.TimersExpire := by
  intro s
  refine ⟨fun ht hc hm hslot => ?burst, fun hno => ?quiet, fun hd => ?overrun, fun hd => ?stopped⟩
  case burst =>
    have hgoes : s.scrubSuspended = false := Bool.eq_false_iff.mpr fun h => by simp [scrubSuspended_iff, hc, hm] at h
    rw [exec_scrubTimerExpiry, if_pos ⟨ht, hgoes, hslot⟩]
    refine ⟨_, rfl, scrub_left_of_unbegun (settle_unbegun _), ?_⟩
    apply State.ext <;> simp
  case quiet =>
    rw [exec_scrubTimerExpiry, if_neg]
    rintro ⟨ht, hgoes, hslot⟩
    have hopen := mt (scrubSuspended_iff s).mpr (Bool.eq_false_iff.mp hgoes)
    tauto
  case overrun =>
    rw [exec_cycleDeadlineExpiry, if_pos hd, takeFault_bareFault]
    rfl
  case stopped =>
    rw [exec_cycleDeadlineExpiry, if_neg (not_not.mpr hd)]

end Sys2Proof.Machine
end

section
/-! PROOFS. A retire copy complete: the spare in the remap table, the block at the spare, and the write held for the copy (R44, R155). -/
namespace Sys2Proof.Machine

/-! ### The remap table with a spare installed (R152, R155) -/

theorem remapInstall_eq (l : List RemapEntry) (b i : Nat) :
    remapInstall l b i =
      l.map (fun r => if r.live = true ∧ r.block = b then { r with live := false } else r) ++ [⟨b, i, true⟩] := by
  simp [remapInstall]

/-- The entry installed is the only LIVE one of its block. -/
theorem remapInstall_live {l : List RemapEntry} {b i : Nat} {e : RemapEntry} (he : e ∈ remapInstall l b i)
    (hl : e.live = true) (hb : e.block = b) : e = ⟨b, i, true⟩ := by
  rw [remapInstall_eq, List.mem_append, List.mem_singleton, List.mem_map] at he
  obtain ⟨r, -, rfl⟩ | rfl := he
  · split at hl
    next => cases hl
    next hold => rw [if_neg hold] at hb; exact absurd ⟨hl, hb⟩ hold
  · rfl

/-- A block lies at the spare just installed for it. -/
theorem physBlock_installed {t : State} {l : List RemapEntry} {b i : Nat} (h : t.sru.remap = remapInstall l b i) :
    t.physBlock b = t.mli.params.spareBase + i := by
  have hmem : (⟨b, i, true⟩ : RemapEntry) ∈ t.sru.remap := h ▸ List.mem_append_right _ (List.mem_singleton_self _)
  exact physBlock_remapped hmem rfl fun e he hl hb => remapInstall_live (h ▸ he) hl hb

/-- No spare named in the remap table is free. -/
theorem freeSpare_unnamed {t : State} {r : RemapEntry} (hr : r ∈ t.sru.remap) : t.freeSpare ≠ some r.spare := by
  intro h
  have hfree := List.find?_some h
  simp only [List.all_eq_true, decide_eq_true_eq] at hfree
  exact hfree r hr rfl

/-! ### The completion, up to the release of the held write (R155) -/

/-- A retire copy complete, with a write held for it still to be released. -/
def State.retireInstalled (s : State) (o : RetireOp) : State :=
  { s with
    txe := s.txe.dropRetire
    sru := { s.sru with
      remap := remapInstall s.sru.remap o.block o.spare
      history := s.sru.history.filter fun h => decide (h.word / 128 ≠ o.block)
      retireQueue := if s.sru.retireQueue.head? = some o.block then s.sru.retireQueue.tail else s.sru.retireQueue }
    fau := { s.fau with pending := { s.fau.pending with retired := true } } }

theorem retireCompletes_eq (s : State) (o : RetireOp) :
    s.retireCompletes o = (s.retireInstalled o).releaseRetire o.block := by
  unfold State.retireCompletes
  dsimp only
  rw [dequeue_eq]
  rfl

theorem retireInstalled_retireIdle {s : State} {o : RetireOp} (ha : s.txe.active = some .retire) :
    (s.retireInstalled o).txe.retireIdle := ⟨dropRetire_retire _, dropRetire_active ha⟩

theorem retireWrite_last {s : State} {o : RetireOp} {e : FifoEntry} (hfifo : s.txe.fifo = [e]) (ho : o.offset = 128) :
    s.retireWrite o e =
      (((s.retireDrained o e).retireInstalled o).releaseRetire o.block).engineSelectEnd s.procAsking := by
  have hend : ¬o.offset < Config.blockWords := by rw [ho]; exact Nat.lt_irrefl _
  rw [← retireCompletes_eq]
  exact (if_neg (show ¬s.txe.fifo.tail ≠ [] by simp [hfifo])).trans (if_neg hend)

/-- Settles O37: the spare is installed, the slot and the FIFO are empty, and a write held for the copy is released from that. -/
theorem retireCompletes : Obligations.RetireCompletes := by
  intro s o e f hs hon hslot hmode hfifo hoff hmem hf
  subst hf
  have hexec := exec_retireWordWrite hon hslot hmode hfifo hmem
  rw [retireWrite_last hfifo hoff] at hexec
  generalize hu : (s.retireDrained o e).retireInstalled o = u at hexec
  have hactive : (s.retireDrained o e).txe.active = some .retire := hon.2
  have hidle : u.txe.retireIdle := hu ▸ retireInstalled_retireIdle hactive
  obtain ⟨hretire, hempty, hemptyMode⟩ :=
    retireIdle_of_unbegun (engineSelectEnd_unbegun _ s.procAsking) (releaseRetire_retireIdle hidle o.block)
  have hhbi : u.hbi = s.hbi := hu ▸ rfl
  have hcau : u.cau = s.cau := hu ▸ rfl
  have hfau : u.fau = { s.fau with pending := { s.fau.pending with retired := true } } := hu ▸ rfl
  have hsru : ((u.releaseRetire o.block).engineSelectEnd s.procAsking).sru = u.sru := by simp
  have hremap : u.sru.remap = remapInstall s.sru.remap o.block o.spare := hu ▸ rfl
  refine ⟨_, hexec, retireDrained_wrote hs ?planeP ?planeQ, ?sru, ?block, fun r hr => freeSpare_unnamed hr, hretire, hempty,
    hemptyMode, fun a ha hph hb => ?held, fun hnot => ?nobody, ?frame⟩
  case planeP => simp [← hu, State.retireInstalled]
  case planeQ => simp [← hu, State.retireInstalled]
  case sru =>
    rw [hsru, ← hu, ← remapInstall_eq]
    rfl
  case block =>
    rw [physBlock_installed (l := s.sru.remap) (i := o.spare) (by rw [hsru, hremap])]
    simp [← hu, State.retireInstalled, State.retireDrained]
  case held =>
    rw [releaseRetire_held (hhbi ▸ ha) hph hb, ← hcau, ← hfau]
    exact markerCheck_writeReleased hhbi (by rw [hcau]) (by rw [hcau]) (by simp) (by simp) (by simp)
      (scrub_none_of_unbegun (engineSelectEnd_unbegun _ _))
  case nobody =>
    obtain ⟨hc, hf, hh⟩ := releaseRetire_settled s.procAsking hhbi hcau hfau fun a ha h => hnot a ha h.1 h.2
    exact ⟨hh, hc, hf⟩
  case frame => apply State.ext <;> simp [← hu, State.retireInstalled, State.retireDrained]

end Sys2Proof.Machine
end

section
/-! PROOFS. The commands that set the parameters, the remap table, the alarm, the counters and the fault queue (R151, R161, R163 to R165,
R174). -/
namespace Sys2Proof.Machine

/-! ### Parameters (R174) -/

theorem clampBurst_eq (v : Nat) : clampBurst v = max 1 (min v 32) := by
  unfold clampBurst
  split_ifs <;> omega

theorem clampTimeout_eq (v : Nat) : clampTimeout v = max 1 v := by
  unfold clampTimeout
  split_ifs <;> omega

theorem set_twinMode (p : Params) (v : Nat) :
    p.set 5 v = if v = 0 then some { p with twinMode := .single }
      else if v = 1 then some { p with twinMode := .paired } else none := by
  match v with
  | 0 => rfl
  | 1 => rfl
  | n + 2 => rfl

/-- A selector that names no parameter. -/
theorem set_unknown {sel : Nat} (h : sel = 0 ∨ 9 < sel) (p : Params) (v : Nat) : p.set sel v = none := by
  obtain rfl | h := h
  · rfl
  · obtain ⟨n, rfl⟩ := Nat.exists_eq_add_of_le h
    rw [Nat.add_comm]
    rfl

theorem remapAfter_eq (old new : Params) (l : List RemapEntry) :
    remapAfter old new l = if new.spareBase = old.spareBase ∧ new.spareCount = old.spareCount then l else [] := by
  unfold remapAfter
  by_cases h : new.spareBase = old.spareBase ∧ new.spareCount = old.spareCount
  · rw [if_pos h, if_neg (by omega)]
  · rw [if_neg h, if_pos (by omega)]

theorem exec_setParam {s : State} (h : s.listens) (sel : Unit16) (v : BitVec 32) :
    exec (.setParam sel v) s = .next
      (if s.mli.control ≠ .config then (s.commanded 0x05 (sel :: units32 v)).answer .wrongState []
      else
        match s.mli.params.set sel.toNat v.toNat with
        | none => (s.commanded 0x05 (sel :: units32 v)).badOperand
        | some p =>
          State.answer { s.commanded 0x05 (sel :: units32 v) with
            mli := { (s.commanded 0x05 (sel :: units32 v)).mli with params := p }
            sru := { s.sru with remap := remapAfter s.mli.params p s.sru.remap } } .done []) :=
  congrArg Host.Outcome.next (command_of_listens h _ _ _)

theorem setParam_accepted {s : State} (h : s.listens) {sel : Unit16} {v : BitVec 32} {p : Params}
    (hc : s.mli.control = .config) (hp : s.mli.params.set sel.toNat v.toNat = some p) :
    exec (.setParam sel v) s = .next
      { s with
        sru := { s.sru with
          remap := if p.spareBase = s.mli.params.spareBase ∧ p.spareCount = s.mli.params.spareCount then s.sru.remap else [] }
        mli := { s.replied 0x05 [sel, v.extractLsb' 16 16, v.extractLsb' 0 16] [0] with params := p } } := by
  rw [exec_setParam h, if_neg (not_not.mpr hc), hp, ← remapAfter_eq]
  rfl

theorem setParam_refused {s : State} (h : s.listens) {sel : Unit16} {v : BitVec 32} (hc : s.mli.control = .config)
    (hp : s.mli.params.set sel.toNat v.toNat = none) :
    exec (.setParam sel v) s = .next
      { s with mli := s.replied 0x05 [sel, v.extractLsb' 16 16, v.extractLsb' 0 16] [3, 0, 0xFFFF] } := by
  rw [exec_setParam h, if_neg (not_not.mpr hc), hp]
  rfl

/-! ### The remap table (R151) -/

/-- The entry that an operand in range names. -/
def loadedEntry (o : RemapOperand) : RemapEntry := ⟨o.block.toNat, o.spare.toNat, decide (o.state = 0)⟩

/-- A LOAD_REMAP list that R151 accepts: every operand in range, no spare twice, no block LIVE twice. -/
structure RemapLoadable (p : Params) (es : List RemapOperand) : Prop where
  states : ∀ e ∈ es, e.state.toNat ≤ 1
  ranges : ∀ e ∈ es, e.spare.toNat < p.spareCount ∧ e.block.toNat < p.blocks
  spares : es.Pairwise fun a b => a.spare ≠ b.spare
  blocks : es.Pairwise fun a b => a.state = 0 → b.state = 0 → a.block ≠ b.block

theorem remapEntryOf_eq (o : RemapOperand) : remapEntryOf o = if o.state.toNat ≤ 1 then some (loadedEntry o) else none := by
  unfold remapEntryOf loadedEntry
  split
  next h =>
    have hlive : o.state = 0 := BitVec.eq_of_toNat_eq h
    rw [if_pos (by omega), decide_eq_true hlive]
  next h =>
    have hdead : o.state ≠ 0 := fun h0 => by simp [h0] at h
    rw [if_pos (by omega), decide_eq_false hdead]
  next h0 h1 => rw [if_neg fun hle => (Nat.le_one_iff_eq_zero_or_eq_one.mp hle).elim h0 h1]

theorem mapM_remapEntryOf (es : List RemapOperand) :
    es.mapM remapEntryOf = if ∀ e ∈ es, e.state.toNat ≤ 1 then some (es.map loadedEntry) else none := by
  induction es with
  | nil => rfl
  | cons e es ih =>
    simp only [List.mapM_cons, ih, remapEntryOf_eq, List.forall_mem_cons]
    by_cases he : e.state.toNat ≤ 1
    · by_cases hes : ∀ e ∈ es, e.state.toNat ≤ 1
      · rw [if_pos he, if_pos hes, if_pos ⟨he, hes⟩]
        rfl
      · rw [if_pos he, if_neg hes, if_neg fun h : _ ∧ _ => hes h.2]
        rfl
    · rw [if_neg he, if_neg fun h : _ ∧ _ => he h.1]
      rfl

theorem remapAccepted_iff {p : Params} {es : List RemapOperand} (hl : es.length ≤ 8) :
    remapAccepted p (es.map loadedEntry) = true ↔
      (∀ e ∈ es, e.spare.toNat < p.spareCount ∧ e.block.toNat < p.blocks) ∧
        (es.Pairwise fun a b => a.spare ≠ b.spare) ∧
        es.Pairwise fun a b => a.state = 0 → b.state = 0 → a.block ≠ b.block := by
  have hunits (a b : Unit16) : a.toNat = b.toNat ↔ a = b := BitVec.toNat_inj
  simp only [remapAccepted, Bool.and_eq_true, decide_eq_true_eq, List.all_map, List.all_eq_true, List.length_map,
    List.pairwise_filter, List.pairwise_map, Function.comp_apply, Config.remapSize, hl]
  simp only [loadedEntry, decide_eq_true_eq, ne_eq, hunits]
  constructor
  · rintro ⟨⟨⟨⟨-, hspare⟩, hblock⟩, hlive⟩, hdistinct⟩
    exact ⟨fun e he => ⟨hspare e he, hblock e he⟩, hdistinct, hlive⟩
  · rintro ⟨hrange, hdistinct, hlive⟩
    exact ⟨⟨⟨⟨trivial, fun e he => (hrange e he).1⟩, fun e he => (hrange e he).2⟩, hlive⟩, hdistinct⟩

theorem remapOf_loadable {p : Params} {es : List RemapOperand} (hl : es.length ≤ 8) (h : RemapLoadable p es) :
    remapOf p es = some (es.map loadedEntry) := by
  rw [remapOf, mapM_remapEntryOf, if_pos h.states]
  exact if_pos ((remapAccepted_iff hl).mpr ⟨h.ranges, h.spares, h.blocks⟩)

theorem remapOf_refused {p : Params} {es : List RemapOperand} (hl : es.length ≤ 8) (h : ¬RemapLoadable p es) :
    remapOf p es = none := by
  rw [remapOf, mapM_remapEntryOf]
  by_cases hs : ∀ e ∈ es, e.state.toNat ≤ 1
  · rw [if_pos hs]
    exact if_neg fun ha => h (have ⟨hr, hd, hb⟩ := (remapAccepted_iff hl).mp ha; ⟨hs, hr, hd, hb⟩)
  · rw [if_neg hs]

/-- A count above 8 is answered before any entry is read (log 24). -/
theorem exec_loadRemap_over {s : State} (h : s.listens) {n : Unit16} (hn : 8 < n.toNat) (es : List RemapOperand) :
    exec (.loadRemap n es) s = .next { s with mli := s.replied 0x07 [n] [3, 0, 0xFFFF] } := by
  show execLoadRemap n es s = _
  rw [execLoadRemap, if_pos hn, command_of_listens h]
  rfl

/-- A complete LOAD_REMAP. -/
theorem exec_loadRemap {s : State} (h : s.listens) {es : List RemapOperand} {units : List Unit16} (hl : es.length ≤ 8)
    (hu : units = unit es.length :: es.flatMap fun e => [e.block, e.spare, e.state]) :
    exec (.loadRemap (unit es.length) es) s = .next
      (if s.mli.control ≠ .config then (s.commanded 0x07 units).answer .wrongState []
      else
        match remapOf s.mli.params es with
        | none => (s.commanded 0x07 units).badOperand
        | some l => State.answer { s.commanded 0x07 units with sru := { s.sru with remap := l } } .done []) := by
  have hn : (unit es.length).toNat = es.length := by
    rw [unit, BitVec.toNat_ofNat]
    omega
  subst hu
  show execLoadRemap (unit es.length) es s = _
  rw [execLoadRemap, if_neg (by omega), command_of_listens h, hn, if_neg (lt_irrefl _), List.take_length]
  rfl

/-! ### Alarm, counters and fault queue (R161, R163 to R165) -/

/-- ALM by its members (R165). -/
theorem alm_iff (s : State) :
    s.alm = true ↔
      s.fau.pending.faultQueued = true ∧ s.fau.mask.faultQueued = true ∨
      s.fau.pending.queueFull = true ∧ s.fau.mask.queueFull = true ∨
      s.fau.pending.vitalDown = true ∧ s.fau.mask.vitalDown = true ∨
      s.fau.pending.linkChange = true ∧ s.fau.mask.linkChange = true ∨
      s.fau.pending.retired = true ∧ s.fau.mask.retired = true ∨
      s.fau.pending.startDone = true ∧ s.fau.mask.startDone = true := by
  simp only [State.alm, AlarmSet.inter, AlarmSet.none, bne_iff_ne, ne_eq, AlarmSet.mk.injEq, Bool.and_eq_false_iff,
    not_and_or, not_or, Bool.not_eq_false]

theorem exec_popFault {s : State} (h : s.listens) :
    exec .popFault s = .next
      (match s.fau.queue with
      | r :: t => State.answer { s.commanded 0x0D [] with fau := { s.fau with queue := t } } .done r.units
      | [] => (s.commanded 0x0D []).answer .empty []) :=
  congrArg Host.Outcome.next (command_of_listens h _ _ _)

theorem exec_clearCounters {s : State} (h : s.listens) :
    exec .clearCounters s = .next
      (State.answer { s.commanded 0x10 [] with fau := { s.fau with counters := Vector.replicate 22 0 } } .done []) :=
  congrArg Host.Outcome.next (command_of_listens h _ _ _)

theorem exec_setAlarmMask {s : State} (h : s.listens) (m : Unit16) :
    exec (.setAlarmMask m) s = .next
      (match alarmSetOfUnit m with
      | none => (s.commanded 0x11 [m]).badOperand
      | some a => State.answer { s.commanded 0x11 [m] with fau := { s.fau with mask := a } } .done []) :=
  congrArg Host.Outcome.next (command_of_listens h _ _ _)

theorem exec_ackAlarm {s : State} (h : s.listens) (m : Unit16) :
    exec (.ackAlarm m) s = .next
      (match alarmSetOfUnit m with
      | none => (s.commanded 0x12 [m]).badOperand
      | some a =>
        State.answer { s.commanded 0x12 [m] with fau := { s.fau with pending := s.fau.pending.minus a } } .done []) :=
  congrArg Host.Outcome.next (command_of_listens h _ _ _)

/-- Settles O58: the parameters by their selector, ALM by its members, and each command by what it refuses. -/
theorem settingCommands : Obligations.SettingCommands := by
  refine ⟨fun p v => ⟨rfl, rfl, rfl, rfl, set_twinMode p v, ?burst, rfl, ?timeout, rfl, fun sel h => set_unknown h p v⟩,
    alm_iff, fun s h => ⟨fun sel v p => setParam_accepted h, fun sel v => ⟨setParam_refused h, fun hc => ?paramClosed⟩,
      fun n es hn => exec_loadRemap_over h hn es, fun es units hl hunits => ?remap, fun r rest hq => ?pop, fun hq => ?empty,
      exec_clearCounters h, fun m hm => ?outOfRange, fun m hm => ?inRange⟩⟩
  case burst => rw [← clampBurst_eq]; rfl
  case timeout => rw [← clampTimeout_eq]; rfl
  case paramClosed =>
    rw [exec_setParam h, if_pos hc]
    rfl
  case remap =>
    rw [exec_loadRemap h hl hunits]
    refine ⟨fun hc => ?closed, fun hc hbad => ?refused, fun hc hstate hrange hspare hblock => ?accepted⟩
    case closed =>
      rw [if_pos hc]
      rfl
    case refused =>
      have hrefused : ¬RemapLoadable s.mli.params es := by
        rintro ⟨hstate, hrange, hspare, hblock⟩
        obtain ⟨e, he, hout⟩ | hspares | hblocks := hbad
        · have := hstate e he
          have := hrange e he
          omega
        · exact hspares hspare
        · exact hblocks hblock
      rw [if_neg (not_not.mpr hc), remapOf_refused hl hrefused]
      rfl
    case accepted =>
      rw [if_neg (not_not.mpr hc), remapOf_loadable hl ⟨hstate, hrange, hspare, hblock⟩]
      rfl
  case pop =>
    rw [exec_popFault h, hq]
    rfl
  case empty =>
    rw [exec_popFault h, hq]
    rfl
  case outOfRange =>
    have hnone : alarmSetOfUnit m = none := if_neg (by omega)
    rw [exec_setAlarmMask h, exec_ackAlarm h, hnone]
    exact ⟨rfl, rfl⟩
  case inRange =>
    have hsome : alarmSetOfUnit m =
        some ⟨m.getLsbD 0, m.getLsbD 1, m.getLsbD 2, m.getLsbD 3, m.getLsbD 4, m.getLsbD 5⟩ := if_pos hm
    rw [exec_setAlarmMask h, exec_ackAlarm h, hsome]
    exact ⟨rfl, rfl⟩

end Sys2Proof.Machine
end

section
/-! PROOFS. A fault taken: its counter, the fault queue, the alarm, VEN with its latch and flags, and which faults are vital
(R158, R160, R161, R163, R164, R166, R167). -/
namespace Sys2Proof.Machine

/-! ### The alarm (R164, R166) -/

@[simp] theorem offer_vitalDown (f : Fau) (r : FaultRecord) : (f.offer r).pending.vitalDown = f.pending.vitalDown := by
  unfold Fau.offer
  split <;> rfl

@[simp] theorem vitalFault_faultQueued (f : Fau) : f.vitalFault.pending.faultQueued = f.pending.faultQueued := by
  unfold Fau.vitalFault
  dsimp only
  split <;> rfl

@[simp] theorem vitalFault_queueFull (f : Fau) : f.vitalFault.pending.queueFull = f.pending.queueFull := by
  unfold Fau.vitalFault
  dsimp only
  split <;> rfl

@[simp] theorem vitalFault_vitalDown (f : Fau) : f.vitalFault.pending.vitalDown = (f.pending.vitalDown || f.ven) := by
  unfold Fau.vitalFault
  dsimp only
  split <;> simp_all

/-! ### A record taken (R160) -/

/-- The Fault and Alarm Unit with a record's kind counted and the record offered to the queue: parts 2 and 3 of R160. -/
def Fau.recorded (f : Fau) (r : FaultRecord) : Fau :=
  Fau.offer { f with counters := bumpCounter f.counters r.kind.counter } r

theorem recorded_room {f : Fau} (h : f.queue.length < 16) (r : FaultRecord) :
    f.recorded r =
      { f with
        counters := bumpCounter f.counters r.kind.counter, queue := f.queue ++ [r]
        pending := { f.pending with faultQueued := true } } := if_pos h

theorem recorded_full {f : Fau} (h : f.queue.length = 16) (r : FaultRecord) :
    f.recorded r =
      { f with
        counters := bumpCounter f.counters r.kind.counter, pending := { f.pending with queueFull := true } } :=
  if_neg (h ▸ Nat.lt_irrefl 16)

theorem take_vital {r : FaultRecord} (h : r.vital = true) (f : Fau) : f.take r = (f.recorded r).vitalFault := if_pos h

theorem take_notVital {r : FaultRecord} (h : r.vital = false) (f : Fau) : f.take r = f.recorded r :=
  if_neg (Bool.eq_false_iff.mp h)

/-- Vitality has no part in what becomes of the queue, its two alarm members and the mask. -/
theorem take_recorded (f : Fau) (r : FaultRecord) :
    (f.take r).queue = (f.recorded r).queue ∧ (f.take r).mask = (f.recorded r).mask ∧
    (f.take r).pending.faultQueued = (f.recorded r).pending.faultQueued ∧
    (f.take r).pending.queueFull = (f.recorded r).pending.queueFull := by
  cases h : r.vital with
  | false => simp [take_notVital h]
  | true => simp [take_vital h]

theorem bumpCounter_eq {cs : Vector Nat 22} {i : Fin 22} (h : cs.get i ≤ 65535) :
    bumpCounter cs i = cs.set i (min 65535 (cs.get i + 1)) := by
  have hcount : (if cs.get i < 65535 then cs.get i + 1 else 65535) = min 65535 (cs.get i + 1) := by split <;> omega
  exact congrArg (cs.set i ·) hcount

/-! ### Which faults are vital (R158) -/

theorem faultVital_eq (t : Table) (k : FaultKind) (r : Option Region) : faultVital t k r =
    if k ∈ [.unmapped, .sequence, .layout, .disagree, .twinTimeout, .linkProtocol, .cycleOverrun] then true
    else if k ∈ [.length, .cls, .uncorrectable, .stale, .audit, .restoreFailed] then r.any fun x => hasAttr (·.vital) t x
    else false := by
  cases k with
  | unmapped | sequence | layout | disagree | twinTimeout | linkProtocol | cycleOverrun => rfl
  | length | cls | uncorrectable | stale | audit | restoreFailed => cases r <;> rfl
  | markerForm | checkpointFailed | retireFailed | sparesExhausted | retireQueueFull | linkLate | linkFrame => rfl

/-- Settles O53: the record counted and offered, then the vital fault's effects; the judgement by kind and region. -/
theorem faultTaken : Obligations.FaultTaken := by
  refine ⟨fun f r hc => ?_, faultVital_eq, fun _ => rfl, takeFault_fau⟩
  obtain ⟨hqueue, hmask, hqueued, hfull⟩ := take_recorded f r
  rw [hqueue, hmask, hqueued, hfull]
  refine ⟨(take_counters f r).trans (bumpCounter_eq (hc _)), fun h => ?room, fun h => ?full, ?mask, fun hv => ?notVital,
    fun hv => ?vital⟩
  case room =>
    rw [recorded_room h]
    exact ⟨rfl, rfl, rfl⟩
  case full =>
    rw [recorded_full h]
    exact ⟨rfl, rfl, rfl⟩
  case mask => exact offer_mask _ _
  case notVital => simp [take_notVital hv, Fau.recorded]
  case vital => simp [take_vital hv, Fau.recorded, Bool.or_comm]

end Sys2Proof.Machine
end

section
/-! PROOFS. VEN, its latch, the epoch flag and the qualification stay legal: what faults taken leave of them, the control state
beside them, and the verdict (R166 to R168). -/
namespace Sys2Proof.Machine

/-! ### The vital flags while faults are taken (R166, R167) -/

/-- VEN, its latch, the epoch flag and the qualification. -/
def Fau.vitalFlags (f : Fau) : Bool × Bool × Bool × Bool := (f.ven, f.latch, f.epochFlag, f.qualified)

/-- `g` has the vital flags of `f`, or those a vital fault taken since has left: VEN LOW, the epoch flag SET, the qualification
CLEAR. -/
def Fau.vitalFrom (f g : Fau) : Prop :=
  g.vitalFlags = f.vitalFlags ∨ g.ven = false ∧ g.epochFlag = true ∧ g.qualified = false

@[simp] theorem vitalFrom_refl (f : Fau) : f.vitalFrom f := .inl rfl

theorem vitalFrom_of_flags {f g g' : Fau} (h : f.vitalFrom g) (hg : g'.vitalFlags = g.vitalFlags) : f.vitalFrom g' := by
  obtain ⟨hven, -, hflag, hqualified⟩ : g'.ven = g.ven ∧ g'.latch = g.latch ∧ g'.epochFlag = g.epochFlag ∧
    g'.qualified = g.qualified := by simpa [Fau.vitalFlags] using hg
  rw [Fau.vitalFrom, hg, hven, hflag, hqualified]
  exact h

theorem vitalFrom_trans {f g g' : Fau} (h : f.vitalFrom g) (h' : g.vitalFrom g') : f.vitalFrom g' := by
  rcases h' with hg | hdown
  · exact vitalFrom_of_flags h hg
  · exact .inr hdown

theorem recorded_vitalFlags (f : Fau) (r : FaultRecord) : (f.recorded r).vitalFlags = f.vitalFlags := by
  simp [Fau.vitalFlags, Fau.recorded]

/-- A record taken leaves the flags, or is vital and drops VEN. -/
@[simp] theorem take_vitalFrom {f g : Fau} (h : f.vitalFrom g) (r : FaultRecord) : f.vitalFrom (g.take r) := by
  cases hv : r.vital with
  | false =>
    rw [take_notVital hv]
    exact vitalFrom_of_flags h (recorded_vitalFlags g r)
  | true =>
    rw [take_vital hv]
    exact .inr ⟨vitalFault_ven _, rfl, rfl⟩

/-! ### The shared operations -/

section

variable {f : Fau} {s : State}

@[simp] theorem requestRetire_vitalFrom (h : f.vitalFrom s.fau) (b w : Nat) : f.vitalFrom (s.requestRetire b w).fau := by
  unfold State.requestRetire
  (repeat' split) <;> simp [h]

@[simp] theorem reportRepair_vitalFrom (h : f.vitalFrom s.fau) (w : Nat) (pl : Plane) :
    f.vitalFrom (s.reportRepair w pl).fau := by
  unfold State.reportRepair
  dsimp only
  split
  · refine requestRetire_vitalFrom ?_ _ _
    exact h
  · exact h

@[simp] theorem repair_vitalFrom (h : f.vitalFrom s.fau) (w : Nat) (t : Terms) (rep : CheckReport) :
    f.vitalFrom (s.repair w t rep).fau := by
  unfold State.repair
  split
  · exact reportRepair_vitalFrom (s := s.putP _ _) h _ _
  · exact reportRepair_vitalFrom (s := s.putQ _ _) h _ _
  · exact h
  · exact h

@[simp] theorem repairByWrite_vitalFrom (h : f.vitalFrom s.fau) (w : Nat) (rep : CheckReport) :
    f.vitalFrom (s.repairByWrite w rep).fau := by
  unfold State.repairByWrite
  split <;> simp [h]

@[simp] theorem reportBadWord_vitalFrom (h : f.vitalFrom s.fau) (a : Access) (src : Source) (rep : CheckReport) :
    f.vitalFrom (s.reportBadWord a src rep).fau := by simp [State.reportBadWord, h]

@[simp] theorem markerCheck_vitalFrom (h : f.vitalFrom s.fau) (a : Access) : f.vitalFrom (s.markerCheck a).fau := by
  unfold State.markerCheck
  split
  · rw [takeMarker_fau]
    split <;> simp [h]
  · simp [h]
  · exact h

@[simp] theorem retireCheck_vitalFrom (h : f.vitalFrom s.fau) (a : Access) : f.vitalFrom (s.retireCheck a).fau := by
  unfold State.retireCheck
  split <;> simp [h]

@[simp] theorem holdCheck_vitalFrom (h : f.vitalFrom s.fau) (a : Access) : f.vitalFrom (s.holdCheck a).fau := by
  unfold State.holdCheck
  split <;> simp [h]

@[simp] theorem releaseHeld_vitalFrom (h : f.vitalFrom s.fau) (p : Access → Bool) : f.vitalFrom (s.releaseHeld p).fau := by
  unfold State.releaseHeld
  (repeat' split) <;> simp [h]

@[simp] theorem releaseRetire_vitalFrom (h : f.vitalFrom s.fau) (b : Nat) : f.vitalFrom (s.releaseRetire b).fau := by
  unfold State.releaseRetire
  (repeat' split) <;> simp [h]

@[simp] theorem blockMoved_vitalFrom (h : f.vitalFrom s.fau) (m : Move) (r : Region) (b : Nat) :
    f.vitalFrom (s.blockMoved m r b).fau := by simp [State.blockMoved, h]

@[simp] theorem shadowBreak_vitalFrom (h : f.vitalFrom s.fau) (r : Region) : f.vitalFrom (s.shadowBreak r).fau := by
  unfold State.shadowBreak
  split <;> simp [State.breakPass, h]

@[simp] theorem moveFailed_vitalFrom (h : f.vitalFrom s.fau) (m : Move) (r : Region) (b : Nat) (pos : Position) (w : Nat)
    (rep : CheckReport) : f.vitalFrom (s.moveFailed m r b pos w rep).fau := by
  cases m <;> simp [State.moveFailed, h]

@[simp] theorem retireFails_vitalFrom (h : f.vitalFrom s.fau) (o : RetireOp) (w : Nat) (rep : CheckReport) :
    f.vitalFrom (s.retireFails o w rep).fau := by
  unfold State.retireFails
  dsimp only
  refine releaseRetire_vitalFrom ?_ _
  rw [takeRetireFault_fau]
  refine take_vitalFrom ?_ _
  split
  · rwa [addDirtyIf_fau]
  · refine shadowBreak_vitalFrom ?_ _
    exact h

@[simp] theorem retireCompletes_vitalFrom (h : f.vitalFrom s.fau) (o : RetireOp) :
    f.vitalFrom (s.retireCompletes o).fau := by
  refine releaseRetire_vitalFrom ?_ _
  exact h

@[simp] theorem audit_vitalFrom (h : f.vitalFrom s.fau) (c : Cursor) (d : Word) : f.vitalFrom (s.audit c d).fau := by
  unfold State.audit
  dsimp only
  split
  · split <;> simp [h]
  · exact take_vitalFrom (shadowBreak_vitalFrom (repair_vitalFrom h _ _ _) _) _

@[simp] theorem scrubCheck_vitalFrom (h : f.vitalFrom s.fau) (c : Cursor) : f.vitalFrom (s.scrubCheck c).fau := by
  unfold State.scrubCheck
  dsimp only
  split
  · split <;> simp [h]
  · simp [State.scrubBadWord, h]

theorem foldl_startRestore_vitalFrom (l : List Region) (h : f.vitalFrom s.fau) :
    f.vitalFrom (l.foldl State.startRestore s).fau := by
  induction l generalizing s with
  | nil => exact h
  | cons r l ih =>
    refine ih ?_
    rw [(startRestore_fau s r).1]
    split <;> simp [h]

@[simp] theorem startPasses_vitalFrom (h : f.vitalFrom s.fau) (m : Move) : f.vitalFrom (s.startPasses m).fau := by
  have hentries : f.vitalFrom (s.entriesStarted m).fau := by
    cases m with
    | copy => exact h
    | restore => exact foldl_startRestore_vitalFrom _ h
  rw [startPasses_eq]
  unfold State.abandonRetire
  dsimp only
  (repeat' split) <;> simp [hentries]

end

/-! ### The steps that keep the control state in service -/

/-- The control state is one of the two in which VEN may be HIGH (R166). -/
def State.inService (s : State) : Prop := s.mli.control = .run ∨ s.mli.control = .hold

/-- `t` is in service where `s` is, with its vital flags, or a vital fault taken since. -/
def State.vitalKept (s t : State) : Prop := (s.inService → t.inService) ∧ s.fau.vitalFrom t.fau

theorem vitalKept_refl (s : State) : s.vitalKept s := ⟨id, vitalFrom_refl _⟩

theorem vitalKept_trans {s t u : State} (hst : s.vitalKept t) (htu : t.vitalKept u) : s.vitalKept u :=
  ⟨htu.1 ∘ hst.1, vitalFrom_trans hst.2 htu.2⟩

theorem vitalKept_of_mli {s t : State} (hmli : t.mli = s.mli) (hfau : s.fau.vitalFrom t.fau) : s.vitalKept t :=
  ⟨fun h => by rwa [State.inService, hmli], hfau⟩

/-- A next state the answer gives keeps what it has of `s`. -/
def keepsVital (s : State) (x : Answer) : Prop := ∀ t, x = .next t → s.vitalKept t

theorem keepsVital_next {s t : State} (h : s.vitalKept t) : keepsVital s (.next t) := fun u hu => by
  obtain rfl := Host.Outcome.next.inj hu
  exact h

theorem keepsVital_self (s : State) : keepsVital s (.next s) := keepsVital_next (vitalKept_refl s)

theorem onPort_keepsVital {s : State} {ready : Bool} {addrs : List Nat} {g : State → State} (hg : s.vitalKept (g s)) :
    keepsVital s (onPort s ready addrs g) := fun t ht => by
  rcases onPort_next ht with rfl | ⟨-, -, rfl⟩
  · exact vitalKept_refl _
  · exact hg

theorem accessGroup_keepsVital {s : State} {gr : Grant} {p : AccessOp → Bool} {g : Access → State → State}
    (hg : ∀ a, s.vitalKept (g a s)) : keepsVital s (s.accessGroup gr p g) := by
  unfold State.accessGroup
  split
  · exact onPort_keepsVital (hg _)
  · exact keepsVital_self s

theorem command_keepsVital (s : State) (code : Nat) (ops : List Unit16) {g : State → State}
    (hg : ∀ u : State, u.vitalKept (g u)) : keepsVital s (.next (s.command code ops g)) := by
  refine keepsVital_next ?_
  rcases command_cases s code ops g with he | he <;> rw [he]
  · exact vitalKept_refl s
  · exact hg { s with mli := { s.mli with code := some (unit code), operands := ops } }

/-! ### The groups at the port -/

theorem readGroup_vitalKept (s : State) (a : Access) : s.vitalKept (s.readGroup a) := by
  have hrepair := repair_vitalFrom (vitalFrom_refl s.fau) a.word a.terms (s.check true a.word a.terms)
  unfold State.readGroup
  dsimp only
  split
  · exact vitalKept_of_mli (by simp) (by simp)
  · refine vitalKept_of_mli (by simp) ?_
    rw [releasePort_fau, endAccess_fau]
    refine reportBadWord_vitalFrom ?_ _ _ _
    exact hrepair

theorem agreedWrite_vitalKept (s : State) (a : Access) (d : Word) : s.vitalKept (s.agreedWrite a d) := by
  have hrepair := repairByWrite_vitalFrom (s := (s.loadLatch (s.check true a.word a.terms)).writeWord a.word a.terms d)
    (vitalFrom_refl s.fau) a.word (s.check true a.word a.terms)
  unfold State.agreedWrite
  dsimp only
  split
  · refine vitalKept_of_mli (by simp) ?_
    rw [writeDone_fau]
    refine reportBadWord_vitalFrom ?_ _ _ _
    exact hrepair
  · exact vitalKept_of_mli (by simp) (by simpa using hrepair)

theorem byteWrite_vitalKept (s : State) (a : Access) (l : Lane) (b : BitVec 8) : s.vitalKept (s.byteWrite a l b) := by
  unfold State.byteWrite
  dsimp only
  split
  next old _ =>
    refine vitalKept_of_mli (by simp) ?_
    rw [writeDone_fau, addDigestIf_fau]
    refine repairByWrite_vitalFrom ?_ _ _
    exact vitalFrom_refl s.fau
  next =>
    refine vitalKept_of_mli (by simp) ?_
    rw [releasePort_fau, endAccess_fau]
    refine reportBadWord_vitalFrom ?_ _ _ _
    exact vitalFrom_refl s.fau

theorem lockedRead_vitalKept (s : State) (a : Access) : s.vitalKept (s.lockedRead a) := by
  have hrepair := repair_vitalFrom (vitalFrom_refl s.fau) a.word a.terms (s.check true a.word a.terms)
  unfold State.lockedRead
  dsimp only
  split
  · split <;> exact vitalKept_of_mli (by simp [State.openLocked]) (by simp [State.openLocked])
  · refine vitalKept_of_mli (by simp) ?_
    rw [releasePort_fau, endAccess_fau]
    refine reportBadWord_vitalFrom ?_ _ _ _
    exact hrepair

theorem moveRead_vitalKept (s : State) (m : Move) (p : PassPos) : s.vitalKept (s.moveRead m p) := by
  refine vitalKept_of_mli (moveRead_mli s m p) ?_
  unfold State.moveRead
  dsimp only
  split <;> simp [State.moveReadFails]

theorem moveWrite_vitalKept (s : State) (m : Move) (p : PassPos) (e : FifoEntry) : s.vitalKept (s.moveWrite m p e) := by
  refine vitalKept_of_mli (moveWrite_mli s m p e) ?_
  unfold State.moveWrite
  dsimp only
  (repeat' split) <;> simp

theorem retireRead_vitalKept (s : State) (o : RetireOp) : s.vitalKept (s.retireRead o) := by
  refine vitalKept_of_mli (retireRead_mli s o) ?_
  unfold State.retireRead
  dsimp only
  split <;> simp

theorem retireWrite_vitalKept (s : State) (o : RetireOp) (e : FifoEntry) : s.vitalKept (s.retireWrite o e) := by
  refine vitalKept_of_mli (retireWrite_mli s o e) ?_
  unfold State.retireWrite
  dsimp only
  (repeat' split) <;> simp

/-- The end of a START clear enters RUN (R177); every other clear write leaves the control state alone. -/
theorem clearStep_vitalKept (s : State) (o : ClearOp) (w : Nat) : s.vitalKept (s.clearStep o w) := by
  unfold State.clearStep
  dsimp only
  split
  · split <;> exact vitalKept_of_mli (by simp) (by simp)
  · split
    · exact ⟨fun _ => .inl (by simp [State.startClearDone]), .inl (by simp [State.startClearDone, Fau.vitalFlags])⟩
    · exact vitalKept_of_mli (by simp) (by simp)

theorem scrubStep_vitalKept (s : State) (c : Cursor) : s.vitalKept (s.scrubStep c) :=
  vitalKept_of_mli (scrubStep_mli s c) (by simp [State.scrubStep])

theorem diagnose_vitalKept (s : State) (w : Nat) : s.vitalKept (s.diagnose w) :=
  ⟨fun h => by simpa [State.inService, State.diagnose] using h, by simp⟩

theorem moveReadStep_keepsVital (m : Move) (s : State) : keepsVital s (moveReadStep m s) := by
  unfold moveReadStep
  split
  · exact onPort_keepsVital (moveRead_vitalKept s m _)
  · exact keepsVital_self s

theorem moveWriteStep_keepsVital (m : Move) (s : State) : keepsVital s (moveWriteStep m s) := by
  unfold moveWriteStep
  split
  · exact onPort_keepsVital (moveWrite_vitalKept s m _ _)
  · exact keepsVital_self s

/-- A group at the port takes faults, and nothing else touches what VEN depends on. -/
theorem exec_group_keepsVital {c : Instr} (s : State) (hc : isGroup c = true) : keepsVital s (exec c s) := by
  cases c
  case procReadGroup => exact accessGroup_keepsVital (readGroup_vitalKept s)
  case procPlainWriteGroup =>
    simp only [exec, execProcPlainWriteGroup]
    split
    · exact onPort_keepsVital (vitalKept_of_mli (by simp [State.plainWrite]) (by simp [State.plainWrite]))
    · exact keepsVital_self s
  case procAgreedWriteGroup =>
    simp only [exec, execProcAgreedWriteGroup]
    split
    · exact onPort_keepsVital (agreedWrite_vitalKept s _ _)
    · exact keepsVital_self s
  case procByteWriteGroup =>
    simp only [exec, execProcByteWriteGroup]
    split
    · exact onPort_keepsVital (byteWrite_vitalKept s _ _ _)
    · exact keepsVital_self s
  case lockedReadHalfGroup => exact accessGroup_keepsVital (lockedRead_vitalKept s)
  case lockedWriteHalfGroup =>
    simp only [exec, execLockedWriteHalfGroup]
    split
    · exact onPort_keepsVital (vitalKept_of_mli (by simp [State.lockedWrite]) (by simp [State.lockedWrite]))
    · exact keepsVital_self s
  case verdictWordWrite =>
    simp only [exec, execVerdictWordWrite]
    split
    · exact onPort_keepsVital (vitalKept_of_mli (by simp) (by simp))
    · exact keepsVital_self s
  case copyWordRead => exact moveReadStep_keepsVital .copy s
  case copyWordWrite => exact moveWriteStep_keepsVital .copy s
  case restoreWordRead => exact moveReadStep_keepsVital .restore s
  case restoreWordWrite => exact moveWriteStep_keepsVital .restore s
  case retireWordRead =>
    simp only [exec, execRetireWordRead]
    split
    · exact onPort_keepsVital (retireRead_vitalKept s _)
    · exact keepsVital_self s
  case retireWordWrite =>
    simp only [exec, execRetireWordWrite]
    split
    · exact onPort_keepsVital (retireWrite_vitalKept s _ _)
    · exact keepsVital_self s
  case clearWrite =>
    simp only [exec, execClearWrite]
    split
    · exact onPort_keepsVital (clearStep_vitalKept s _ _)
    · exact keepsVital_self s
  case scrubWordCheck =>
    simp only [exec, execScrubWordCheck]
    split
    · split
      · exact onPort_keepsVital (scrubStep_vitalKept s _)
      · exact keepsVital_next (vitalKept_of_mli (by simp) (by simp))
    · exact keepsVital_self s
  case diagnosticRead =>
    simp only [exec, execDiagnosticRead]
    split
    · exact onPort_keepsVital (diagnose_vitalKept s _)
    · exact keepsVital_self s
  all_goals exact Bool.noConfusion hc

/-! ### The other commands -/

theorem take_vitalKept (s : State) (c : BusCycle) : s.vitalKept (s.take c) := by
  refine vitalKept_of_mli (take_mli s c) ?_
  unfold State.take
  dsimp only
  (repeat' split) <;> simp

theorem takeRetire_vitalKept (s : State) (b : Nat) : s.vitalKept (s.takeRetire b) := by
  refine vitalKept_of_mli (takeRetire_mli s b) ?_
  unfold State.takeRetire
  (repeat' split) <;> simp

theorem takeField_control (s : State) (v : Unit16) : (s.takeField v).mli.control = s.mli.control := by
  have hinstall (u : State) (d : Option Descriptor) : (u.install d).mli.control = u.mli.control := by
    unfold State.install
    (repeat' split) <;> simp
  unfold State.takeField
  (repeat' split) <;> simp [hinstall]

theorem takeField_vitalKept (s : State) (v : Unit16) : s.vitalKept (s.takeField v) :=
  ⟨fun h => by rwa [State.inService, takeField_control], by simp⟩

/-- The commands that write VEN, its flags or the control state by a rule of their own: START clears the flags, ENABLE_VITAL
makes VEN HIGH. -/
def setsVital : Instr → Bool
  | .start | .enableVital => true
  | _ => false

/-- A command at no port that issues no verdict, resets nothing and is not START or ENABLE_VITAL. -/
theorem exec_command_keepsVital {c : Instr} (s : State) (hc : isGroup c = false) (hv : issuesVerdict c = false)
    (hr : resetsCounts c = false) (hs : setsVital c = false) : keepsVital s (exec c s) := by
  cases c
  case accessPresented c => exact keepsVital_next (vitalKept_of_mli (by simp) (by simp))
  case takeAccess => exact keepsVital_next (by (repeat' split) <;> simp [take_vitalKept, vitalKept_refl])
  case presentedAccessWithdrawn => exact keepsVital_next (vitalKept_refl s)
  case accessWithdrawn => exact keepsVital_next (vitalKept_of_mli (by (repeat' split) <;> simp) (by (repeat' split) <;> simp))
  case lockedWriteHalfPresented c => exact keepsVital_next (vitalKept_of_mli (by simp) (by simp))
  case lockNegated o => exact keepsVital_next (vitalKept_of_mli (by split <;> simp) (by split <;> simp))
  case retireTake => exact keepsVital_next (by (repeat' split) <;> simp [takeRetire_vitalKept, vitalKept_refl])
  case scrubTimerExpiry => exact keepsVital_next (vitalKept_of_mli (by split <;> simp) (by split <;> simp))
  case cycleDeadlineExpiry => exact keepsVital_next (vitalKept_of_mli (by split <;> simp) (by split <;> simp))
  case linkTimerExpiry => exact keepsVital_next (by split <;> exact vitalKept_refl s)
  case idleFrameTimerExpiry => exact keepsVital_next (by split <;> exact vitalKept_refl s)
  case transmitFrameEnd => exact keepsVital_next (by (repeat' split) <;> exact vitalKept_refl s)
  case chipSelectAssert => exact keepsVital_next (by split <;> exact vitalKept_refl s)
  case chipSelectNegate => exact keepsVital_next (vitalKept_refl s)
  case unknownCommand code =>
    simp only [exec, execUnknownCommand]
    split
    · exact keepsVital_self s
    · exact command_keepsVital s _ _ vitalKept_refl
  case loadRemap n es =>
    simp only [exec, execLoadRemap]
    split
    · exact command_keepsVital s _ _ vitalKept_refl
    · exact command_keepsVital s _ _ fun u => by
        unfold State.loadRemap
        (repeat' split) <;> exact vitalKept_refl u
  case getStatus => exact command_keepsVital s _ _ vitalKept_refl
  case selectRegion e => exact command_keepsVital s _ _ fun u => by (repeat' split) <;> exact vitalKept_refl u
  case regionField v =>
    refine command_keepsVital s _ _ fun u => ?_
    split
    · exact vitalKept_refl u
    · split
      · exact vitalKept_refl u
      · exact takeField_vitalKept u v
  case readRegion e => exact command_keepsVital s _ _ fun u => by split <;> exact vitalKept_refl u
  case setParam sel v => exact command_keepsVital s _ _ fun u => by (repeat' split) <;> exact vitalKept_refl u
  case readParam sel => exact command_keepsVital s _ _ fun u => by split <;> exact vitalKept_refl u
  case readRemap => exact command_keepsVital s _ _ vitalKept_refl
  case hold =>
    refine command_keepsVital s _ _ fun u => ?_
    split
    · exact ⟨fun _ => .inr (by simp), by simp⟩
    · exact vitalKept_refl u
    · exact vitalKept_refl u
    · exact vitalKept_refl u
  case release =>
    refine command_keepsVital s _ _ fun u => ?_
    split
    · exact vitalKept_refl u
    · split
      · exact vitalKept_refl u
      · exact ⟨fun _ => .inl rfl, vitalFrom_refl _⟩
  case popFault => exact command_keepsVital s _ _ fun u => by split <;> exact vitalKept_refl u
  case peekFault => exact command_keepsVital s _ _ fun u => by split <;> exact vitalKept_refl u
  case readCounters => exact command_keepsVital s _ _ vitalKept_refl
  case clearCounters => exact command_keepsVital s _ _ vitalKept_refl
  case setAlarmMask m => exact command_keepsVital s _ _ fun u => by split <;> exact vitalKept_refl u
  case ackAlarm m => exact command_keepsVital s _ _ fun u => by split <;> exact vitalKept_refl u
  case requestRollback => exact command_keepsVital s _ _ fun u => by split <;> exact vitalKept_refl u
  case retireBlock b =>
    refine command_keepsVital s _ _ fun u => ?_
    dsimp only
    split
    · exact vitalKept_refl u
    · split
      · exact vitalKept_refl u
      · exact ⟨fun h => by simpa [State.inService] using h, by simp⟩
  case readWordRequest w =>
    refine command_keepsVital s _ _ fun u => ?_
    (repeat' split) <;> exact ⟨fun h => by simpa [State.inService] using h, by simp⟩
  case readWordCollection => exact command_keepsVital s _ _ fun u => by split <;> exact vitalKept_refl u
  case readEngine => exact command_keepsVital s _ _ vitalKept_refl
  case start | enableVital => exact Bool.noConfusion hs
  case fixLocalKind | agreementTimerExpiry | twinFrameReceived | twinLineIdleTimeout => exact Bool.noConfusion hv
  case powerOn | systemResetAssert | internalResetEnd | reinit => exact Bool.noConfusion hr
  all_goals exact Bool.noConfusion hc

/-! ### Legal states (R166, R167) -/

/-- With the last verdict kept, what keeps the vital flags, or takes a vital fault, keeps them legal. -/
theorem vitalLegal_of_vitalKept {s t : State} (hs : s.vitalLegal) (hk : s.vitalKept t)
    (hlast : t.cau.lastVerdict = s.cau.lastVerdict) : t.vitalLegal := by
  obtain ⟨hven, hqualified⟩ := hs
  obtain ⟨hservice, hflags | ⟨hdown, -, hclear⟩⟩ := hk
  · obtain ⟨hsame, hlatch, hflag, hqual⟩ : t.fau.ven = s.fau.ven ∧ t.fau.latch = s.fau.latch ∧
      t.fau.epochFlag = s.fau.epochFlag ∧ t.fau.qualified = s.fau.qualified := by simpa [Fau.vitalFlags] using hflags
    rw [State.vitalLegal, hsame, hlatch, hflag, hqual, hlast]
    exact ⟨fun h => ⟨hservice (hven h).1, (hven h).2⟩, hqualified⟩
  · exact ⟨fun h => absurd h (by simp [hdown]), fun h => absurd h (by simp [hclear])⟩

/-- VEN LOW and the qualification CLEAR are legal in every control state. -/
theorem vitalLegal_of_down {t : State} (hven : t.fau.ven = false) (hqualified : t.fau.qualified = false) : t.vitalLegal :=
  ⟨fun h => absurd h (by simp [hven]), fun h => absurd h (by simp [hqualified])⟩

/-! ### Verdicts (R134, R167) -/

/-- A verdict qualifies only where it is COMMITTED and the epoch flag was CLEAR, and clears that flag. -/
theorem verdictTaken_vitalLegal {s : State} (hs : s.vitalLegal) (v : Verdict) : (s.verdictTaken v).vitalLegal := by
  obtain ⟨hven, -⟩ := hs
  refine ⟨fun h => ⟨(hven h).1, rfl, (hven h).2.2⟩, fun h => ⟨?_, rfl⟩⟩
  have hcommitted : (v == .committed && !s.fau.epochFlag) = true := h
  exact eq_of_beq (Bool.and_eq_true_iff.mp hcommitted).1

theorem verdict_vitalLegal {s : State} (hs : s.vitalLegal) (v : Verdict × Option FaultKind) : (s.verdict v).vitalLegal := by
  have hlast : (s.verdict v).cau.lastVerdict = v.1 := congrArg Counts.lastVerdict (verdict_counts s v)
  refine vitalLegal_of_vitalKept (verdictTaken_vitalLegal hs v.1) (vitalKept_of_mli (verdict_mli s v) ?_) hlast
  have hpasses := startPasses_vitalFrom (vitalFrom_refl (s.verdictTaken v.1).fau) v.1.move
  obtain ⟨v, k⟩ := v
  unfold State.verdict
  rw [settle_fau]
  cases k with
  | none =>
    dsimp only
    split <;> exact hpasses
  | some k =>
    refine take_vitalFrom ?_ _
    dsimp only
    split <;> exact hpasses

theorem timeoutVerdict_vitalLegal {s : State} (hs : s.vitalLegal) (loc : Mark) : (s.timeoutVerdict loc).vitalLegal :=
  verdict_vitalLegal hs _

theorem fixKind_vitalLegal {s : State} (hs : s.vitalLegal) (h : HeldMarker) : (s.fixKind h).vitalLegal := by
  unfold State.fixKind
  dsimp only
  split
  · exact verdict_vitalLegal hs _
  · split
    · split
      · refine verdict_vitalLegal ?_ _
        exact hs
      · exact hs
    · exact timeoutVerdict_vitalLegal hs _

/-! ### Frames of the twin link (R128 to R131) -/

theorem takeFault_vitalLegal {s : State} (hs : s.vitalLegal) (f : FaultReport) : (s.takeFault f).vitalLegal :=
  vitalLegal_of_vitalKept hs (vitalKept_of_mli rfl (take_vitalFrom (vitalFrom_refl _) _)) (raise_lastVerdict _ _)

theorem linkSeen_vitalLegal {s : State} (hs : s.vitalLegal) : s.linkSeen.vitalLegal := by
  unfold State.linkSeen
  split <;> exact hs

theorem slotMark_vitalLegal {s : State} (hs : s.vitalLegal) (m : Mark) : (s.slotMark m).vitalLegal := by
  unfold State.slotMark
  dsimp only
  split
  · exact takeFault_vitalLegal hs _
  · split
    · refine verdict_vitalLegal ?_ _
      exact hs
    · exact hs

theorem twinMark_vitalLegal {s : State} (hs : s.vitalLegal) (m : Mark) : (s.twinMark m).vitalLegal := by
  unfold State.twinMark
  split
  · exact hs
  · split
    · exact takeFault_vitalLegal hs _
    · split
      · exact slotMark_vitalLegal hs m
      · split <;> exact takeFault_vitalLegal hs _

theorem frameDone_vitalLegal {s : State} (hs : s.vitalLegal) (us : List RxUnit) : (s.frameDone us).vitalLegal := by
  unfold State.frameDone
  split
  · exact linkSeen_vitalLegal hs
  · exact twinMark_vitalLegal (linkSeen_vitalLegal hs) _
  · exact takeFault_vitalLegal hs _

theorem closeIfFull_vitalLegal {s : State} (hs : s.vitalLegal) (us : List RxUnit) : (s.closeIfFull us).vitalLegal := by
  unfold State.closeIfFull
  split
  · exact hs
  · split
    · exact frameDone_vitalLegal (s := { s with twl := { s.twl with rx := none } }) hs _
    · exact hs

theorem rxUnit_vitalLegal {s : State} (hs : s.vitalLegal) (u : RxUnit) : (s.rxUnit u).vitalLegal := by
  unfold State.rxUnit
  split
  · exact closeIfFull_vitalLegal hs _
  · split
    · exact closeIfFull_vitalLegal (frameDone_vitalLegal (s := { s with twl := { s.twl with rx := none } }) hs _) _
    · exact closeIfFull_vitalLegal hs _

theorem foldl_rxUnit_vitalLegal (us : List RxUnit) {s : State} (hs : s.vitalLegal) :
    (us.foldl State.rxUnit s).vitalLegal := by
  induction us generalizing s with
  | nil => exact hs
  | cons u us ih => exact ih (rxUnit_vitalLegal hs u)

/-! ### Every command -/

/-- A next state the answer gives is legal where `s` is. -/
def keepsLegal (s : State) (x : Answer) : Prop := s.vitalLegal → ∀ t, x = .next t → t.vitalLegal

theorem keepsLegal_next {s t : State} (h : s.vitalLegal → t.vitalLegal) : keepsLegal s (.next t) := fun hs u hu => by
  obtain rfl := Host.Outcome.next.inj hu
  exact h hs

theorem command_keepsLegal (s : State) (code : Nat) (ops : List Unit16) {g : State → State}
    (hg : ∀ u : State, u.vitalLegal → (g u).vitalLegal) : keepsLegal s (.next (s.command code ops g)) := by
  refine keepsLegal_next fun hs => ?_
  rcases command_cases s code ops g with he | he <;> rw [he]
  · exact hs
  · refine hg _ ?_
    exact hs

theorem exec_verdict_keepsLegal {c : Instr} (s : State) (hv : issuesVerdict c = true) : keepsLegal s (exec c s) := by
  cases c
  case fixLocalKind =>
    refine keepsLegal_next fun hs => ?_
    split
    · exact fixKind_vitalLegal hs _
    · exact hs
  case agreementTimerExpiry =>
    refine keepsLegal_next fun hs => ?_
    split
    · split
      · exact timeoutVerdict_vitalLegal hs _
      · exact hs
    · exact hs
  case twinFrameReceived us =>
    refine keepsLegal_next fun hs => ?_
    split
    · exact hs
    · exact foldl_rxUnit_vitalLegal us hs
  case twinLineIdleTimeout =>
    refine keepsLegal_next fun hs => ?_
    split
    · exact frameDone_vitalLegal (s := { s with twl := { s.twl with rx := none } }) hs _
    · exact hs
  all_goals exact Bool.noConfusion hv

/-- A REINIT and a reset leave VEN LOW and the qualification CLEAR (R180, R181). -/
theorem exec_reset_keepsLegal {c : Instr} (s : State) (hr : resetsCounts c = true) : keepsLegal s (exec c s) := by
  cases c
  case powerOn => exact keepsLegal_next fun _ => vitalLegal_of_down rfl rfl
  case systemResetAssert => exact keepsLegal_next fun _ => vitalLegal_of_down rfl rfl
  case internalResetEnd =>
    refine keepsLegal_next fun hs => ?_
    split
    · exact vitalLegal_of_down rfl rfl
    · exact hs
  case reinit => exact command_keepsLegal s _ _ fun u _ => vitalLegal_of_down rfl rfl
  all_goals exact Bool.noConfusion hr

/-- START leaves CONFIG, where VEN is LOW, and clears the qualification (R176). -/
theorem startRun_vitalLegal {s : State} (hs : s.vitalLegal) (hc : s.mli.control = .config) : s.startRun.vitalLegal := by
  have hdown : s.fau.ven = false := Bool.eq_false_iff.mpr fun h => by
    obtain ⟨hservice, -⟩ := hs.1 h
    simp [hc] at hservice
  exact vitalLegal_of_down (by simpa [State.startRun] using hdown) (by simp [State.startRun])

/-- START, and ENABLE_VITAL, which makes VEN HIGH in RUN alone and with the qualification SET (R168). -/
theorem exec_setsVital_keepsLegal {c : Instr} (s : State) (hs : setsVital c = true) : keepsLegal s (exec c s) := by
  cases c
  case start =>
    refine command_keepsLegal s _ _ fun u hu => ?_
    split
    · exact hu
    next hc =>
      split
      · exact hu
      · exact startRun_vitalLegal hu (not_not.mp hc)
  case enableVital =>
    refine command_keepsLegal s _ _ fun u hu => ?_
    split
    next h =>
      obtain ⟨hrun, hqualified⟩ := h
      obtain ⟨hlast, hflag⟩ := hu.2 hqualified
      exact ⟨fun _ => ⟨.inl hrun, hflag, rfl⟩, fun _ => ⟨hlast, hflag⟩⟩
    next => exact hu
  all_goals exact Bool.noConfusion hs

/-- Every command keeps the vital enable legal, by its kind. -/
theorem exec_keepsLegal (c : Instr) (s : State) : keepsLegal s (exec c s) := by
  cases hv : issuesVerdict c with
  | true => exact exec_verdict_keepsLegal s hv
  | false =>
    cases hr : resetsCounts c with
    | true => exact exec_reset_keepsLegal s hr
    | false =>
      cases hset : setsVital c with
      | true => exact exec_setsVital_keepsLegal s hset
      | false =>
        intro hs t ht
        have hlast : t.cau.lastVerdict = s.cau.lastVerdict := congrArg Counts.lastVerdict (exec_keepsCounts s hv hr t ht)
        refine vitalLegal_of_vitalKept hs ?_ hlast
        cases hc : isGroup c with
        | true => exact exec_group_keepsVital s hc t ht
        | false => exact exec_command_keepsVital s hc hv hr hset t ht

/-- Settles O9: a step is a command on the state with the queue's rest, or idles. -/
theorem vitalEnableStaysLegal : Obligations.VitalEnableStaysLegal := by
  intro s t hs ht
  unfold step at ht
  split at ht
  · obtain rfl := Host.Outcome.next.inj ht
    exact hs
  next c rest _ => exact exec_keepsLegal c { s with pending := rest } hs t ht

end Sys2Proof.Machine
end

section
/-! PROOFS. The state after reset: the value of each block, and the invariants it meets (R181). -/
namespace Sys2Proof.Machine

theorem reset_table (r : Region) : State.reset.rgd.table.get r = none := Vector.getElem_replicate _

theorem reset_ckState (r : Region) : State.reset.ckc.ckState.get r = .none := Vector.getElem_replicate _

theorem reset_counters (i : Fin 22) : State.reset.fau.counters.get i = 0 := Vector.getElem_replicate _

/-- Settles O16: the three vectors entry by entry, every other value as it stands in the power-on value. -/
theorem resetValues : Obligations.ResetValues := by
  refine ⟨rfl, rfl, rfl, rfl, rfl, reset_table, rfl, rfl, rfl, rfl, rfl, rfl, rfl, rfl, rfl, rfl, rfl, rfl, rfl, rfl, rfl, rfl,
    reset_ckState, rfl, rfl, rfl, rfl, rfl, rfl, rfl, rfl, rfl, rfl, rfl, rfl, rfl, rfl, rfl, rfl, rfl, rfl, rfl, rfl,
    reset_counters, rfl, rfl, rfl, rfl, rfl, rfl⟩

theorem reset_withinCapacity : State.reset.withinCapacity :=
  ⟨Nat.zero_le _, fun i => by rw [reset_counters]; exact Nat.zero_le _, Nat.zero_le _, List.nodup_nil, Nat.zero_le _,
    List.nodup_nil, Nat.zero_le _, fun _ => by decide, nofun⟩

theorem reset_remapSound : State.reset.remapSound :=
  ⟨Nat.zero_le _, List.nodup_nil, List.nodup_nil, Nat.zero_le _, nofun, nofun, fun _ => rfl⟩

/-- An empty table, in CONFIG, with the parameters at their defaults. -/
theorem reset_tableSound : State.reset.tableSound := by
  refine ⟨fun r d hd => ?_, ⟨nofun, nofun, nofun, nofun⟩, ?_, by decide, fun h => absurd rfl h, nofun⟩
  · rw [reset_table] at hd
    cases hd
  · unfold Params.inRange
    decide

theorem reset_hasAttr (a : Attrs → Bool) (r : Region) : hasAttr a State.reset.rgd.table r = false := by
  rw [hasAttr, reset_table]

/-- Every set, slot and marker is empty, and no region is present. -/
theorem reset_setsSound : State.reset.setsSound := by
  have hquiet : State.reset.passInFlight = false := by decide
  refine ⟨⟨.nil, .nil, .nil, nofun, nofun, nofun, fun r h => ?_, .inl (by decide)⟩, ⟨nofun, fun m => ?_, fun m => nofun⟩,
    fun h => absurd rfl h, fun _ => ⟨rfl, rfl, rfl, hquiet⟩, fun _ => ⟨rfl, rfl, rfl, rfl⟩, nofun⟩
  · rw [reset_hasAttr] at h
    cases h
  · cases m <;> nofun

theorem reset_markerSound : State.reset.markerSound :=
  ⟨fun h => h.elim (absurd rfl) fun h => h.elim (absurd rfl) nofun, nofun⟩

/-- Settles O11, one invariant after the other. -/
theorem resetMeetsInvariants : Obligations.ResetMeetsInvariants :=
  ⟨⟨rfl, rfl⟩, vitalLegal_of_down rfl rfl, reset_withinCapacity, reset_remapSound, reset_tableSound, reset_setsSound,
    reset_markerSound⟩

end Sys2Proof.Machine
end

section
/-! PROOFS. The maintenance link under the groups and events: which steps leave it as it is (R58, R66, R80, R170). -/
namespace Sys2Proof.Machine

/-- A next state the answer gives has the maintenance link of `s`. -/
def keepsMli (s : State) (x : Answer) : Prop := ∀ t, x = .next t → t.mli = s.mli

theorem keepsMli_next {s t : State} (h : t.mli = s.mli) : keepsMli s (.next t) := fun u hu => by
  obtain rfl := Host.Outcome.next.inj hu
  exact h

theorem keepsMli_self (s : State) : keepsMli s (.next s) := keepsMli_next rfl

theorem onPort_keepsMli {s : State} {ready : Bool} {addrs : List Nat} {f : State → State} (hf : (f s).mli = s.mli) :
    keepsMli s (onPort s ready addrs f) := fun _ ht => onPort_field State.mli ht hf

theorem accessGroup_keepsMli {s : State} {g : Grant} {p : AccessOp → Bool} {f : Access → State → State}
    (hf : ∀ a, (f a s).mli = s.mli) : keepsMli s (s.accessGroup g p f) := fun _ ht => accessGroup_field State.mli ht hf

theorem after_mli {s : State} {x : Answer} (hx : keepsMli s x) : (s.after x).mli = s.mli := by
  cases x with
  | next t => exact hx t rfl
  | fault _ => rfl
  | refused _ => rfl

/-! ### The groups at the port -/

theorem readGroup_mli (s : State) (a : Access) : (s.readGroup a).mli = s.mli := by
  unfold State.readGroup
  dsimp only
  split <;> simp

theorem agreedWrite_mli (s : State) (a : Access) (d : Word) : (s.agreedWrite a d).mli = s.mli := by
  unfold State.agreedWrite
  dsimp only
  split <;> simp

theorem byteWrite_mli (s : State) (a : Access) (l : Lane) (b : BitVec 8) : (s.byteWrite a l b).mli = s.mli := by
  unfold State.byteWrite
  dsimp only
  split <;> simp

theorem lockedRead_mli (s : State) (a : Access) : (s.lockedRead a).mli = s.mli := by
  unfold State.lockedRead
  dsimp only
  split
  · split <;> simp [State.openLocked]
  · simp

theorem moveReadStep_keepsMli (m : Move) (s : State) : keepsMli s (moveReadStep m s) := by
  unfold moveReadStep
  split
  · exact onPort_keepsMli (moveRead_mli s m _)
  · exact keepsMli_self s

theorem moveWriteStep_keepsMli (m : Move) (s : State) : keepsMli s (moveWriteStep m s) := by
  unfold moveWriteStep
  split
  · exact onPort_keepsMli (moveWrite_mli s m _ _)
  · exact keepsMli_self s

theorem execScrubWordCheck_keepsMli (s : State) : keepsMli s (execScrubWordCheck s) := by
  unfold execScrubWordCheck
  split
  · split
    · exact onPort_keepsMli (scrubStep_mli s _)
    · exact keepsMli_next (by simp)
  · exact keepsMli_self s

/-- The two groups that report to the maintenance link: the last write of a START clear enters RUN (R177), and a diagnostic read
hands over its report (R173). -/
def reportsToLink : Instr → Bool
  | .clearWrite | .diagnosticRead => true
  | _ => false

/-- Every other group leaves the maintenance link as it is. -/
theorem exec_group_keepsMli {c : Instr} (s : State) (hc : isGroup c = true) (hr : reportsToLink c = false) :
    keepsMli s (exec c s) := by
  cases c
  case procReadGroup => exact accessGroup_keepsMli (readGroup_mli s)
  case procPlainWriteGroup =>
    simp only [exec, execProcPlainWriteGroup]
    split
    · exact onPort_keepsMli (by simp [State.plainWrite])
    · exact keepsMli_self s
  case procAgreedWriteGroup =>
    simp only [exec, execProcAgreedWriteGroup]
    split
    · exact onPort_keepsMli (agreedWrite_mli s _ _)
    · exact keepsMli_self s
  case procByteWriteGroup =>
    simp only [exec, execProcByteWriteGroup]
    split
    · exact onPort_keepsMli (byteWrite_mli s _ _ _)
    · exact keepsMli_self s
  case lockedReadHalfGroup => exact accessGroup_keepsMli (lockedRead_mli s)
  case lockedWriteHalfGroup =>
    simp only [exec, execLockedWriteHalfGroup]
    split
    · exact onPort_keepsMli (by simp [State.lockedWrite])
    · exact keepsMli_self s
  case verdictWordWrite =>
    simp only [exec, execVerdictWordWrite]
    split
    · exact onPort_keepsMli (writeVerdictWord_mli s _)
    · exact keepsMli_self s
  case copyWordRead => exact moveReadStep_keepsMli .copy s
  case copyWordWrite => exact moveWriteStep_keepsMli .copy s
  case restoreWordRead => exact moveReadStep_keepsMli .restore s
  case restoreWordWrite => exact moveWriteStep_keepsMli .restore s
  case retireWordRead =>
    simp only [exec, execRetireWordRead]
    split
    · exact onPort_keepsMli (retireRead_mli s _)
    · exact keepsMli_self s
  case retireWordWrite =>
    simp only [exec, execRetireWordWrite]
    split
    · exact onPort_keepsMli (retireWrite_mli s _ _)
    · exact keepsMli_self s
  case scrubWordCheck => exact execScrubWordCheck_keepsMli s
  case clearWrite | diagnosticRead => exact Bool.noConfusion hr
  all_goals exact Bool.noConfusion hc

/-! ### The command of the group in hand (R61) -/

/-- The processor side's group is one of the commands that make groups. -/
theorem procGroup_eq_exec (s : State) (a : Access) :
    ∃ g, isGroup g = true ∧ reportsToLink g = false ∧ s.procGroup a = exec g s := by
  unfold State.procGroup
  split
  · exact ⟨.verdictWordWrite, rfl, rfl, rfl⟩
  · exact ⟨.procReadGroup, rfl, rfl, rfl⟩
  · exact ⟨.procReadGroup, rfl, rfl, rfl⟩
  · exact ⟨.procReadGroup, rfl, rfl, rfl⟩
  · split
    · exact ⟨.procAgreedWriteGroup, rfl, rfl, rfl⟩
    · exact ⟨.procPlainWriteGroup, rfl, rfl, rfl⟩
  · exact ⟨.procByteWriteGroup, rfl, rfl, rfl⟩
  · exact ⟨.lockedReadHalfGroup, rfl, rfl, rfl⟩
  · exact ⟨.lockedWriteHalfGroup, rfl, rfl, rfl⟩

theorem moveGroup_eq_exec (s : State) (m : Move) : ∃ g, isGroup g = true ∧ s.moveGroup m = exec g s := by
  unfold State.moveGroup
  split
  · exact ⟨writeOf m, by cases m <;> rfl, (exec_writeOf m s).symm⟩
  · exact ⟨readOf m, by cases m <;> rfl, (exec_readOf m s).symm⟩

/-- The engine's group is one of them too; an ACTIVE PRIORITY_BLOCK whose slot is empty makes none. -/
theorem engineGroup_eq_exec (s : State) (k : EngineKind) :
    s.engineGroup k = .next s ∨ ∃ g, isGroup g = true ∧ s.engineGroup k = exec g s := by
  unfold State.engineGroup
  cases k with
  | clear => exact .inr ⟨.clearWrite, rfl, rfl⟩
  | priorityBlock =>
    cases s.txe.priority with
    | none => exact .inl rfl
    | some o => exact .inr (moveGroup_eq_exec s o.move)
  | readWord => exact .inr ⟨.diagnosticRead, rfl, rfl⟩
  | restorePass => exact .inr (moveGroup_eq_exec s .restore)
  | checkpointPass => exact .inr (moveGroup_eq_exec s .copy)
  | retire =>
    refine .inr ?_
    dsimp only
    split
    · exact ⟨.retireWordWrite, rfl, rfl⟩
    · exact ⟨.retireWordRead, rfl, rfl⟩
  | scrubBurst => exact .inr ⟨.scrubWordCheck, rfl, rfl⟩

theorem groupInHand_eq_exec (s : State) :
    s.groupInHand = .next s ∨ ∃ g, isGroup g = true ∧ s.groupInHand = exec g s := by
  have hproc (a : Access) : s.procGroup a = .next s ∨ ∃ g, isGroup g = true ∧ s.procGroup a = exec g s := by
    obtain ⟨g, hg, -, he⟩ := procGroup_eq_exec s a
    exact .inr ⟨g, hg, he⟩
  unfold State.groupInHand
  split
  · exact .inl rfl
  · split
    · exact hproc _
    · exact .inl rfl
  · split
    · exact hproc _
    · exact .inl rfl
  · split
    · exact engineGroup_eq_exec s _
    · exact .inl rfl

/-! ### The group carried through at a REINIT (R58, R80) -/

theorem procGroup_keepsMli (s : State) (a : Access) : keepsMli s (s.procGroup a) := by
  obtain ⟨g, hg, hr, he⟩ := procGroup_eq_exec s a
  exact he ▸ exec_group_keepsMli s hg hr

theorem carryAccess_mli (s : State) (a : Access) : (s.carryAccess a).mli = s.mli :=
  after_mli (s := { s with hbi := { s.hbi with access := some { a with withdrawn := true } } }) (procGroup_keepsMli _ _)

theorem carryRead_mli (s : State) (w : Nat) : (s.carryRead w).mli = s.mli :=
  after_mli (onPort_keepsMli (repair_mli s _ _ _))

theorem carryMove_mli (s : State) (m : Move) : (s.carryMove m).mli = s.mli := by
  unfold State.carryMove
  split
  · exact carryRead_mli s _
  · rfl

theorem carryRetire_mli (s : State) : s.carryRetire.mli = s.mli := by
  unfold State.carryRetire
  split
  · exact carryRead_mli s _
  · exact after_mli (exec_group_keepsMli (c := .retireWordWrite) s rfl rfl)

theorem carryEngine_mli (s : State) (k : EngineKind) : (s.carryEngine k).mli = s.mli := by
  unfold State.carryEngine
  cases k with
  | clear => rfl
  | priorityBlock =>
    cases s.txe.priority with
    | none => rfl
    | some o => exact carryMove_mli s o.move
  | readWord => rfl
  | restorePass => exact carryMove_mli s .restore
  | checkpointPass => exact carryMove_mli s .copy
  | retire => exact carryRetire_mli s
  | scrubBurst => exact after_mli (execScrubWordCheck_keepsMli s)

theorem carryThrough_mli (s : State) : s.carryThrough.mli = s.mli := by
  unfold State.carryThrough
  split
  · rfl
  · split
    · exact carryAccess_mli s _
    · rfl
  · split
    · exact carryAccess_mli s _
    · rfl
  · split
    · exact carryEngine_mli { s with hbi := { s.hbi with access := none } } _
    · rfl

/-- Nothing a REINIT carries through touches the maintenance link. -/
@[simp] theorem groupEnded_mli (s : State) : s.groupEnded.mli = s.mli := by
  by_cases hg : s.mpt.grant = .none
  · rw [groupEnded_idle hg]
  · rcases groupEnded_cases hg with he | he <;> rw [he]
    exact carryThrough_mli s

/-! ### The events that reach the part elsewhere -/

/-- The events of the processor bus, the scheduler, the cycle unit and the twin link. -/
def isEvent : Instr → Bool
  | .accessPresented _ | .takeAccess | .presentedAccessWithdrawn | .accessWithdrawn | .lockedWriteHalfPresented _
  | .lockNegated _ | .retireTake | .scrubTimerExpiry | .fixLocalKind | .agreementTimerExpiry | .cycleDeadlineExpiry
  | .twinFrameReceived _ | .twinLineIdleTimeout | .linkTimerExpiry | .idleFrameTimerExpiry | .transmitFrameEnd => true
  | _ => false

/-- The five kinds of command: a group, an event, a command of the maintenance link with its units, the chip select, a reset. -/
inductive InstrKind (c : Instr) : Prop where
  | group (h : isGroup c = true)
  | event (h : isEvent c = true)
  | maintenance (us : List Unit16) (h : commandUnits c = some us)
  | chipSelect (h : c = .chipSelectAssert ∨ c = .chipSelectNegate)
  | reset (h : c = .powerOn ∨ c = .systemResetAssert ∨ c = .internalResetEnd)

theorem instrKind (c : Instr) : InstrKind c := by
  cases c
  case powerOn => exact .reset (.inl rfl)
  case systemResetAssert => exact .reset (.inr (.inl rfl))
  case internalResetEnd => exact .reset (.inr (.inr rfl))
  case chipSelectAssert => exact .chipSelect (.inl rfl)
  case chipSelectNegate => exact .chipSelect (.inr rfl)
  case accessPresented | takeAccess | presentedAccessWithdrawn | accessWithdrawn | lockedWriteHalfPresented | lockNegated
    | retireTake | scrubTimerExpiry | fixLocalKind | agreementTimerExpiry | cycleDeadlineExpiry | twinFrameReceived
    | twinLineIdleTimeout | linkTimerExpiry | idleFrameTimerExpiry | transmitFrameEnd => exact .event rfl
  case procReadGroup | procPlainWriteGroup | procAgreedWriteGroup | procByteWriteGroup | lockedReadHalfGroup
    | lockedWriteHalfGroup | verdictWordWrite | copyWordRead | copyWordWrite | restoreWordRead | restoreWordWrite
    | retireWordRead | retireWordWrite | clearWrite | scrubWordCheck | diagnosticRead => exact .group rfl
  all_goals exact .maintenance _ rfl

theorem exec_event_keepsMli {c : Instr} (s : State) (hc : isEvent c = true) : keepsMli s (exec c s) := by
  cases c
  case accessPresented c => exact keepsMli_next (present_mli s c)
  case takeAccess => exact keepsMli_next (by (repeat' split) <;> simp)
  case presentedAccessWithdrawn => exact keepsMli_next rfl
  case accessWithdrawn => exact keepsMli_next (by (repeat' split) <;> simp)
  case lockedWriteHalfPresented c => exact keepsMli_next (present_mli s c)
  case lockNegated o => exact keepsMli_next (by split <;> simp)
  case retireTake => exact keepsMli_next (by (repeat' split) <;> simp)
  case scrubTimerExpiry => exact keepsMli_next (by split <;> simp)
  case fixLocalKind => exact keepsMli_next (by split <;> simp)
  case agreementTimerExpiry => exact keepsMli_next (by (repeat' split) <;> simp)
  case cycleDeadlineExpiry => exact keepsMli_next (by split <;> simp)
  case twinFrameReceived us => exact keepsMli_next (by split <;> simp)
  case twinLineIdleTimeout => exact keepsMli_next (by split <;> simp)
  case linkTimerExpiry => exact keepsMli_next (by split <;> simp)
  case idleFrameTimerExpiry => exact keepsMli_next (by split <;> rfl)
  case transmitFrameEnd => exact keepsMli_next (by (repeat' split) <;> rfl)
  all_goals exact Bool.noConfusion hc

end Sys2Proof.Machine
end

section
/-! PROOFS. What every maintenance command makes of its frame and of the control state (R170, R171, R175). -/
namespace Sys2Proof.Machine

/-! ### What carrying a command out makes of the link (R170, R171) -/

/-- The maintenance commands that move the control state (R175). -/
def movesControl : Instr → Bool
  | .start | .reinit | .hold | .release => true
  | _ => false

/-- What carrying out command `c`, received in `u`, makes of the maintenance link: its code and operand units stay in the frame,
the control state stays but for the four commands that move it, and a well-formed command is answered. -/
structure Carried (c : Instr) (u v : State) : Prop where
  code : v.mli.code = u.mli.code
  operands : v.mli.operands = u.mli.operands
  control : movesControl c = false → v.mli.control = u.mli.control
  answered : c.wellFormed = true → v.mli.frame = .responding

theorem carried_answer {c : Instr} {u w : State} (hcode : w.mli.code = u.mli.code) (hops : w.mli.operands = u.mli.operands)
    (hcontrol : movesControl c = false → w.mli.control = u.mli.control) (st : Status) (data : List Unit16) :
    Carried c u (w.answer st data) := ⟨hcode, hops, hcontrol, fun _ => rfl⟩

theorem carried_answer_moves {c : Instr} {u w : State} (hc : movesControl c = true) (hcode : w.mli.code = u.mli.code)
    (hops : w.mli.operands = u.mli.operands) (st : Status) (data : List Unit16) : Carried c u (w.answer st data) :=
  carried_answer hcode hops (fun h => Bool.noConfusion (h.symm.trans hc)) st data

theorem carried_answer_of_mli {c : Instr} {u w : State} (st : Status) (data : List Unit16) (h : w.mli = u.mli := by rfl) :
    Carried c u (w.answer st data) :=
  carried_answer (congrArg Mli.code h) (congrArg Mli.operands h) (fun _ => congrArg Mli.control h) st data

theorem carried_answer_self (c : Instr) (u : State) (st : Status) (data : List Unit16) : Carried c u (u.answer st data) :=
  carried_answer_of_mli st data

theorem carried_badOperand (c : Instr) (u : State) : Carried c u u.badOperand := carried_answer_self c u _ _

theorem carried_install (c : Instr) {u w : State} (d : Option Descriptor) (h : w.mli = u.mli := by rfl) :
    Carried c u (w.install d) := by
  unfold State.install
  split
  · split
    · exact carried_answer_of_mli _ _ h
    · exact carried_answer_of_mli _ _ ((installHold_mli w d).trans h)
  · exact carried_answer_of_mli _ _ ((installConfig_mli w d).trans h)

theorem carried_takeField (c : Instr) (u : State) (v : Unit16) : Carried c u (u.takeField v) := by
  unfold State.takeField
  split
  · exact carried_install c none
  · split
    · exact carried_badOperand c u
    · split
      · exact carried_install c _
      · exact carried_answer_of_mli _ _

theorem carried_loadRemap (c : Instr) (u : State) (es : List RemapOperand) : Carried c u (u.loadRemap es) := by
  unfold State.loadRemap
  split
  · exact carried_answer_self c u _ _
  · split
    · exact carried_badOperand c u
    · exact carried_answer_of_mli _ _

/-- START enters INIT and leaves the frame alone (R176). -/
theorem startRun_mli (s : State) : s.startRun.mli = { s.mli with control := .init } := by rw [State.startRun, settle_mli]

theorem reinitialise_mli (s : State) : s.reinitialise.mli = { s.mli with control := .config, readResult := .none } := rfl

/-! ### Well-formed commands (R170, R185) -/

theorem unknown_of_wellFormed {code : Unit16} (hw : (Instr.unknownCommand code).wellFormed = true) :
    commandCode code = false := by simpa [Instr.wellFormed] using hw

/-- An entry count above 8 completes a LOAD_REMAP, so that no entry follows. -/
theorem loadRemap_nil_of_wellFormed {n : Unit16} {es : List RemapOperand} (hw : (Instr.loadRemap n es).wellFormed = true)
    (hn : 8 < n.toNat) : es = [] := by simpa [Instr.wellFormed, not_le.mpr hn] using hw

theorem loadRemap_length_of_wellFormed {n : Unit16} {es : List RemapOperand}
    (hw : (Instr.loadRemap n es).wellFormed = true) (hn : ¬8 < n.toNat) : es.length = n.toNat := by
  simpa [Instr.wellFormed, not_lt.mp hn] using hw

/-! ### Every maintenance command (R170, log 15) -/

/-- Command `c` of units `us` acts through its frame: its code and operand units are received, and then it is carried out. -/
def framed (c : Instr) (us : List Unit16) (s : State) : Prop :=
  ∃ code ops f, (c.wellFormed = true → us = unit code :: ops) ∧ exec c s = .next (s.command code ops f) ∧
    ∀ u, Carried c u (f u)

theorem framed_of {c : Instr} {s : State} {code : Nat} {ops : List Unit16} {f : State → State}
    (he : exec c s = .next (s.command code ops f)) (hf : ∀ u, Carried c u (f u)) : framed c (unit code :: ops) s :=
  ⟨code, ops, f, fun _ => rfl, he, hf⟩

theorem framed_unknownCommand {code : Unit16} (h : commandCode code = false) (s : State) :
    framed (.unknownCommand code) [code] s := by
  refine ⟨code.toNat, [], State.badOperand, fun _ => ?_, ?_, carried_badOperand _⟩
  · rw [unit, BitVec.ofNat_toNat, BitVec.setWidth_eq]
  · show execUnknownCommand code s = _
    rw [execUnknownCommand, h, if_neg Bool.false_ne_true]

/-- A LOAD_REMAP is answered unless it is incomplete, which an ill-formed one can be. -/
theorem framed_loadRemap (n : Unit16) (es : List RemapOperand) (s : State) :
    framed (.loadRemap n es) (0x07 :: n :: es.flatMap fun e => [e.block, e.spare, e.state]) s := by
  by_cases hn : 8 < n.toNat
  · refine ⟨0x07, [n], State.badOperand, fun hw => ?_, congrArg Host.Outcome.next (if_pos hn), carried_badOperand _⟩
    rw [loadRemap_nil_of_wellFormed hw hn]
    rfl
  · refine ⟨0x07, _, _, fun hw => ?_, congrArg Host.Outcome.next (if_neg hn), fun u => ?_⟩
    · rw [← loadRemap_length_of_wellFormed hw hn, List.take_length]
      rfl
    · split
      next hlt => exact ⟨rfl, rfl, fun _ => rfl, fun hw => absurd hlt (loadRemap_length_of_wellFormed hw hn).not_lt⟩
      next => exact carried_loadRemap _ u _

theorem exec_framed {c : Instr} {us : List Unit16} (hu : commandUnits c = some us)
    (hk : ∀ code, c = .unknownCommand code → commandCode code = false) (s : State) : framed c us s := by
  cases c
  all_goals cases hu
  case unknownCommand code => exact framed_unknownCommand (hk code rfl) s
  case loadRemap n es => exact framed_loadRemap n es s
  case getStatus | clearCounters => exact framed_of rfl fun _ => carried_answer_of_mli _ _
  case selectRegion e =>
    refine framed_of rfl fun u => ?_
    split
    · exact carried_answer_self _ u _ _
    · split
      · exact carried_badOperand _ u
      · exact carried_answer_of_mli _ _
  case regionField v =>
    refine framed_of rfl fun u => ?_
    split
    · exact carried_answer_self _ u _ _
    · split
      · exact carried_answer_self _ u _ _
      · exact carried_takeField _ u v
  case readRegion | readParam =>
    refine framed_of rfl fun u => ?_
    split
    · exact carried_badOperand _ u
    · exact carried_answer_self _ u _ _
  case setParam sel v =>
    refine framed_of rfl fun u => ?_
    split
    · exact carried_answer_self _ u _ _
    · split
      · exact carried_badOperand _ u
      · exact carried_answer (by rfl) (by rfl) (fun _ => by rfl) _ _
  case readRemap | readCounters | readEngine => exact framed_of rfl fun u => carried_answer_self _ u _ _
  case start =>
    refine framed_of rfl fun u => ?_
    split
    · exact carried_answer_self _ u _ _
    · split
      · exact carried_answer_self _ u _ _
      · exact carried_answer_moves rfl (by rw [startRun_mli]) (by rw [startRun_mli]) _ _
  case reinit =>
    exact framed_of rfl fun u => carried_answer_moves rfl (by rw [reinitialise_mli, groupEnded_mli])
      (by rw [reinitialise_mli, groupEnded_mli]) _ _
  case hold =>
    refine framed_of rfl fun u => ?_
    split
    · exact carried_answer_moves rfl (by simp) (by simp) _ _
    all_goals exact carried_answer_self _ u _ _
  case release =>
    refine framed_of rfl fun u => ?_
    split
    · exact carried_answer_self _ u _ _
    · split
      · exact carried_answer_self _ u _ _
      · exact carried_answer_moves rfl (by rfl) (by rfl) _ _
  case popFault =>
    refine framed_of rfl fun u => ?_
    split
    · exact carried_answer_of_mli _ _
    · exact carried_answer_self _ u _ _
  case peekFault =>
    refine framed_of rfl fun u => ?_
    split <;> exact carried_answer_self _ u _ _
  case setAlarmMask | ackAlarm =>
    refine framed_of rfl fun u => ?_
    split
    · exact carried_badOperand _ u
    · exact carried_answer_of_mli _ _
  case enableVital | requestRollback =>
    refine framed_of rfl fun u => ?_
    split
    · exact carried_answer_of_mli _ _
    · exact carried_answer_self _ u _ _
  case retireBlock b =>
    refine framed_of rfl fun u => ?_
    dsimp only
    split
    · exact carried_answer_self _ u _ _
    · split
      · exact carried_badOperand _ u
      · exact carried_answer_of_mli _ _ (requestRetire_mli u _ _)
  case readWordRequest w =>
    refine framed_of rfl fun u => ?_
    split
    · exact carried_answer_self _ u _ _
    · split
      · exact carried_answer_self _ u _ _
      · split
        · exact carried_badOperand _ u
        · exact carried_answer (by simp) (by simp) (fun _ => by simp) _ _
  case readWordCollection =>
    refine framed_of rfl fun u => ?_
    split
    · exact carried_answer (by rfl) (by rfl) (fun _ => by rfl) _ _
    all_goals exact carried_answer_self _ u _ _

/-- UNKNOWN_COMMAND with a code that names a command changes nothing (log 21). -/
theorem exec_unknownCommand_known {code : Unit16} (h : commandCode code = true) (s : State) :
    exec (.unknownCommand code) s = .next s := congrArg Host.Outcome.next (if_pos h)

/-- A maintenance command acts through its frame, or is an UNKNOWN_COMMAND with a known code and changes nothing. -/
theorem exec_framed_or_idle {c : Instr} {us : List Unit16} (hu : commandUnits c = some us) (s : State) :
    framed c us s ∨ exec c s = .next s := by
  by_cases hk : ∃ code, c = .unknownCommand code ∧ commandCode code = true
  · obtain ⟨code, rfl, hcode⟩ := hk
    exact .inr (exec_unknownCommand_known hcode s)
  · exact .inl (exec_framed hu (fun code he => eq_false_of_ne_true fun hcode => hk ⟨code, he, hcode⟩) s)

/-- With no frame RECEIVING, or a command in it, a maintenance command changes nothing. -/
theorem exec_ignored {c : Instr} {us : List Unit16} (hu : commandUnits c = some us) {s : State} (h : s.receiving = false) :
    exec c s = .next s := by
  rcases exec_framed_or_idle hu s with ⟨code, ops, f, -, he, -⟩ | he
  · rw [he, State.command, h, if_neg Bool.false_ne_true]
  · exact he

theorem exec_answered {c : Instr} {us : List Unit16} (hw : c.wellFormed = true) (hu : commandUnits c = some us) {s : State}
    (h : s.listens) :
    ∃ t, exec c s = .next t ∧ t.mli.frame = .responding ∧ t.mli.code = us.head? ∧ t.mli.operands = us.tail := by
  have hknown (code : Unit16) (hc : c = .unknownCommand code) : commandCode code = false := by
    subst hc
    exact unknown_of_wellFormed hw
  obtain ⟨code, ops, f, hus, he, hf⟩ := exec_framed hu hknown s
  obtain ⟨hcode, hops, -, hanswered⟩ := hf (s.commanded code ops)
  rw [command_of_listens h] at he
  rw [hus hw]
  exact ⟨_, he, hanswered hw, hcode, hops⟩

/-- A maintenance command keeps the control state, but for the four that move it. -/
theorem exec_command_control {c : Instr} {us : List Unit16} (hu : commandUnits c = some us) (hm : movesControl c = false)
    {s t : State} (h : exec c s = .next t) : t.mli.control = s.mli.control := by
  rcases exec_framed_or_idle hu s with ⟨code, ops, f, -, he, hf⟩ | he <;>
    obtain rfl := Host.Outcome.next.inj (he.symm.trans h)
  · rcases command_cases s code ops f with hc | hc <;> rw [hc]
    exact (hf (s.commanded code ops)).control hm
  · rfl

end Sys2Proof.Machine
end

section
/-! PROOFS. Frames of the maintenance link: the units of a command, the data output, and the chip select (R170, R171, R185). -/
namespace Sys2Proof.Machine

/-! ### The units of a command (R170, R185) -/

/-- The units stand for command `c` as soon as the last has arrived, whatever follows, and for none before. -/
def spells (c : Instr) (us : List Unit16) : Prop :=
  (∀ extra, commandOfUnits (us ++ extra) = some c) ∧ ∀ n < us.length, commandOfUnits (us.take n) = none

theorem spells_cons {c : Instr} {code : Unit16} {ops : List Unit16} (hall : ∀ extra, commandOfCode code (ops ++ extra) = some c)
    (hpart : ∀ n < ops.length, commandOfCode code (ops.take n) = none) : spells c (code :: ops) := by
  refine ⟨hall, fun n hn => ?_⟩
  cases n with
  | zero => rfl
  | succ n => exact hpart n (Nat.lt_of_succ_lt_succ hn)

theorem spells_bare {c : Instr} {code : Unit16} (h : ∀ us, commandOfCode code us = some c) : spells c [code] :=
  spells_cons (fun extra => h extra) fun _ hn => absurd hn (Nat.not_lt_zero _)

theorem spells_unit {f : Unit16 → Instr} {code : Unit16} (h : ∀ us, commandOfCode code us = withUnit f us) (x : Unit16) :
    spells (f x) [code, x] := by
  refine spells_cons (fun extra => h (x :: extra)) fun n hn => ?_
  obtain rfl : n = 0 := Nat.lt_one_iff.mp hn
  exact h []

theorem units32_append (v : BitVec 32) : v.extractLsb' 16 16 ++ v.extractLsb' 0 16 = v := by
  refine BitVec.eq_of_getLsbD_eq fun i hi => ?_
  rw [BitVec.getLsbD_append, BitVec.getLsbD_extractLsb', BitVec.getLsbD_extractLsb']
  by_cases h : i < 16
  · simp [h]
  · simp [h, show i - 16 < 16 by omega, show 16 + (i - 16) = i by omega]

theorem withValue_units32 (f : BitVec 32 → Instr) (v : BitVec 32) (extra : List Unit16) :
    withValue f (units32 v ++ extra) = some (f v) := congrArg (fun x => some (f x)) (units32_append v)

theorem withValue_partial (f : BitVec 32 → Instr) (v : BitVec 32) {n : Nat} (hn : n < 2) :
    withValue f ((units32 v).take n) = none :=
  match n with
  | 0 => rfl
  | 1 => rfl

theorem spells_setParam (sel : Unit16) (v : BitVec 32) : spells (.setParam sel v) (0x05 :: sel :: units32 v) := by
  refine spells_cons (fun extra => withValue_units32 (.setParam sel) v extra) fun n hn => ?_
  cases n with
  | zero => rfl
  | succ n => exact withValue_partial (.setParam sel) v (Nat.lt_of_succ_lt_succ hn)

theorem spells_readWordRequest (w : BitVec 32) : spells (.readWordRequest w) (0x16 :: units32 w) :=
  spells_cons (withValue_units32 .readWordRequest w) fun _ hn => withValue_partial .readWordRequest w hn

/-- The operand units of LOAD_REMAP's entries. -/
def entryUnits (es : List RemapOperand) : List Unit16 := es.flatMap fun e => [e.block, e.spare, e.state]

theorem entryUnits_length (es : List RemapOperand) : (entryUnits es).length = 3 * es.length := by
  induction es with
  | nil => rfl
  | cons e es ih =>
    rw [entryUnits, List.flatMap_cons, List.length_append, ← entryUnits, ih, List.length_cons, List.length_cons,
      List.length_cons, List.length_cons, List.length_nil]
    omega

theorem remapOperands_entryUnits (es : List RemapOperand) (extra : List Unit16) :
    remapOperands es.length (entryUnits es ++ extra) = some es := by
  induction es with
  | nil => rfl
  | cons e es ih => exact congrArg (Option.map (e :: ·)) ih

theorem remapOperands_short {n : Nat} {us : List Unit16} (h : us.length < 3 * n) : remapOperands n us = none := by
  induction n generalizing us with
  | zero => exact absurd h (Nat.not_lt_zero _)
  | succ n ih =>
    match us with
    | [] => rfl
    | [_] => rfl
    | [_, _] => rfl
    | b :: i :: x :: rest =>
      have hrest : rest.length < 3 * n := by
        simp only [List.length_cons] at h
        omega
      rw [remapOperands, ih hrest]
      rfl

theorem spells_loadRemap {n : Unit16} {es : List RemapOperand} (hw : (Instr.loadRemap n es).wellFormed = true) :
    spells (.loadRemap n es) (0x07 :: n :: entryUnits es) := by
  by_cases hn : 8 < n.toNat
  · obtain rfl := loadRemap_nil_of_wellFormed hw hn
    refine spells_cons (fun extra => if_pos hn) fun k hk => ?_
    obtain rfl : k = 0 := Nat.lt_one_iff.mp hk
    rfl
  · have hlen := loadRemap_length_of_wellFormed hw hn
    refine spells_cons (fun extra => ?_) fun k hk => ?_
    · show remapOfUnits (n :: (entryUnits es ++ extra)) = _
      rw [remapOfUnits, if_neg hn, ← hlen, remapOperands_entryUnits]
      rfl
    · cases k with
      | zero => rfl
      | succ k =>
        have hshort : ((entryUnits es).take k).length < 3 * n.toNat := by
          rw [List.length_cons, entryUnits_length, hlen] at hk
          rw [List.length_take]
          omega
        show remapOfUnits (n :: (entryUnits es).take k) = none
        rw [remapOfUnits, if_neg hn, remapOperands_short hshort]
        rfl

/-- A code that names no command is UNKNOWN_COMMAND as soon as it has arrived. -/
theorem commandOfCode_unknown {code : Unit16} (h : commandCode code = false) (us : List Unit16) :
    commandOfCode code us = some (.unknownCommand code) := by
  have hrange : ¬(1 ≤ code.toNat ∧ code.toNat ≤ 0x18) := of_decide_eq_false h
  unfold commandOfCode
  split
  case h_25 => rfl
  all_goals omega

/-- A well-formed command's units spell it. -/
theorem commandUnits_spells {c : Instr} {us : List Unit16} (hw : c.wellFormed = true) (hu : commandUnits c = some us) :
    spells c us := by
  cases c
  all_goals cases hu
  case unknownCommand code => exact spells_bare (commandOfCode_unknown (unknown_of_wellFormed hw))
  case setParam sel v => exact spells_setParam sel v
  case loadRemap n es => exact spells_loadRemap hw
  case readWordRequest w => exact spells_readWordRequest w
  case selectRegion | regionField | readRegion | readParam | setAlarmMask | ackAlarm | retireBlock =>
    exact spells_unit (fun _ => rfl) _
  all_goals exact spells_bare fun _ => rfl

/-! ### The data output (R171, R185) -/

theorem dataBits_eq_getMsbD (d : Unit16) : dataBits d = (List.range 16).map d.getMsbD := by
  refine List.ext_getElem (by simp [dataBits]) fun i hi _ => ?_
  rw [dataBits_length] at hi
  simp [dataBits, BitVec.getMsbD, hi]

/-- Units driven one after the other, each most significant bit first, are clocked in as they are. -/
theorem clockedUnits_driven (U : Nat → Unit16) (n : Nat) :
    clockedUnits n ((List.range (16 * n)).map fun i => (U (i / 16)).getMsbD (i % 16)) = (List.range n).map U := by
  induction n generalizing U with
  | zero => rfl
  | succ n ih =>
    have hbits : (List.range (16 * (n + 1))).map (fun i => (U (i / 16)).getMsbD (i % 16)) =
        dataBits (U 0) ++ (List.range (16 * n)).map fun i => (U (i / 16 + 1)).getMsbD (i % 16) := by
      rw [Nat.mul_succ, Nat.add_comm, List.range_add, List.map_append, List.map_map, dataBits_eq_getMsbD]
      refine congrArg₂ (· ++ ·) (List.map_congr_left fun i hi => ?_) (List.map_congr_left fun i _ => ?_)
      · have hlt := List.mem_range.mp hi
        rw [Nat.div_eq_of_lt hlt, Nat.mod_eq_of_lt hlt]
      · rw [Function.comp_apply, Nat.add_div_left i (by decide), Nat.add_mod_left]
    rw [hbits, clockedUnits, if_neg (by simp [dataBits_length]), List.take_left' (dataBits_length _),
      List.drop_left' (dataBits_length _), ih fun i => U (i + 1), bitsValue_dataBits, unit, BitVec.ofNat_toNat,
      BitVec.setWidth_eq, List.range_succ_eq_map, List.map_cons, List.map_map]
    rfl

/-- What the master clocks in of the units the link drives. -/
theorem clockedUnits_dataOut {s : State} {U : Nat → Unit16} (h : ∀ i, s.drivenUnit i = some (U i)) (n : Nat) :
    clockedUnits n ((List.range (16 * n)).map fun i => (s.dataOut i).getD false) = (List.range n).map U := by
  have hbit (i : Nat) : (s.dataOut i).getD false = (U (i / 16)).getMsbD (i % 16) := by
    rw [State.dataOut, h]
    rfl
  rw [funext hbit, clockedUnits_driven]

theorem drivenUnit_receiving {s : State} (h : s.mli.frame = .receiving) (i : Nat) : s.drivenUnit i = some 0xFFFF := by
  rw [State.drivenUnit, h]

theorem drivenUnit_responding {s : State} (h : s.mli.frame = .responding) (i : Nat) :
    s.drivenUnit i = some (s.mli.response.getD i 0xFFFF) := by
  rw [State.drivenUnit, h]

/-- The first n units of a response that idles at `d` after its end. -/
theorem map_getD_range {α : Type} (l : List α) (d : α) (n : Nat) :
    (List.range n).map (fun i => l.getD i d) = (l ++ List.replicate n d).take n := by
  refine List.ext_getElem (by simp) fun i hi _ => ?_
  rw [List.getElem_map, List.getElem_range, List.getElem_take, List.getElem_append]
  split
  next hlt => exact List.getD_eq_getElem _ _ hlt
  next hge => rw [List.getElem_replicate, List.getD_eq_default _ _ (not_lt.mp hge)]

/-! ### The chip select, and a code that names no command (R170) -/

theorem exec_chipSelectAssert {s : State} (hr : s.inReset = false) (hf : s.mli.frame = .idle) :
    exec .chipSelectAssert s = .next
      { s with mli := { s.mli with frame := .receiving, code := none, operands := [], response := [] } } :=
  congrArg Host.Outcome.next (if_pos (by simp [hr, hf]))

theorem exec_unknownCommand {s : State} (h : s.listens) {code : Unit16} (hc : code.toNat = 0 ∨ 24 < code.toNat) :
    exec (.unknownCommand code) s = .next { s with mli := s.replied code.toNat [] [3, 0, 0xFFFF] } := by
  have hunknown : commandCode code = false := decide_eq_false (by omega)
  show execUnknownCommand code s = _
  rw [execUnknownCommand, hunknown, if_neg Bool.false_ne_true, command_of_listens h]
  rfl

theorem receiving_false {s : State} (h : s.inReset = true ∨ s.mli.frame ≠ .receiving ∨ s.mli.code ≠ none) :
    s.receiving = false := by
  rcases h with h | h | h <;> simp [State.receiving, Option.isSome_iff_ne_none, h]

/-- Settles O54: the units of a command, its answer, the units clocked out, and the frame itself. -/
theorem linkFraming : Obligations.LinkFraming := by
  refine ⟨fun c us hw hu => ?_, fun s n => ⟨fun h => ?_, fun h => ?_⟩, fun s => ⟨exec_chipSelectAssert, rfl,
    fun code h => exec_unknownCommand h, fun c us hu h => exec_ignored hu (receiving_false h)⟩⟩
  · obtain ⟨hall, hpart⟩ := commandUnits_spells hw hu
    exact ⟨hall, hpart, fun s => exec_answered hw hu⟩
  · rw [clockedUnits_dataOut (drivenUnit_receiving h), List.map_const', List.length_range]
  · rw [clockedUnits_dataOut (drivenUnit_responding h), map_getD_range]

end Sys2Proof.Machine
end

section
/-! PROOFS. Power-on and system reset: the part held in reset, and the group a reset cuts short (R1, R66, R181). -/
namespace Sys2Proof.Machine

/-! ### The part held in reset (R181) -/

/-- The port is granted to nobody while the part is held in reset, so that no group is made (R61). -/
theorem exec_group_held {c : Instr} (hc : isGroup c = true) (p q : Memory) (n : Nat) (rest : List Instr) :
    exec c (State.powerOnValue true p q n rest) = .next (State.powerOnValue true p q n rest) := by
  cases c
  case procReadGroup | procPlainWriteGroup | procAgreedWriteGroup | procByteWriteGroup | lockedReadHalfGroup
    | lockedWriteHalfGroup | verdictWordWrite | copyWordRead | copyWordWrite | restoreWordRead | restoreWordWrite
    | retireWordRead | retireWordWrite | clearWrite | scrubWordCheck | diagnosticRead => rfl
  all_goals exact Bool.noConfusion hc

/-- HRESET keeps the processor from presenting a cycle, no access or marker is in hand, the twin link takes no units and no timer
runs. -/
theorem exec_event_held {c : Instr} (hc : isEvent c = true) (p q : Memory) (n : Nat) (rest : List Instr) :
    exec c (State.powerOnValue true p q n rest) = .next (State.powerOnValue true p q n rest) := by
  cases c
  case lockNegated o => cases o <;> rfl
  case accessPresented | takeAccess | presentedAccessWithdrawn | accessWithdrawn | lockedWriteHalfPresented | retireTake
    | scrubTimerExpiry | fixLocalKind | agreementTimerExpiry | cycleDeadlineExpiry | twinFrameReceived
    | twinLineIdleTimeout | linkTimerExpiry | idleFrameTimerExpiry | transmitFrameEnd => rfl
  all_goals exact Bool.noConfusion hc

/-- Settles O14, by the kind of the command: a maintenance command finds no frame it can be received in, the chip select finds the
frame closed, and a reset no group to cut short. -/
theorem heldInReset : Obligations.HeldInReset := by
  intro c p q n rest hc
  cases instrKind c with
  | group h => exact exec_group_held h p q n rest
  | event h => exact exec_event_held h p q n rest
  | maintenance us h => exact exec_ignored h rfl
  | chipSelect h => rcases h with rfl | rfl <;> rfl
  | reset h =>
    rcases h with rfl | rfl | rfl
    · exact congrArg Host.Outcome.next (intoReset_idle rfl)
    · exact congrArg Host.Outcome.next (intoReset_idle rfl)
    · exact absurd rfl hc

/-! ### The group a reset cuts short (R66, log 35) -/

/-- Memory between the two repairs of the scrub word check in hand (R144, R145). -/
theorem scrubMidway_eq {s : State} {x : Memory × Memory} (h : x ∈ s.scrubMidway) :
    ∃ k, s.txe.active = some .scrubBurst ∧ s.sru.cursor = some k ∧
      x = (s.repair k.word (s.terms k.word) (s.check true k.word (s.terms k.word))).planes := by
  unfold State.scrubMidway at h
  split at h
  next hactive hcursor => exact ⟨_, hactive, hcursor, List.mem_singleton.mp h⟩
  next => exact absurd h List.not_mem_nil

/-- A stage of the group in hand: between the repairs of the engine's scrub word check, or after the whole group. -/
theorem mem_groupStages {s : State} {x : Memory × Memory} (h : x ∈ s.groupStages) :
    s.mpt.grant = .engine ∧ x ∈ s.scrubMidway ∨ ∃ u, s.groupInHand = .next u ∧ x = u.planes := by
  unfold State.groupStages at h
  split at h
  · exact absurd h List.not_mem_nil
  · split at h
    next u hu =>
      rcases List.mem_append.mp h with hmid | hlast
      · split at hmid
        next hgrant => exact .inl ⟨hgrant, hmid⟩
        next => exact absurd hmid List.not_mem_nil
      · exact .inr ⟨u, hu, List.mem_singleton.mp hlast⟩
    next => exact absurd h List.not_mem_nil

/-- The planes a reset leaves: as they were, as the group in hand leaves them, or between the repairs of a scrub word check. -/
theorem cutPlanes_cases (s : State) :
    s.cutPlanes = s.planes ∨ (∃ g u, isGroup g = true ∧ exec g s = .next u ∧ s.cutPlanes = u.planes) ∨
      ∃ k, s.engineOn .scrubBurst ∧ s.sru.cursor = some k ∧
        s.cutPlanes = (s.repair k.word (s.terms k.word) (s.check true k.word (s.terms k.word))).planes := by
  rcases planesAfter_cases (s.planeP, s.planeQ) s.groupStages (Config.cutAfter s.cuts) with hbefore | hstage
  · exact .inl hbefore
  · rcases mem_groupStages hstage with ⟨hgrant, hmid⟩ | ⟨u, hu, hplanes⟩
    · obtain ⟨k, hactive, hcursor, hplanes⟩ := scrubMidway_eq hmid
      exact .inr (.inr ⟨k, ⟨hgrant, hactive⟩, hcursor, hplanes⟩)
    · rcases groupInHand_eq_exec s with hidle | ⟨g, hg, hexec⟩
      · obtain rfl := Host.Outcome.next.inj (hidle.symm.trans hu)
        exact .inl hplanes
      · exact .inr (.inl ⟨g, u, hg, hexec.symm.trans hu, hplanes⟩)

theorem cutPlanes_idle {s : State} (h : s.mpt.grant = .none) : s.cutPlanes = s.planes := by
  rw [State.cutPlanes, State.groupStages, if_pos h]
  rfl

/-- The two commands that assert a reset do the same. -/
theorem exec_reset_assert {c : Instr} (hc : c = .powerOn ∨ c = .systemResetAssert) (s : State) :
    exec c s = .next s.intoReset := by rcases hc with rfl | rfl <;> rfl

/-- Settles O15: the planes by how far the group had come, everything else by the power-on value. -/
theorem powerAndResetCommands : Obligations.PowerAndResetCommands := by
  refine fun s => ⟨fun c hc => ⟨s.cutPlanes.1, s.cutPlanes.2, _, exec_reset_assert hc s, fun hidle => ?_, ?_⟩,
    fun hr => congrArg Host.Outcome.next (if_pos hr), fun r p q n l => ⟨by cases r <;> rfl, rfl, rfl, fun i => rfl⟩⟩
  · rw [cutPlanes_idle hidle]
    exact ⟨rfl, rfl, if_pos (if_pos hidle)⟩
  · rcases cutPlanes_cases s with hp | ⟨g, u, hg, hexec, hp⟩ | ⟨k, hon, hcursor, hp⟩ <;> rw [hp]
    · exact .inl ⟨rfl, rfl⟩
    · exact .inr (.inl ⟨g, u, hg, hexec, rfl, rfl⟩)
    · exact .inr (.inr ⟨k, k.word, _, hon, hcursor, rfl, rfl, rfl, rfl⟩)

end Sys2Proof.Machine
end

section
/-! PROOFS. The control state and HRESET (R175 to R181). -/
namespace Sys2Proof.Machine

/-! ### The events of the control table (R175) -/

/-- A START clear's last word enters RUN; every other clear write keeps the control state (R177). -/
theorem clearStep_control (s : State) (o : ClearOp) (w : Nat) :
    (s.clearStep o w).mli.control = s.mli.control ∨ o.atStart = true ∧ (s.clearStep o w).mli.control = .run := by
  cases hnext : o.next with
  | some o' =>
    rw [clearStep_next hnext]
    split <;> simp [State.cleared]
  | none =>
    rw [clearStep_last hnext, engineSelectEnd_mli]
    split
    next hstart => exact .inr ⟨hstart, rfl⟩
    next => exact .inl rfl

theorem execClearWrite_control {s t : State} (h : exec .clearWrite s = .next t) :
    t.mli.control = s.mli.control ∨ ∃ o, s.txe.clear = some o ∧ o.atStart = true ∧ t.mli.control = .run := by
  change execClearWrite s = .next t at h
  unfold execClearWrite at h
  split at h
  next o w hgranted =>
    rcases onPort_next h with rfl | ⟨-, -, rfl⟩
    · exact .inl rfl
    · have hslot : s.txe.clear = some o := by
        unfold State.clearGranted at hgranted
        split at hgranted
        · obtain ⟨o', hclear, hplace⟩ := Option.bind_eq_some_iff.mp hgranted
          obtain ⟨p, -, hp⟩ := Option.map_eq_some_iff.mp hplace
          exact (Prod.mk.inj hp).1 ▸ hclear
        · cases hgranted
      exact (clearStep_control s o w).imp_right fun ⟨hstart, hrun⟩ => ⟨o, hslot, hstart, hrun⟩
  next =>
    obtain rfl := Host.Outcome.next.inj h
    exact .inl rfl

theorem exec_diagnosticRead_control {s t : State} (h : exec .diagnosticRead s = .next t) :
    t.mli.control = s.mli.control := by
  change execDiagnosticRead s = .next t at h
  unfold execDiagnosticRead at h
  split at h
  · exact onPort_field (·.mli.control) h (by simp [State.diagnose])
  · obtain rfl := Host.Outcome.next.inj h
    rfl

/-- A maintenance command keeps the control state, or does to it what carrying it out does. -/
theorem command_control {P : Control → Control → Prop} {s t : State} {code : Nat} {ops : List Unit16} {f : State → State}
    (h : Host.Outcome.next (s.command code ops f) = (.next t : Answer))
    (hf : ∀ u, (f u).mli.control = u.mli.control ∨ P u.mli.control (f u).mli.control) :
    t.mli.control = s.mli.control ∨ P s.mli.control t.mli.control := by
  obtain rfl := Host.Outcome.next.inj h
  rcases command_cases s code ops f with he | he <;> rw [he]
  · exact .inl rfl
  · exact hf (s.commanded code ops)

/-- START leaves CONFIG for INIT (R176). -/
theorem exec_start_control {s t : State} (h : exec .start s = .next t) :
    t.mli.control = s.mli.control ∨ s.mli.control = .config ∧ t.mli.control = .init :=
  command_control (P := fun x y => x = .config ∧ y = .init) h fun u => by
    split
    · exact .inl rfl
    next hc =>
      split
      · exact .inl rfl
      · exact .inr ⟨not_not.mp hc, by rw [answer_control, startRun_mli]⟩

/-- HOLD leaves RUN for HOLD (R178). -/
theorem exec_hold_control {s t : State} (h : exec .hold s = .next t) :
    t.mli.control = s.mli.control ∨ s.mli.control = .run ∧ t.mli.control = .hold :=
  command_control (P := fun x y => x = .run ∧ y = .hold) h fun u => by
    split
    next hc => exact .inr ⟨hc, by simp⟩
    all_goals exact .inl rfl

/-- RELEASE leaves HOLD for RUN (R179). -/
theorem exec_release_control {s t : State} (h : exec .release s = .next t) :
    t.mli.control = s.mli.control ∨ s.mli.control = .hold ∧ t.mli.control = .run :=
  command_control (P := fun x y => x = .hold ∧ y = .run) h fun u => by
    split
    · exact .inl rfl
    next hc =>
      split
      · exact .inl rfl
      · exact .inr ⟨not_not.mp hc, rfl⟩

/-- REINIT enters CONFIG from every control state (R180). -/
theorem exec_reinit_control {s t : State} (h : exec .reinit s = .next t) :
    t.mli.control = s.mli.control ∨ t.mli.control = .config :=
  command_control (P := fun _ y => y = .config) h fun _ => .inr rfl

theorem exec_reset_control {c : Instr} (hc : c = .powerOn ∨ c = .systemResetAssert ∨ c = .internalResetEnd) {s t : State}
    (h : exec c s = .next t) : t.mli.control = s.mli.control ∨ t.mli.control = .config := by
  rcases hc with rfl | rfl | rfl <;> obtain rfl := Host.Outcome.next.inj h
  · exact .inr rfl
  · exact .inr rfl
  · split
    · exact .inr rfl
    · exact .inl rfl

theorem movesControl_iff {c : Instr} : movesControl c = true ↔ c = .start ∨ c = .reinit ∨ c = .hold ∨ c = .release := by
  cases c <;> simp [movesControl]

theorem reportsToLink_iff {c : Instr} : reportsToLink c = true ↔ c = .clearWrite ∨ c = .diagnosticRead := by
  cases c <;> simp [reportsToLink]

/-! ### HRESET (R175, R181) -/

theorem hreset_eq_true_iff (s : State) :
    s.hreset = true ↔ s.inReset = true ∨ s.mli.control = .config ∨ s.mli.control = .init := by
  simp [State.hreset, or_assoc]

theorem hreset_released {s : State} (hr : s.inReset = false) (hc : s.mli.control = .run ∨ s.mli.control = .hold) :
    s.hreset = false := by
  refine eq_false_of_ne_true fun h => ?_
  have hasserted := (hreset_eq_true_iff s).mp h
  rcases hc with hc | hc <;> simp [hr, hc] at hasserted

/-- Settles O12, by the kind of the command; only the events of the table are left. -/
theorem controlStateChanges : Obligations.ControlStateChanges := by
  refine ⟨fun c s t h => ?_, fun s => ⟨(hreset_eq_true_iff s).mpr, hreset_released⟩⟩
  cases instrKind c with
  | event hc => exact .inl (congrArg Mli.control (exec_event_keepsMli s hc t h))
  | chipSelect hc =>
    refine .inl ?_
    rcases hc with rfl | rfl <;> obtain rfl := Host.Outcome.next.inj h
    · split <;> rfl
    · rfl
  | reset hc =>
    exact (exec_reset_control hc h).imp_right fun hconfig => .inr (.inr (.inr (.inr (.inr ⟨hc, hconfig⟩))))
  | group hc =>
    cases hr : reportsToLink c with
    | false => exact .inl (congrArg Mli.control (exec_group_keepsMli s hc hr t h))
    | true =>
      rcases reportsToLink_iff.mp hr with rfl | rfl
      · exact (execClearWrite_control h).imp_right fun ⟨o, hslot, hstart, hrun⟩ =>
          .inr (.inl ⟨rfl, ⟨o, hslot, hstart⟩, hrun, fun hinit => hinit o hslot hstart⟩)
      · exact .inl (exec_diagnosticRead_control h)
  | maintenance us hu =>
    cases hm : movesControl c with
    | false => exact .inl (exec_command_control hu hm h)
    | true =>
      rcases movesControl_iff.mp hm with rfl | rfl | rfl | rfl
      · exact (exec_start_control h).imp_right fun hmoved => .inl ⟨rfl, hmoved⟩
      · exact (exec_reinit_control h).imp_right fun hconfig => .inr (.inr (.inr (.inr (.inl ⟨rfl, hconfig⟩))))
      · exact (exec_hold_control h).imp_right fun hmoved => .inr (.inr (.inl ⟨rfl, hmoved⟩))
      · exact (exec_release_control h).imp_right fun hmoved => .inr (.inr (.inr (.inl ⟨rfl, hmoved⟩)))

end Sys2Proof.Machine
end

section
/-! PROOFS. The queue of waiting commands: a step takes its front command, and no command touches it (logs 4, 11, 34). -/
namespace Sys2Proof.Machine

/-! ### A step (log 4) -/

/-- Settles O5, by the two cases of the queue. -/
theorem stepRunsFrontCommand : Obligations.StepRunsFrontCommand := by
  refine ⟨fun c rest s => rfl, fun s h => ?_⟩
  rw [step, h]

/-! ### What an answer leaves of the queue -/

/-- A next state the answer gives has the queue of `s`. -/
def keepsQueue (s : State) (x : Answer) : Prop := ∀ t, x = .next t → t.pending = s.pending

theorem keepsQueue_next {s t : State} (h : t.pending = s.pending) : keepsQueue s (.next t) := fun u hu => by
  obtain rfl := Host.Outcome.next.inj hu
  exact h

theorem keepsQueue_self (s : State) : keepsQueue s (.next s) := keepsQueue_next rfl

theorem onPort_keepsQueue {s : State} {ready : Bool} {addrs : List Nat} {f : State → State}
    (hf : (f s).pending = s.pending) : keepsQueue s (onPort s ready addrs f) := fun _ ht =>
  onPort_field State.pending ht hf

theorem accessGroup_keepsQueue {s : State} {g : Grant} {p : AccessOp → Bool} {f : Access → State → State}
    (hf : ∀ a, (f a s).pending = s.pending) : keepsQueue s (s.accessGroup g p f) := fun _ ht =>
  accessGroup_field State.pending ht hf

theorem command_keepsQueue (s : State) (code : Nat) (ops : List Unit16) {f : State → State}
    (hf : ∀ m, (f { s with mli := m }).pending = s.pending) : keepsQueue s (.next (s.command code ops f)) :=
  keepsQueue_next (command_field State.pending s code ops f hf)

theorem after_pending {s : State} {x : Answer} (hx : keepsQueue s x) : (s.after x).pending = s.pending := by
  cases x with
  | next t => exact hx t rfl
  | fault _ => rfl
  | refused _ => rfl

/-! ### The groups at the port -/

@[simp] theorem readGroup_pending (s : State) (a : Access) : (s.readGroup a).pending = s.pending := by
  unfold State.readGroup
  dsimp only
  split <;> simp

@[simp] theorem plainWrite_pending (s : State) (a : Access) (d : Word) : (s.plainWrite a d).pending = s.pending := by
  simp [State.plainWrite]

@[simp] theorem agreedWrite_pending (s : State) (a : Access) (d : Word) : (s.agreedWrite a d).pending = s.pending := by
  unfold State.agreedWrite
  dsimp only
  split <;> simp

@[simp] theorem byteWrite_pending (s : State) (a : Access) (l : Lane) (b : BitVec 8) :
    (s.byteWrite a l b).pending = s.pending := by
  unfold State.byteWrite
  dsimp only
  split <;> simp

@[simp] theorem lockedRead_pending (s : State) (a : Access) : (s.lockedRead a).pending = s.pending := by
  unfold State.lockedRead
  dsimp only
  split
  · split <;> simp [State.openLocked]
  · simp

@[simp] theorem lockedWrite_pending (s : State) (a : Access) (h : WriteHalf) :
    (s.lockedWrite a h).pending = s.pending := by simp [State.lockedWrite]

theorem moveReadStep_keepsQueue (m : Move) (s : State) : keepsQueue s (moveReadStep m s) := by
  unfold moveReadStep
  split
  · exact onPort_keepsQueue (by simp)
  · exact keepsQueue_self s

theorem moveWriteStep_keepsQueue (m : Move) (s : State) : keepsQueue s (moveWriteStep m s) := by
  unfold moveWriteStep
  split
  · exact onPort_keepsQueue (by simp)
  · exact keepsQueue_self s

theorem execScrubWordCheck_keepsQueue (s : State) : keepsQueue s (execScrubWordCheck s) := by
  unfold execScrubWordCheck
  split
  · split
    · exact onPort_keepsQueue (by simp)
    · exact keepsQueue_next (by simp)
  · exact keepsQueue_self s

/-- A group not granted leaves the state alone; one that is granted makes its step at the port. -/
theorem exec_group_keepsQueue {c : Instr} (s : State) (hc : isGroup c = true) : keepsQueue s (exec c s) := by
  cases c
  case procReadGroup => exact accessGroup_keepsQueue (readGroup_pending s)
  case lockedReadHalfGroup => exact accessGroup_keepsQueue (lockedRead_pending s)
  case copyWordRead => exact moveReadStep_keepsQueue .copy s
  case copyWordWrite => exact moveWriteStep_keepsQueue .copy s
  case restoreWordRead => exact moveReadStep_keepsQueue .restore s
  case restoreWordWrite => exact moveWriteStep_keepsQueue .restore s
  case scrubWordCheck => exact execScrubWordCheck_keepsQueue s
  case procPlainWriteGroup | procAgreedWriteGroup | procByteWriteGroup | lockedWriteHalfGroup | verdictWordWrite
    | retireWordRead | retireWordWrite | clearWrite | diagnosticRead =>
    simp only [exec, execProcPlainWriteGroup, execProcAgreedWriteGroup, execProcByteWriteGroup, execLockedWriteHalfGroup,
      execVerdictWordWrite, execRetireWordRead, execRetireWordWrite, execClearWrite, execDiagnosticRead]
    split
    · exact onPort_keepsQueue (by simp)
    · exact keepsQueue_self s
  all_goals exact Bool.noConfusion hc

/-! ### The group carried through at a REINIT (R58, R80) -/

theorem procGroup_keepsQueue (s : State) (a : Access) : keepsQueue s (s.procGroup a) := by
  obtain ⟨g, hg, -, hexec⟩ := procGroup_eq_exec s a
  exact hexec ▸ exec_group_keepsQueue s hg

theorem carryAccess_pending (s : State) (a : Access) : (s.carryAccess a).pending = s.pending :=
  after_pending (s := { s with hbi := { s.hbi with access := some { a with withdrawn := true } } })
    (procGroup_keepsQueue _ _)

theorem carryRead_pending (s : State) (w : Nat) : (s.carryRead w).pending = s.pending :=
  after_pending (onPort_keepsQueue (repair_pending s _ _ _))

theorem carryMove_pending (s : State) (m : Move) : (s.carryMove m).pending = s.pending := by
  unfold State.carryMove
  split
  · exact carryRead_pending s _
  · rfl

theorem carryRetire_pending (s : State) : s.carryRetire.pending = s.pending := by
  unfold State.carryRetire
  split
  · exact carryRead_pending s _
  · exact after_pending (exec_group_keepsQueue (c := .retireWordWrite) s rfl)

theorem carryEngine_pending (s : State) (k : EngineKind) : (s.carryEngine k).pending = s.pending := by
  unfold State.carryEngine
  cases k with
  | clear => rfl
  | priorityBlock =>
    cases s.txe.priority with
    | none => rfl
    | some o => exact carryMove_pending s o.move
  | readWord => rfl
  | restorePass => exact carryMove_pending s .restore
  | checkpointPass => exact carryMove_pending s .copy
  | retire => exact carryRetire_pending s
  | scrubBurst => exact after_pending (execScrubWordCheck_keepsQueue s)

theorem carryThrough_pending (s : State) : s.carryThrough.pending = s.pending := by
  unfold State.carryThrough
  split
  · rfl
  · split
    · exact carryAccess_pending s _
    · rfl
  · split
    · exact carryAccess_pending s _
    · rfl
  · split
    · exact carryEngine_pending { s with hbi := { s.hbi with access := none } } _
    · rfl

@[simp] theorem groupEnded_pending (s : State) : s.groupEnded.pending = s.pending := by
  by_cases hg : s.mpt.grant = .none
  · rw [groupEnded_idle hg]
  · rcases groupEnded_cases hg with he | he <;> rw [he]
    exact carryThrough_pending s

/-! ### Every other command -/

theorem exec_event_keepsQueue {c : Instr} (s : State) (hc : isEvent c = true) : keepsQueue s (exec c s) := by
  cases c
  case accessPresented | lockedWriteHalfPresented => exact keepsQueue_next (present_pending s _)
  case presentedAccessWithdrawn => exact keepsQueue_next rfl
  case takeAccess | accessWithdrawn | lockNegated | retireTake | scrubTimerExpiry | fixLocalKind | agreementTimerExpiry
    | cycleDeadlineExpiry | twinFrameReceived | twinLineIdleTimeout | linkTimerExpiry =>
    exact keepsQueue_next (by (repeat' split) <;> simp)
  case idleFrameTimerExpiry | transmitFrameEnd => exact keepsQueue_next (by (repeat' split) <;> rfl)
  all_goals exact Bool.noConfusion hc

@[simp] theorem loadRemap_pending (s : State) (es : List RemapOperand) : (s.loadRemap es).pending = s.pending := by
  unfold State.loadRemap
  (repeat' split) <;> rfl

/-- A maintenance command is not received, or carried out by operations that keep the queue. -/
theorem exec_maintenance_keepsQueue {c : Instr} {us : List Unit16} (hu : commandUnits c = some us) (s : State) :
    keepsQueue s (exec c s) := by
  cases c
  all_goals cases hu
  case unknownCommand code =>
    refine keepsQueue_next ?_
    split
    · rfl
    · exact command_field State.pending s _ _ _ fun _ => rfl
  case loadRemap n es =>
    refine keepsQueue_next ?_
    split
    · exact command_field State.pending s _ _ _ fun _ => rfl
    · exact command_field State.pending s _ _ _ fun _ => by split <;> simp
  case getStatus | readRemap | readCounters | clearCounters | readEngine => exact command_keepsQueue s _ _ fun _ => rfl
  case reinit => exact command_keepsQueue s _ _ fun _ => groupEnded_pending _
  case selectRegion | readRegion | setParam | readParam | release | popFault | peekFault | setAlarmMask | ackAlarm
    | enableVital | requestRollback | readWordCollection =>
    exact command_keepsQueue s _ _ fun _ => by (repeat' split) <;> rfl
  case regionField | start | hold | readWordRequest => exact command_keepsQueue s _ _ fun _ => by (repeat' split) <;> simp
  case retireBlock => exact command_keepsQueue s _ _ fun _ => by dsimp only; (repeat' split) <;> simp

theorem exec_reset_keepsQueue {c : Instr} (s : State)
    (hc : c = .powerOn ∨ c = .systemResetAssert ∨ c = .internalResetEnd) : keepsQueue s (exec c s) := by
  rcases hc with rfl | rfl | rfl
  · exact keepsQueue_next rfl
  · exact keepsQueue_next rfl
  · exact keepsQueue_next (by split <;> rfl)

/-- Settles O6, by the kind of the command; a reset puts every block at its power-on value and hands the queue on. -/
theorem queueUntouched : Obligations.QueueUntouched := by
  intro c s
  cases instrKind c with
  | group hc => exact exec_group_keepsQueue s hc
  | event hc => exact exec_event_keepsQueue s hc
  | maintenance us hu => exact exec_maintenance_keepsQueue hu s
  | chipSelect hc =>
    rcases hc with rfl | rfl
    · exact keepsQueue_next (by split <;> rfl)
    · exact keepsQueue_next rfl
  | reset hc => exact exec_reset_keepsQueue s hc

end Sys2Proof.Machine
end

section
/-! PROOFS. A presented access refused: by its decode, or as a LOCKED sequence to the marker word (R31, R33, R41, R42). -/
namespace Sys2Proof.Machine

/-! ### The kinds of an access (R33, R41, R44) -/

theorem cycleOp_lines (addr : BitVec 24) (lock : Bool) (l : Lane) (d : Word) (b : BitVec 8) :
    cycleOp ⟨addr, .wordRead, lock⟩ = (if lock then .locked none else .wordRead) ∧
    cycleOp ⟨addr, .fetch, lock⟩ = (if lock then .locked none else .fetch) ∧
    cycleOp ⟨addr, .byteRead l, lock⟩ = (if lock then .locked none else .byteRead l) ∧
    cycleOp ⟨addr, .wordWrite d, lock⟩ = .wordWrite d ∧ cycleOp ⟨addr, .byteWrite l b, lock⟩ = .byteWrite l b :=
  ⟨rfl, rfl, rfl, rfl, rfl⟩

theorem accessKind_source_writes (k : AccessKind) :
    k.source = (if k = .fetch then .procFetch else if k = .wordWrite ∨ k = .byteWrite then .procWrite else .procRead) ∧
    k.writes = decide (k = .wordWrite ∨ k = .byteWrite ∨ k = .locked) := by
  cases k <;> decide

/-! ### The fault of a refusal (R33, R162) -/

/-- Decode refuses with one of three kinds. -/
theorem decodeAccess_refused {t : Table} {lo : Bool} {mw w : Nat} {ak : AccessKind} {k : FaultKind} {also : Option FaultKind}
    {r : Option Region} (h : decodeAccess t lo mw ak w = .refused k also r) : k = .unmapped ∨ k = .length ∨ k = .cls := by
  unfold decodeAccess at h
  dsimp only at h
  (repeat' split at h) <;> cases h <;> simp

/-- A fault of one of the kinds of decode, or of a LOCKED marker access, raises no taint. -/
theorem takeFault_untainted (s : State) {f : FaultReport} (hk : f.kind ≠ .uncorrectable ∧ f.kind ≠ .stale)
    (hs : f.suspect = false) : s.takeFault f = { s with fau := s.fau.take (s.recordOf f) } := by
  have hnone : faultTaints s.rgd.table f = ⟨false, false, false, false⟩ := by simp [faultTaints, hk, hs]
  rw [State.takeFault, hnone, raise_nothing]

/-! ### The take (R41, R42) -/

theorem takeAccess_taken {s : State} {c : BusCycle} {x : Decoded} (h : s.takes c x) :
    exec .takeAccess s = .next (s.take c) := by
  obtain ⟨hreset, hrun, hacc, hpres, -⟩ := h
  show execTakeAccess s = _
  rw [execTakeAccess, hpres]
  exact congrArg Host.Outcome.next (if_pos (by rw [hreset, hrun, hacc]; rfl))

theorem take_refused {s : State} {c : BusCycle} {k : FaultKind} {also : Option FaultKind} {r : Option Region}
    (h : s.takes c (.refused k also r)) :
    s.take c =
      { s.unpresented.takeFault (refusalFault c k also r) with
        hbi := { access := none, presented := none, busEnd := some .berr } } := by
  obtain ⟨-, -, hacc, -, hdec⟩ := h
  unfold State.take
  dsimp only
  rw [hdec, ← hacc]
  rfl

theorem take_lockedMarker {s : State} {c : BusCycle} {d : DecodeRecord} (h : s.takes c (.permitted d))
    (hm : d.marker = true) (hl : (cycleOp c).kind = .locked) :
    s.take c = (s.unpresented.takeFault (accessFault .markerForm .procRead (accessOf c d))).endAccess (accessOf c d) .berr := by
  obtain ⟨-, -, -, -, hdec⟩ := h
  unfold State.take
  dsimp only
  rw [hdec]
  exact if_pos (by rw [hm, hl]; rfl)

/-- Settles O20: what the take does with a refused access and with a LOCKED marker access, and that neither fault raises a taint. -/
theorem takeAccessRefused : Obligations.TakeAccessRefused := by
  refine ⟨cycleOp_lines, accessKind_source_writes, fun s c k also r ht => ?refused, fun s c d ht hm hl => ?marker⟩
  case refused =>
    have hkind : k ≠ .uncorrectable ∧ k ≠ .stale := by
      rcases decodeAccess_refused ht.2.2.2.2 with rfl | rfl | rfl <;> decide
    rw [takeAccess_taken ht, take_refused ht, takeFault_untainted _ hkind rfl]
    rfl
  case marker =>
    have hkind : FaultKind.markerForm ≠ .uncorrectable ∧ FaultKind.markerForm ≠ .stale := by decide
    rw [takeAccess_taken ht, take_lockedMarker ht hm hl, takeFault_untainted _ hkind rfl]
    rfl

end Sys2Proof.Machine
end

section
/-! PROOFS. The codes and the layouts of the responses, and the commands that report state (R20, R27, R80, R161, R163, R172 to R174,
R185). -/
namespace Sys2Proof.Machine

/-! ### Units (R185) -/

theorem units32_ofNat (n : Nat) : units32 (BitVec.ofNat 32 n) = [unit (n / 65536), unit n] := by
  have hhi : (BitVec.ofNat 32 n).extractLsb' 16 16 = unit (n / 65536) := by
    apply BitVec.eq_of_toNat_eq
    simp only [unit, BitVec.extractLsb'_toNat, BitVec.toNat_ofNat, Nat.shiftRight_eq_div_pow]
    omega
  have hlo : (BitVec.ofNat 32 n).extractLsb' 0 16 = unit n := by
    apply BitVec.eq_of_toNat_eq
    simp only [unit, BitVec.extractLsb'_toNat, BitVec.toNat_ofNat, Nat.shiftRight_zero]
    omega
  rw [units32, hhi, hlo]

theorem units32_eq (v : BitVec 32) : units32 v = [unit (v.toNat / 65536), unit v.toNat] := by
  rw [← units32_ofNat, BitVec.ofNat_toNat, BitVec.setWidth_eq]

theorem ofBytes_eq (hi lo : BitVec 8) : ofBytes hi lo = unit (256 * hi.toNat + lo.toNat) := by
  apply BitVec.eq_of_toNat_eq
  rw [ofBytes, BitVec.toNat_append, ← Nat.shiftLeft_add_eq_or_of_lt lo.isLt, unit, BitVec.toNat_ofNat]
  have := hi.isLt
  have := lo.isLt
  omega

theorem bit_eq (b : Bool) (i : Nat) : bit b i = 2 ^ i * b.toNat := by cases b <;> simp [bit]

theorem attrs_code_flagUnit (a : Attrs) : unit a.code = flagUnit [a.checkpoint, a.agreed, a.scrub, a.vital] := by
  simp only [Attrs.code, flagUnit, unit, bit_eq, List.foldr]
  congr 1
  omega

theorem alarmSet_code_lt (a : AlarmSet) : a.code < 256 := by
  have (b : Bool) := Bool.toNat_le b
  simp only [AlarmSet.code, bit_eq]
  grind

theorem alarmSet_code_flagUnit (a : AlarmSet) :
    unit a.code = flagUnit [a.faultQueued, a.queueFull, a.vitalDown, a.linkChange, a.retired, a.startDone] := by
  simp only [AlarmSet.code, flagUnit, unit, bit_eq, List.foldr]
  congr 1
  omega

theorem taintSet_code_lt (t : TaintSet) : t.code < 256 := by
  have (b : Bool) := Bool.toNat_le b
  simp only [TaintSet.code, bit_eq]
  grind

theorem taintSet_code_flagUnit (t : TaintSet) :
    unit t.code = flagUnit [t.unreadableOld, t.suspectBlock, t.hostUncorrectableAgreed, t.maint] := by
  simp only [TaintSet.code, flagUnit, unit, bit_eq, List.foldr]
  congr 1
  omega

theorem statusFlags_flagUnit (s : State) :
    unit s.statusFlags =
      flagUnit [s.holdClearInFlight, s.rgd.loadOpen, s.copyPassInFlight, s.restorePassInFlight, s.twl.linkUp, s.fau.ven,
        s.fau.latch, s.fau.epochFlag, s.fau.qualified, (match s.hbi.access with
          | some a => a.withdrawn
          | none => false), s.hbi.presented.isSome] := by
  have haccess : (s.hbi.access.map (·.withdrawn)).getD false = (match s.hbi.access with
      | some a => a.withdrawn
      | none => false) := by cases s.hbi.access <;> rfl
  simp only [State.statusFlags, flagUnit, unit, bit_eq, List.foldr, haccess]
  exact congrArg (BitVec.ofNat 16) (by ring)

/-! ### Layouts (R20, R151, R159, R172, R173) -/

theorem counter_code (k : FaultKind) : k.counter.val + 1 = k.code := by cases k <;> rfl

theorem faultRecord_units (f : FaultRecord) : f.units =
    [unit f.kind.code, unit (256 * (match f.also with
        | some k => k.code
        | none => 0)), unit (256 * f.source.code + f.vital.toNat)] ++
    (match f.word with
      | some w => [unit (w / 65536), unit w]
      | none => [0xFFFF, 0xFFFF]) ++
    [match f.region with
      | some r => unit r.val
      | none => 0xFFFF,
     match f.findings with
      | some x => unit (256 * x.qFinding.code + x.pFinding.code)
      | none => 0xFFFF,
     match f.findings with
      | some ⟨_, _, some n⟩ => unit n
      | _ => 0] ++
    (match f.position with
      | some p => [unit p.region.val, unit p.part.code, unit p.block, unit p.offset]
      | none => [0xFFFF, 0xFFFF, 0xFFFF, 0xFFFF]) ++
    [unit (256 * f.epoch.toNat + f.cycle.toNat)] := by
  obtain ⟨kind, also, source, word, region, findings, position, vital, epoch, cycle⟩ := f
  have hword : units32Or word = (match word with
      | some w => [unit (w / 65536), unit w]
      | none => [0xFFFF, 0xFFFF]) := by
    cases word with
    | none => rfl
    | some w => exact units32_ofNat w
  have hregion : unitOr (region.map (·.val)) = (match region with
      | some r => unit r.val
      | none => 0xFFFF) := by cases region <;> rfl
  have hdistance : unit ((findings.bind (·.distance)).getD 0) = (match findings with
      | some ⟨_, _, some n⟩ => unit n
      | _ => 0) := by
    match findings with
    | none => rfl
    | some ⟨_, _, none⟩ => rfl
    | some ⟨_, _, some n⟩ => rfl
  have hposition : positionUnits position = (match position with
      | some p => [unit p.region.val, unit p.part.code, unit p.block, unit p.offset]
      | none => [0xFFFF, 0xFFFF, 0xFFFF, 0xFFFF]) := by cases position <;> rfl
  simp only [FaultRecord.units, hword, hregion, hdistance, hposition, ofBytes_eq]
  rfl

theorem regionUnits_absent {s : State} {r : Region} (h : s.rgd.table.get r = none) :
    s.regionUnits r =
      [0, 0xFFFF, 0xFFFF, 0xFFFF, 0xFFFF, 0xFFFF, 0xFFFF, 0xFFFF, unit (s.ckc.ckState.get r).code, 0, 0, 0] := by
  simp only [State.regionUnits, BlockSet.ofRegion, h]
  rfl

theorem regionUnits_present {s : State} {r : Region} {d : Descriptor} (h : s.rgd.table.get r = some d) :
    s.regionUnits r =
      [unit d.cls.number, unit d.base, unit d.span, unit d.len, unit d.dir.code, unit d.key, unit d.attrs.code,
        (match d.shadow with
        | some sb => unit sb
        | none => 0xFFFF), unit (s.ckc.ckState.get r).code, unit (s.ckc.dirty.filter d.authorised).length,
        unit (s.ckc.pass.filter d.authorised).length, unit (s.ckc.restore.filter d.authorised).length] := by
  simp only [State.regionUnits, BlockSet.ofRegion, h]
  cases d.shadow <;> rfl

theorem remapUnits_eq (s : State) : s.remapUnits =
    [unit s.sru.remap.length] ++
    s.sru.remap.flatMap (fun e => [unit e.block, unit e.spare, if e.live then 0 else 1]) ++
    [unit s.sru.retireQueue.length] ++ s.sru.retireQueue.map unit ++
    [unit s.sru.history.length] ++
    s.sru.history.flatMap fun e => [unit (e.word / 65536), unit e.word, if e.plane = .p then 0 else 1] := by
  have hlive : ∀ b : Bool, unit (!b).toNat = if b then 0 else 1 := by decide
  have hplane : ∀ pl : Plane, unit pl.code = if pl = .p then 0 else 1 := fun pl => by cases pl <;> rfl
  simp only [State.remapUnits, units32_ofNat, hlive, hplane, List.cons_append, List.nil_append, List.append_assoc]

theorem statusUnits_eq (s : State) : s.statusUnits =
    [unit s.mli.control.code,
     flagUnit [s.holdClearInFlight, s.rgd.loadOpen, s.copyPassInFlight, s.restorePassInFlight, s.twl.linkUp, s.fau.ven,
       s.fau.latch, s.fau.epochFlag, s.fau.qualified, (match s.hbi.access with
        | some a => a.withdrawn
        | none => false), s.hbi.presented.isSome],
     unit (256 * phaseCode s.hbi.access + s.mli.readResult.code),
     unit (256 * s.cau.epoch.toNat + s.cau.cycle.toNat),
     unit (256 * s.cau.lastVerdict.code + s.cau.marker.code), unit (256 * s.cau.taint.code + s.cau.carry.code),
     unit (s.cau.digest.toNat / 65536), unit s.cau.digest.toNat] ++
    (match s.sru.cursor with
      | some c => [unit c.region.val, unit c.block, unit c.offset]
      | none => [0xFFFF, 0xFFFF, 0xFFFF]) ++
    [unit (256 * s.fau.queue.length + s.fau.pending.code)] := by
  rw [State.statusUnits, statusFlags_flagUnit, units32_eq, ofBytes_eq]
  cases s.sru.cursor <;> rfl

/-! ### The engine report (R80) -/

theorem mem_waitingKinds (x : Txe) (k : EngineKind) :
    k ∈ x.waitingKinds ↔ x.slotBegun k ≠ none ∧ x.active ≠ some k := by
  have hall : k ∈ allKinds := by cases k <;> decide
  simp only [Txe.waitingKinds, List.mem_filter, hall, true_and, Bool.and_eq_true, Option.isSome_iff_ne_none, bne_iff_ne]

theorem waitingKinds_nodup (x : Txe) : x.waitingKinds.Nodup :=
  List.Nodup.filter _ (by decide : allKinds.Nodup)

theorem engineUnits_eq (s : State) : s.engineUnits =
    [unit (256 * (match s.txe.active with
      | some k => k.code
      | none => 0) + s.mpt.grant.code)] ++
    (match s.txe.active with
      | some k => s.slotPosition k
      | none => [0xFFFF, 0xFFFF, 0xFFFF, 0xFFFF]) ++
    [unit (256 * s.txe.fifoMode.code + s.txe.fifo.length), unit s.txe.waitingKinds.length] ++
    s.txe.waitingKinds.flatMap fun k =>
      [unit k.code, if s.txe.slotBegun k = some true then 2 else 1] ++ s.slotPosition k := by
  have hstate (k : EngineKind) : unit (if s.txe.slotBegun k = some true then 2 else 1) =
      if s.txe.slotBegun k = some true then 2 else 1 := by split <;> rfl
  simp only [State.engineUnits, hstate]
  cases s.txe.active <;> rfl

theorem slotPosition_empty {s : State} {k : EngineKind} (h : s.txe.slotBegun k = none) :
    s.slotPosition k = [0xFFFF, 0xFFFF, 0xFFFF, 0xFFFF] := by
  cases k <;> simp only [Txe.slotBegun, Option.map_eq_none_iff] at h <;>
    simp only [State.slotPosition, h] <;> rfl

theorem oldest_of_not_draining {x : Txe} (h : x.fifoMode ≠ .draining) : x.oldest = none := if_neg h

/-- The position of a block move that does not drain: the next word of the block it reads (log 7). -/
theorem moveAt_reading {s : State} (hmode : s.txe.fifoMode ≠ .draining) {d : Descriptor} {sb : Nat} (m : Move) {p : PassPos}
    (hd : s.rgd.table.get p.region = some d) (hsb : d.shadow = some sb) (active : Bool) :
    positionUnits (some (s.moveAt m p active)) = match m with
      | .copy => [unit p.region.val, 0, unit p.block, unit p.offset]
      | .restore => [unit p.region.val, 1, unit (sb + (p.block - d.base)), unit p.offset] := by
  have hold : (if active then s.txe.oldest else none) = none := by rw [oldest_of_not_draining hmode, ite_self]
  have hshadow : s.shadowBlock p.region p.block = sb + (p.block - d.base) := by
    simp [State.shadowBlock, hd, Descriptor.shadowOf, hsb]
  unfold State.moveAt
  rw [hold]
  cases m with
  | copy => rfl
  | restore =>
    simp only [State.moveBlocks, hshadow]
    rfl

theorem slotPosition_retire {s : State} (hmode : s.txe.fifoMode ≠ .draining) {o : RetireOp} (h : s.txe.retire = some o) :
    s.slotPosition .retire = [unit o.region.val, unit o.part.code, unit o.block, unit o.offset] := by
  simp only [State.slotPosition, h, oldest_of_not_draining hmode, ite_self, Option.map_some]
  rfl

theorem slotPosition_priority {s : State} (hmode : s.txe.fifoMode ≠ .draining) {o : PriorityOp} {d : Descriptor} {sb : Nat}
    (h : s.txe.priority = some o) (hd : s.rgd.table.get o.region = some d) (hsb : d.shadow = some sb) :
    s.slotPosition .priorityBlock = match o.move with
      | .copy => [unit o.region.val, 0, unit o.block, unit o.offset]
      | .restore => [unit o.region.val, 1, unit (sb + (o.block - d.base)), unit o.offset] := by
  simp only [State.slotPosition, h, Option.map_some]
  exact moveAt_reading hmode o.move (p := ⟨o.region, o.block, o.offset⟩) hd hsb _

theorem slotPosition_pass {s : State} (hmode : s.txe.fifoMode ≠ .draining) (m : Move) {o : PassOp} {p : PassPos}
    {d : Descriptor} {sb : Nat} (h : s.txe.passSlot m = some o) (hp : o.pos = some p)
    (hd : s.rgd.table.get p.region = some d) (hsb : d.shadow = some sb) :
    s.slotPosition m.passKind = match (generalizing := false) m with
      | .copy => [unit p.region.val, 0, unit p.block, unit p.offset]
      | .restore => [unit p.region.val, 1, unit (sb + (p.block - d.base)), unit p.offset] := by
  cases m with
  | copy =>
    rw [Txe.passSlot] at h
    simp only [State.slotPosition, Move.passKind, h, hp, Option.bind_some, Option.map_some]
    exact moveAt_reading hmode .copy hd hsb _
  | restore =>
    rw [Txe.passSlot] at h
    simp only [State.slotPosition, Move.passKind, h, hp, Option.bind_some, Option.map_some]
    exact moveAt_reading hmode .restore hd hsb _

theorem slotPosition_clear {s : State} {o : ClearOp} {c : ClearRange} {cs : List ClearRange} (h : s.txe.clear = some o)
    (hc : o.ranges = c :: cs) :
    s.slotPosition .clear = [unit c.region.val, unit c.part.code, unit (match c.dir with
      | .up => c.lo + o.done
      | .down => c.lo + c.count - 1 - o.done), unit o.offset] := by
  simp only [State.slotPosition, h, Option.bind_some, ClearOp.place, hc, List.head?_cons, Option.map_some]
  rfl

/-! ### The commands (R20, R27, R80, R161, R163, R172, R174) -/

theorem exec_readRegion {s : State} (h : s.listens) (n : Unit16) :
    exec (.readRegion n) s = .next
      (if 15 < n.toNat then (s.commanded 0x04 [n]).badOperand
      else (s.commanded 0x04 [n]).answer .done (s.regionUnits (Fin.ofNat 16 n.toNat))) :=
  congrArg Host.Outcome.next (command_of_listens h _ _ _)

theorem exec_readParam {s : State} (h : s.listens) (n : Unit16) :
    exec (.readParam n) s = .next
      (match s.mli.params.get n.toNat with
      | none => (s.commanded 0x06 [n]).badOperand
      | some v => (s.commanded 0x06 [n]).answer .done (units32 (BitVec.ofNat 32 v))) :=
  congrArg Host.Outcome.next (command_of_listens h _ _ _)

theorem exec_peekFault {s : State} (h : s.listens) :
    exec .peekFault s = .next
      (match s.fau.queue with
      | r :: _ => (s.commanded 0x0E []).answer .done r.units
      | [] => (s.commanded 0x0E []).answer .empty []) :=
  congrArg Host.Outcome.next (command_of_listens h _ _ _)

/-- The held values, by their selector. -/
theorem params_get_listed (p : Params) (sel : Nat) (h1 : 1 ≤ sel) (h9 : sel ≤ 9) :
    p.get sel = [p.exponent, p.spareBase, p.spareCount, p.marker, (if p.twinMode = .single then 0 else 1), p.burst,
      p.scrubInterval, p.agreementTimeout, p.deadline][sel - 1]? := by
  have hmode : p.get 5 = some (if p.twinMode = .single then 0 else 1) := by
    simp only [Params.get]
    cases p.twinMode <;> rfl
  interval_cases sel
  on_goal 5 => exact hmode
  all_goals rfl

theorem params_get_unknown {sel : Nat} (h : sel = 0 ∨ 9 < sel) (p : Params) : p.get sel = none := by
  obtain rfl | h := h
  · rfl
  · obtain ⟨n, rfl⟩ := Nat.exists_eq_add_of_le h
    rw [Nat.add_comm]
    rfl

/-- Settles O55: the codes one by one, each layout by the state it reports, and each command by what it answers. -/
theorem readCommands : Obligations.ReadCommands := by
  refine ⟨?codes, faultRecord_units, fun r => ?report, fun s r => ⟨regionUnits_absent, fun d => regionUnits_present⟩,
    remapUnits_eq, statusUnits_eq, fun s => ⟨?engine, fun k => slotPosition_empty, fun o h => ?readWord, fun o h => ?scrub,
      fun o c cs => slotPosition_clear, fun hmode => ⟨fun o => slotPosition_retire hmode,
        fun o d sb => slotPosition_priority hmode, fun m o p d sb => slotPosition_pass hmode m⟩⟩, fun s h => ?commands⟩
  case codes =>
    exact ⟨rfl, rfl, rfl, rfl, rfl, counter_code, rfl, rfl, rfl, rfl, rfl, rfl, rfl, rfl, rfl, rfl, rfl, rfl, rfl,
      fun _ => rfl, rfl, fun _ => rfl, attrs_code_flagUnit, fun a => ⟨alarmSet_code_lt a, alarmSet_code_flagUnit a⟩,
      fun t => ⟨taintSet_code_lt t, taintSet_code_flagUnit t⟩⟩
  case report => rfl
  case engine => exact ⟨s.txe.waitingKinds, waitingKinds_nodup _, mem_waitingKinds _, engineUnits_eq s⟩
  case readWord =>
    simp only [State.slotPosition, h, Option.map_some, units32Or, units32_ofNat]
    rfl
  case scrub =>
    simp only [State.slotPosition, h, Option.map_some]
    rfl
  case commands =>
    refine ⟨congrArg Host.Outcome.next (command_of_listens h _ _ _), fun n hn => ?_, fun n hn => ?_,
      fun n v h1 h9 hv => ?_, fun n hn => ?_, congrArg Host.Outcome.next (command_of_listens h _ _ _),
      congrArg Host.Outcome.next (command_of_listens h _ _ _), fun r rest hq => ?_, fun hq => ?_,
      congrArg Host.Outcome.next (command_of_listens h _ _ _)⟩
    · rw [exec_readRegion h, if_neg (by omega)]
      rfl
    · rw [exec_readRegion h, if_pos (by omega)]
      rfl
    · rw [exec_readParam h, params_get_listed _ _ h1 h9, hv, ← units32_ofNat]
      rfl
    · rw [exec_readParam h, params_get_unknown hn]
      rfl
    · rw [exec_peekFault h, hq]
      rfl
    · rw [exec_peekFault h, hq]
      rfl

end Sys2Proof.Machine
end

section
/-! PROOFS. SELECT_REGION and REGION_FIELD: the fields of a descriptor with their ranges, and what turns the commands away (R21, R27,
R28, R30, R57, R185). -/
namespace Sys2Proof.Machine

/-! ### The fields of a descriptor (R21, R28, R185) -/

@[simp] theorem classOfCode_number (c : RegionClass) : classOfCode c.number = some c := by cases c <;> rfl

theorem classOfCode_none {n : Nat} (h : n = 0 ∨ 5 < n) : classOfCode n = none := by
  obtain rfl | h := h
  · rfl
  · obtain ⟨m, rfl⟩ := Nat.exists_eq_add_of_le h
    rw [Nat.add_comm]
    rfl

theorem directionOfCode_eq (n : Nat) :
    directionOfCode n = if n = 0 then some .up else if n = 1 then some .down else none := by
  match n with
  | 0 => rfl
  | 1 => rfl
  | n + 2 => rfl

/-- The attribute unit gives its attributes back. -/
theorem attrsOfUnit_flagUnit (a : Attrs) : attrsOfUnit (flagUnit [a.checkpoint, a.agreed, a.scrub, a.vital]) = some a := by
  obtain ⟨c, g, s, v⟩ := a
  revert c g s v
  decide

theorem attrsOfUnit_none {v : Unit16} (h : 16 ≤ v.toNat) : attrsOfUnit v = none := if_neg (by omega)

theorem loadField_class (g : Staging) (v : Unit16) :
    loadField g 0 v = (classOfCode v.toNat).map fun c => { g with cls := c } := rfl

theorem loadField_direction (g : Staging) (v : Unit16) :
    loadField g 4 v = (directionOfCode v.toNat).map fun c => { g with dir := c } := rfl

theorem loadField_attrs (g : Staging) (v : Unit16) :
    loadField g 6 v = (attrsOfUnit v).map fun a => { g with attrs := a } := rfl

/-! ### What makes REGION_FIELD wait (R28, R57) -/

theorem passInFlight_iff (s : State) :
    s.passInFlight = true ↔ ∃ r, s.ckc.ckState.get r = .copying ∨ s.ckc.ckState.get r = .restoring := by
  simp only [State.passInFlight, State.copyPassInFlight, State.restorePassInFlight, Bool.or_eq_true, List.any_eq_true,
    mem_allRegions, true_and, beq_iff_eq, exists_or]

theorem installBusy_iff (s : State) :
    s.installBusy = true ↔
      (∃ r, s.ckc.ckState.get r = .copying ∨ s.ckc.ckState.get r = .restoring) ∨ s.txe.retire ≠ none ∨
        s.txe.clear ≠ none ∨ s.hbi.access ≠ none := by
  simp only [State.installBusy, Bool.or_eq_true, passInFlight_iff, Option.isSome_iff_ne_none, or_assoc]

/-! ### The two commands (R27, R28) -/

theorem configOrHold_iff (s : State) : s.configOrHold = true ↔ s.mli.control = .config ∨ s.mli.control = .hold := by
  simp only [State.configOrHold, Bool.or_eq_true, beq_iff_eq]

theorem configOrHold_false {s : State} (h : s.mli.control = .run ∨ s.mli.control = .init) : s.configOrHold = false := by
  rcases h with h | h <;> simp [State.configOrHold, h]

theorem exec_selectRegion {s : State} (h : s.listens) (n : Unit16) :
    exec (.selectRegion n) s = .next
      (if !s.configOrHold then (s.commanded 0x02 [n]).answer .wrongState []
      else if 15 < n.toNat then (s.commanded 0x02 [n]).badOperand
      else State.answer { s.commanded 0x02 [n] with rgd := { s.rgd.discard with pointer := Fin.ofNat 16 n.toNat } }
        .done []) := congrArg Host.Outcome.next (command_of_listens h _ _ _)

theorem exec_regionField {s : State} (h : s.listens) (v : Unit16) :
    exec (.regionField v) s = .next
      (if !s.configOrHold then (s.commanded 0x03 [v]).answer .wrongState []
      else if s.mli.control = .hold ∧ s.installBusy = true then (s.commanded 0x03 [v]).answer .busy []
      else (s.commanded 0x03 [v]).takeField v) := congrArg Host.Outcome.next (command_of_listens h _ _ _)

/-- A field that is not turned away. -/
theorem exec_regionField_taken {s : State} (h : s.listens) (v : Unit16)
    (hc : s.mli.control = .config ∨ s.mli.control = .hold ∧ s.installBusy = false) :
    exec (.regionField v) s = .next ((s.commanded 0x03 [v]).takeField v) := by
  have hopen : s.configOrHold = true := (configOrHold_iff s).mpr (hc.imp id And.left)
  have hfree : ¬(s.mli.control = .hold ∧ s.installBusy = true) := by
    rintro ⟨hh, hb⟩
    rcases hc with hc | ⟨-, hb'⟩
    · exact Control.noConfusion (hc.symm.trans hh)
    · exact Bool.noConfusion (hb.symm.trans hb')
  rw [exec_regionField h, hopen, if_neg (by decide), if_neg hfree]

/-- A field before the eighth is staged. -/
theorem takeField_staged {u : State} {v : Unit16} {g : Staging} (h7 : u.rgd.phase ≠ 7) (h0 : u.rgd.phase = 0 → v ≠ 0)
    (hg : loadField u.rgd.staging u.rgd.phase v = some g) :
    u.takeField v = State.answer { u with rgd := { u.rgd with staging := g, phase := u.rgd.phase + 1 } } .done [] := by
  unfold State.takeField
  rw [if_neg fun hc : _ ∧ _ => h0 hc.1 hc.2, hg]
  exact if_neg h7

theorem takeField_refused {u : State} {v : Unit16} (h0 : u.rgd.phase = 0 → v ≠ 0)
    (hg : loadField u.rgd.staging u.rgd.phase v = none) : u.takeField v = u.badOperand := by
  unfold State.takeField
  rw [if_neg fun hc : _ ∧ _ => h0 hc.1 hc.2, hg]

/-- Settles O56: each field by its range, what makes REGION_FIELD wait, and both commands by the control state. -/
theorem regionLoading : Obligations.RegionLoading := by
  refine ⟨fun g v n hn => ?fields, installBusy_iff, fun s h => ⟨fun hc n => ⟨fun hn => ?selected, fun hn => ?noEntry⟩,
    fun hc => ⟨fun v g h7 h0 hg => ?staged, fun v h0 hg => ?outOfRange⟩, fun hc hb v => ?busy, fun hc v => ⟨?_, ?_⟩⟩⟩
  case fields =>
    subst hn
    refine ⟨fun c hc => ?_, fun hno => ?_, rfl, rfl, rfl, ?_, rfl, fun a ha => ?_, fun hno => ?_, rfl⟩
    · rw [loadField_class, hc, classOfCode_number, Option.map_some]
    · rw [loadField_class, classOfCode_none hno, Option.map_none]
    · rw [loadField_direction, directionOfCode_eq]
      split_ifs <;> rfl
    · rw [loadField_attrs, ha, attrsOfUnit_flagUnit, Option.map_some]
    · rw [loadField_attrs, attrsOfUnit_none hno, Option.map_none]
  case selected =>
    rw [exec_selectRegion h, (configOrHold_iff s).mpr hc, if_neg (by decide), if_neg (by omega)]
    rfl
  case noEntry =>
    rw [exec_selectRegion h, (configOrHold_iff s).mpr hc, if_neg (by decide), if_pos (by omega)]
    rfl
  case staged =>
    rw [exec_regionField_taken h v hc, takeField_staged (u := s.commanded 0x03 [v]) h7 h0 hg]
    rfl
  case outOfRange =>
    rw [exec_regionField_taken h v hc, takeField_refused (u := s.commanded 0x03 [v]) h0 hg]
    rfl
  case busy =>
    rw [exec_regionField h, (configOrHold_iff s).mpr (.inr hc), if_neg (by decide), if_pos ⟨hc, hb⟩]
    rfl
  · rw [exec_selectRegion h, configOrHold_false hc, if_pos (by decide)]
    rfl
  · rw [exec_regionField h, configOrHold_false hc, if_pos (by decide)]
    rfl

end Sys2Proof.Machine
end

section
/-! PROOFS. The installation of a descriptor or of its absence: the entry, the layout tag, the checkpoint state, the trim of D and the
blocks to clear (R25, R29, R30, R34, R36 to R39, R141). -/
namespace Sys2Proof.Machine

/-! ### One entry replaced (R29) -/

@[simp] theorem put_get_same (t : Table) (r : Region) (d : Option Descriptor) : (t.put r d).get r = d :=
  Vector.getElem_set_self _

theorem put_get_other {r r' : Region} (h : r' ≠ r) (t : Table) (d : Option Descriptor) : (t.put r d).get r' = t.get r' := by
  simp only [Table.put, Vector.get_eq_getElem]
  exact Vector.getElem_set_ne _ _ fun hc => h (Fin.ext hc.symm)

theorem installedState_put (t : Table) (r : Region) (d : Option Descriptor) :
    installedState d = if hasAttr (·.checkpoint) (t.put r d) r then .broken else .none := by
  rw [hasAttr, put_get_same]
  cases d <;> rfl

/-! ### The layout tag (R34) -/

/-- What an entry adds to the layout tag. -/
def tagTerm (o : Option Descriptor) : Nat :=
  match o with
  | some d => if d.attrs.agreed then d.base + d.len + d.key else 0
  | none => 0

theorem layoutTagOf_eq (t : Table) : layoutTagOf t = BitVec.ofNat 16 (allRegions.map fun r => tagTerm (t.get r)).sum := rfl

theorem layoutTagOf_unagreed {t : Table} (h : ∀ r d, t.get r = some d → d.attrs.agreed = false) : layoutTagOf t = 0 := by
  have hterm : ∀ r, tagTerm (t.get r) = 0 := fun r => by
    cases hd : t.get r with
    | none => rfl
    | some d => simp [tagTerm, h r d hd]
  simp [layoutTagOf_eq, hterm]

/-- One term of a sum replaced. -/
theorem sum_map_replaced {l : List Region} (hl : l.Nodup) {r : Region} (hr : r ∈ l) {f g : Region → Nat} (h0 : f r = 0)
    (h : ∀ r' ≠ r, g r' = f r') : (l.map g).sum = (l.map f).sum + g r := by
  induction l with
  | nil => cases hr
  | cons x l ih =>
    obtain ⟨hx, hl⟩ := List.nodup_cons.mp hl
    rw [List.map_cons, List.sum_cons, List.map_cons, List.sum_cons]
    rcases List.mem_cons.mp hr with rfl | hr
    · have hrest : l.map g = l.map f := List.map_congr_left fun y hy => h y fun hc => hx (hc ▸ hy)
      rw [hrest, h0]
      omega
    · rw [ih hl hr, h x fun hc => hx (hc ▸ hr)]
      omega

theorem layoutTagOf_put {t : Table} {r : Region} (h : t.get r = none) (new : Option Descriptor) :
    layoutTagOf (t.put r new) = layoutTagOf t + unit (tagTerm new) := by
  have hsum := sum_map_replaced allRegions_nodup (mem_allRegions r) (f := fun r => tagTerm (t.get r))
    (g := fun r' => tagTerm ((t.put r new).get r')) (by simp [h, tagTerm]) fun r' hr => by simp only [put_get_other hr]
  rw [layoutTagOf_eq, layoutTagOf_eq, hsum, put_get_same, BitVec.ofNat_add]
  rfl

/-! ### The blocks to clear (R38) -/

theorem mem_clearedBlocks_single (c : ClearRange) (b : Nat) : b ∈ clearedBlocks [c] ↔ c.lo ≤ b ∧ b < c.lo + c.count := by
  simp [clearedBlocks, List.mem_range'_1]

theorem mem_clearedBlocks_authRange (r : Region) (d : Descriptor) (b : Nat) :
    b ∈ clearedBlocks [authRange r d] ↔ d.authorised b = true := by
  rw [mem_clearedBlocks_single]
  simp [authRange, Descriptor.authorised]

theorem installClears_none (r : Region) (old : Option Descriptor) : installClears r old none = [] := by cases old <;> rfl

/-- A descriptor that reads or places its blocks otherwise clears all of them. -/
theorem installClears_changed {r : Region} {o d : Descriptor}
    (h : d.cls ≠ o.cls ∨ d.key ≠ o.key ∨ d.base ≠ o.base ∨ d.dir ≠ o.dir ∨ d.span ≠ o.span ∧ d.dir = .down) :
    installClears r (some o) (some d) = [authRange r d] := if_pos h

/-- The blocks by which a descriptor that keeps its place grows. -/
def grownRange (r : Region) (o d : Descriptor) : ClearRange :=
  { region := r, part := .working
    lo := match d.dir with
      | .up => d.base + o.len
      | .down => d.authLow
    count := d.len - o.len, dir := d.dir }

theorem installClears_kept {r : Region} {o d : Descriptor} (hc : d.cls = o.cls) (hk : d.key = o.key) (hb : d.base = o.base)
    (hd : d.dir = o.dir) (hs : d.dir = .down → d.span = o.span) :
    installClears r (some o) (some d) = if o.len < d.len then [grownRange r o d] else [] :=
  if_neg fun h => by
    rcases h with h | h | h | h | ⟨h, hdown⟩
    exacts [h hc, h hk, h hb, h hd, h (hs hdown)]

theorem authorised_up {d : Descriptor} (h : d.dir = .up) (b : Nat) :
    d.authorised b = true ↔ d.base ≤ b ∧ b < d.base + d.len := by
  simp only [Descriptor.authorised, Descriptor.authLow, h, decide_eq_true_eq]

theorem authorised_down {d : Descriptor} (h : d.dir = .down) (b : Nat) :
    d.authorised b = true ↔ d.base + d.span - d.len ≤ b ∧ b < d.base + d.span - d.len + d.len := by
  simp only [Descriptor.authorised, Descriptor.authLow, h, decide_eq_true_eq]

theorem mem_clearedBlocks_grown {r : Region} {o d : Descriptor} (hlen : d.len ≤ d.span) (hb : d.base = o.base)
    (hd : d.dir = o.dir) (hs : d.dir = .down → d.span = o.span) (hgrow : o.len < d.len) (b : Nat) :
    b ∈ clearedBlocks [grownRange r o d] ↔ d.authorised b = true ∧ o.authorised b = false := by
  rw [mem_clearedBlocks_single, ← Bool.not_eq_true]
  cases hdir : d.dir with
  | up =>
    rw [authorised_up hdir, authorised_up (hd ▸ hdir)]
    simp only [grownRange, hdir]
    omega
  | down =>
    have hspan := hs hdir
    rw [authorised_down hdir, authorised_down (hd ▸ hdir)]
    simp only [grownRange, hdir, Descriptor.authLow]
    omega

/-- Every range cleared lies in the working blocks of the entry, in its new direction. -/
theorem installClears_place {r : Region} {old new : Option Descriptor} {c : ClearRange} (h : c ∈ installClears r old new) :
    c.region = r ∧ c.part = .working ∧ ∃ d, new = some d ∧ c.dir = d.dir := by
  cases new with
  | none => simp [installClears_none] at h
  | some d =>
    suffices hc : c = authRange r d ∨ ∃ o, c = grownRange r o d by
      rcases hc with rfl | ⟨o, rfl⟩ <;> exact ⟨rfl, rfl, d, rfl, rfl⟩
    cases old with
    | none => exact .inl (List.mem_singleton.mp h)
    | some o =>
      by_cases hch : d.cls ≠ o.cls ∨ d.key ≠ o.key ∨ d.base ≠ o.base ∨ d.dir ≠ o.dir ∨ d.span ≠ o.span ∧ d.dir = .down
      · rw [installClears_changed hch] at h
        exact .inl (List.mem_singleton.mp h)
      · push Not at hch
        obtain ⟨hcls, hkey, hbase, hdir, hspan⟩ := hch
        rw [installClears_kept hcls hkey hbase hdir fun hdown => by_contra fun hne => hspan hne hdown] at h
        split at h
        · exact .inr ⟨o, List.mem_singleton.mp h⟩
        · cases h

/-! ### The state an installation leaves (R29, R36 to R39, R141) -/

/-- A clear that is requested stays in its slot. -/
theorem clear_of_unbegun {x y : Txe} (h : y.unbegun = x.unbegun) {o : ClearOp} (ho : x.clear = some o) :
    ∃ begun, y.clear = some { o with begun := begun } := by
  have hx : x.unbegun.clear = some { o with begun := false } := congrArg (Option.map _) ho
  obtain ⟨o', hy, he⟩ := Option.map_eq_some_iff.mp ((congrArg Txe.clear h).trans hx)
  cases o
  cases o'
  cases he
  exact ⟨_, hy⟩

/-- What an installation leaves in either control state. -/
structure InstalledIn (u t : State) (new : Option Descriptor) : Prop where
  rgd : t.rgd = u.rgd.install new
  sru : t.sru = { u.sru with cursor := scrubAdjust (u.rgd.install new).table u.sru.cursor }
  ckState : t.ckc.ckState = (u.ckc.setState u.rgd.pointer (installedState new)).ckState
  mli : t.mli = u.mli
  frame : { t with
    rgd := u.rgd, ckc := { t.ckc with ckState := u.ckc.ckState, dirty := u.ckc.dirty }, sru := u.sru, mpt := u.mpt
    txe := u.txe } = u

theorem installConfig_installedIn (u : State) (new : Option Descriptor) : InstalledIn u (u.installConfig new) new :=
  ⟨rfl, rfl, rfl, rfl, rfl⟩

/-- An installation in HOLD before its clear is requested. -/
def State.replacedHold (u : State) (new : Option Descriptor) : State :=
  { u with
    rgd := u.rgd.install new
    ckc := Ckc.setState { u.ckc with dirty := u.ckc.dirty.filter (checkpointed (u.rgd.install new).table) } u.rgd.pointer
      (installedState new)
    sru := { u.sru with cursor := scrubAdjust (u.rgd.install new).table u.sru.cursor } }

/-- The blocks that an installation at the pointer clears. -/
def State.pointerClears (u : State) (new : Option Descriptor) : List ClearRange :=
  installClears u.rgd.pointer (u.rgd.table.get u.rgd.pointer) new

theorem installHold_eq (u : State) (new : Option Descriptor) :
    u.installHold new =
      if u.pointerClears new = [] then u.replacedHold new
      else State.settle { u.replacedHold new with
        txe := { u.txe with clear := some ⟨false, u.pointerClears new, 0, 0, false⟩ } } := rfl

theorem installHold_ckc (u : State) (new : Option Descriptor) : (u.installHold new).ckc = (u.replacedHold new).ckc := by
  rw [installHold_eq]
  split <;> simp

theorem installHold_installedIn (u : State) (new : Option Descriptor) : InstalledIn u (u.installHold new) new where
  rgd := by rw [installHold_eq]; split <;> simp [State.replacedHold]
  sru := by rw [installHold_eq]; split <;> simp [State.replacedHold]
  ckState := by rw [installHold_ckc]; rfl
  mli := installHold_mli u new
  frame := by apply State.ext <;> simp [installHold_ckc, State.replacedHold, Ckc.setState]

theorem installHold_unclearing {u : State} {new : Option Descriptor} (h : u.pointerClears new = []) :
    u.installHold new = u.replacedHold new := by rw [installHold_eq, if_pos h]

theorem installHold_clearing {u : State} {new : Option Descriptor} (h : u.pointerClears new ≠ []) :
    ∃ begun, (u.installHold new).txe.clear = some ⟨false, u.pointerClears new, 0, 0, begun⟩ := by
  rw [installHold_eq, if_neg h]
  exact clear_of_unbegun (o := ⟨false, u.pointerClears new, 0, 0, false⟩) (settle_unbegun _) rfl

/-! ### The field that installs (R29, R30) -/

/-- The state whose command has been received and whose staging descriptor is the one to install. -/
def State.toInstall (s : State) (v : Unit16) (g : Staging) : State :=
  { s.commanded 0x03 [v] with rgd := { s.rgd with staging := g } }

/-- The field is the eighth, or a class field of 0. -/
def installingField (s : State) (v : Unit16) (g : Staging) (new : Option Descriptor) : Prop :=
  s.rgd.phase = 7 ∧ v.toNat ≤ 32767 ∧ g = { s.rgd.staging with shadow := v.toNat } ∧ new = some g.toDescriptor ∨
    s.rgd.phase = 0 ∧ v = 0 ∧ g = s.rgd.staging ∧ new = none

theorem takeField_installs {s : State} {v : Unit16} {g : Staging} {new : Option Descriptor}
    (h : installingField s v g new) : (s.commanded 0x03 [v]).takeField v = (s.toInstall v g).install new := by
  rcases h with ⟨h7, hv, rfl, rfl⟩ | ⟨h0, rfl, rfl, rfl⟩
  · have hphase : (s.commanded 0x03 [v]).rgd.phase = 7 := h7
    have hload : loadField (s.commanded 0x03 [v]).rgd.staging 7 v = some { s.rgd.staging with shadow := v.toNat } :=
      if_pos hv
    unfold State.takeField
    rw [hphase, if_neg fun hc : _ ∧ _ => absurd hc.1 (by decide), hload]
    rfl
  · exact if_pos ⟨h0, rfl⟩

theorem install_config {u : State} (h : u.mli.control = .config) (new : Option Descriptor) :
    u.install new = (u.installConfig new).answer .done [] := if_neg (by rw [h]; decide)

theorem install_hold {u : State} {new : Option Descriptor} (h : u.mli.control = .hold)
    (hv : validateTable (u.rgd.table.put u.rgd.pointer new) u.mli.params = none) :
    u.install new = (u.installHold new).answer .done [] := by
  rw [State.install, if_pos h, hv]

theorem install_refused {u : State} {new : Option Descriptor} (h : u.mli.control = .hold) {k : Reason} {r : Option Region}
    (hv : validateTable (u.rgd.table.put u.rgd.pointer new) u.mli.params = some (k, r)) :
    u.install new = u.answerBad k r := by
  rw [State.install, if_pos h, hv]

/-- What both installations give back, told of the state the command found. -/
theorem installedIn_answered {s w : State} {v : Unit16} {g : Staging} {new : Option Descriptor}
    (h : InstalledIn (s.toInstall v g) w new) :
    let t := w.answer .done []
    t.mli = s.replied 0x03 [v] [0] ∧
      t.rgd.pointer = s.rgd.pointer + 1 ∧ t.rgd.phase = 0 ∧ t.rgd.staging = Staging.empty ∧
      t.rgd.loadOpen = s.rgd.loadOpen ∧ t.rgd.layoutTag = layoutTagOf t.rgd.table ∧
      t.sru = { s.sru with cursor := scrubAdjust t.rgd.table s.sru.cursor } ∧
      (∀ r, r ≠ s.rgd.pointer → t.rgd.table.get r = s.rgd.table.get r ∧ t.ckc.ckState.get r = s.ckc.ckState.get r) ∧
      t.rgd.table.get s.rgd.pointer = new ∧
      t.ckc.ckState.get s.rgd.pointer = (if hasAttr (·.checkpoint) t.rgd.table s.rgd.pointer then .broken else .none) ∧
      { t with rgd := s.rgd, ckc := { t.ckc with ckState := s.ckc.ckState, dirty := s.ckc.dirty }, sru := s.sru
               mli := s.mli, mpt := s.mpt, txe := s.txe } = s := by
  intro t
  have hrgd : t.rgd = s.rgd.install new := h.rgd
  have hck : t.ckc.ckState = (s.ckc.setState s.rgd.pointer (installedState new)).ckState := h.ckState
  rw [hrgd, hck]
  refine ⟨?_, rfl, rfl, rfl, rfl, rfl, h.sru, fun r hr => ⟨put_get_other hr _ _, setState_get_other hr _ _⟩,
    put_get_same _ _ _, (setState_get_same _ _ _).trans (installedState_put _ _ _), ?_⟩
  · rw [answer_mli, h.mli]
    rfl
  · exact congrArg (fun u : State => { u with rgd := s.rgd, mli := s.mli }) h.frame

/-- Settles O57: the installation in either control state, the tag as a sum, and the blocks to clear by what changed. -/
theorem regionInstalled : Obligations.RegionInstalled := by
  refine ⟨fun s v g new h hfield => ⟨fun hc => ?installed, fun k r hc hb hv => ?refused, fun d hd => ?clamped⟩,
    fun t => layoutTagOf_unagreed, fun t r new hr => ?tag, fun r old new => ⟨fun c => installClears_place, fun hn => ?absent,
      fun d hd hlen hspan => ⟨fun ho b => ?fresh, fun o ho holen hospan => ⟨fun hch b => ?changed, ?kept⟩⟩⟩⟩
  case installed =>
    have hfree : s.mli.control = .config ∨ s.mli.control = .hold ∧ s.installBusy = false := hc.imp id fun x => ⟨x.1, x.2.1⟩
    have hexec := exec_regionField_taken h v hfree
    rw [takeField_installs hfield] at hexec
    rcases hc with hc | ⟨hc, -, hv⟩
    · rw [install_config (u := s.toInstall v g) hc] at hexec
      obtain ⟨hmli, hptr, hph, hst, hlo, htag, hsru, hoth, hget, hck, hframe⟩ :=
        installedIn_answered (installConfig_installedIn (s.toInstall v g) new)
      exact ⟨_, hexec, hmli, hptr, hph, hst, hlo, htag, hsru, hoth, hget, hck, fun _ => ⟨rfl, rfl, rfl⟩,
        fun hh => absurd (hc.symm.trans hh) (by decide), hframe⟩
    · rw [install_hold (u := s.toInstall v g) hc hv] at hexec
      obtain ⟨hmli, hptr, hph, hst, hlo, htag, hsru, hoth, hget, hck, hframe⟩ :=
        installedIn_answered (installHold_installedIn (s.toInstall v g) new)
      refine ⟨_, hexec, hmli, hptr, hph, hst, hlo, htag, hsru, hoth, hget, hck,
        fun hh => absurd (hc.symm.trans hh) (by decide), fun _ => ⟨fun x => ?_, fun hcl => ?_, fun hcl => ?_⟩, hframe⟩
      · rw [answer_ckc, answer_rgd, installHold_ckc, (installHold_installedIn (s.toInstall v g) new).rgd]
        exact List.mem_filter
      · rw [answer_txe, answer_mpt, installHold_unclearing (u := s.toInstall v g) hcl]
        exact ⟨rfl, rfl⟩
      · exact installHold_clearing (u := s.toInstall v g) hcl
  case refused =>
    rw [exec_regionField_taken h v (.inr ⟨hc, hb⟩), takeField_installs hfield, install_refused (u := s.toInstall v g) hc hv]
    rfl
  case clamped =>
    subst hd
    refine ⟨rfl, rfl, rfl, rfl, rfl, rfl, ?_, ?_, ?_, ?_, rfl⟩ <;> cases hcls : g.cls <;>
      simp [Staging.toDescriptor, clampAttrs, classTakes, hcls]
  case tag =>
    rw [layoutTagOf_put hr]
    cases new with
    | none => rfl
    | some d => dsimp only [tagTerm]; split <;> rfl
  case absent => rw [hn, installClears_none]
  case fresh =>
    rw [hd, ho]
    exact mem_clearedBlocks_authRange r d b
  case changed =>
    rw [hd, ho, installClears_changed hch]
    exact mem_clearedBlocks_authRange r d b
  case kept =>
    intro hcls hkey hbase hdir hdown
    rw [hd, ho, installClears_kept hcls hkey hbase hdir hdown]
    refine ⟨fun hgrow b => ?_, fun hle => if_neg (by omega)⟩
    rw [if_pos hgrow]
    exact mem_clearedBlocks_grown hspan hbase hdir hdown hgrow b

end Sys2Proof.Machine
end

section
/-! PROOFS. Validation of the region table, and what the START clear covers (R35, R36, R78, R176). -/
namespace Sys2Proof.Machine

/-! ### The search for a descriptor (R35) -/

/-- A descriptor found is present, and meets what was searched for. -/
theorem firstRegion_meets {p : Region → Descriptor → Bool} {t : Table} {r : Region} {d : Descriptor}
    (h : firstRegion p t = some (r, d)) : t.get r = some d ∧ p r d = true := by
  have hd := firstRegion_present h
  unfold firstRegion at h
  obtain ⟨r', -, hr'⟩ := List.exists_of_findSome?_eq_some h
  split at hr'
  · split at hr'
    next hp =>
      cases hr'
      exact ⟨hd, hp⟩
    next => cases hr'
  · cases hr'

/-- Some present descriptor meets `p`. -/
theorem anyRegion_iff {p : Region → Descriptor → Bool} {t : Table} :
    anyRegion p t = true ↔ ∃ r, ∃ d ∈ t.get r, p r d = true := by
  constructor
  · intro h
    obtain ⟨⟨r, d⟩, hf⟩ := Option.isSome_iff_exists.mp h
    obtain ⟨hd, hp⟩ := firstRegion_meets hf
    exact ⟨r, d, hd, hp⟩
  · rintro ⟨r, d, hd, hp⟩
    by_contra hnone
    have hall : firstRegion p t = none := by simpa [anyRegion] using hnone
    rw [firstRegion, List.findSome?_eq_none_iff] at hall
    have hr := hall r (mem_allRegions r)
    rw [show t.get r = some d from hd] at hr
    simp [hp] at hr

theorem anyRegion_eq_false {p : Region → Descriptor → Bool} {t : Table} :
    anyRegion p t = false ↔ ¬∃ r, ∃ d ∈ t.get r, p r d = true := by
  rw [← anyRegion_iff, Bool.not_eq_true]

/-- The lowest-numbered descriptor that meets `p` is the one reported. -/
theorem breaker_of_first {p : Region → Descriptor → Bool} {t : Table} {r : Region} (h : ∃ d ∈ t.get r, p r d = true)
    (hfirst : ∀ r' < r, ¬∃ d ∈ t.get r', p r' d = true) : breaker p t = some r := by
  obtain ⟨d, hd, hp⟩ := h
  have hleast : firstRegion p t = some (r, d) := by
    refine findSome?_of_least allRegions_pairwise (mem_allRegions r) ?_ fun r' _ hr' => ?_
    · rw [show t.get r = some d from hd]
      simp [hp]
    · by_contra hlt
      refine hfirst r' (not_le.mp hlt) ?_
      cases hd' : t.get r' with
      | none => simp [hd'] at hr'
      | some d' => exact ⟨d', rfl, by simpa [hd'] using hr'⟩
  rw [breaker, hleast]
  rfl

/-! ### The conditions of R35 -/

/-- Two runs meet exactly when they share a block; an empty run shares none. -/
theorem runsMeet_iff {lo₁ n₁ lo₂ n₂ : Nat} :
    runsMeet lo₁ n₁ lo₂ n₂ = true ↔ ∃ b, (lo₁ ≤ b ∧ b < lo₁ + n₁) ∧ lo₂ ≤ b ∧ b < lo₂ + n₂ := by
  rw [runsMeet, decide_eq_true_eq]
  constructor
  · intro h
    exact ⟨max lo₁ lo₂, by omega, by omega⟩
  · rintro ⟨b, h1, h2⟩
    omega

theorem windowsMeet_iff {d d' : Descriptor} :
    runsMeet d.base d.span d'.base d'.span = true ↔ ∃ b, d.inWindow b = true ∧ d'.inWindow b = true := by
  simp only [runsMeet_iff, Descriptor.inWindow, decide_eq_true_eq]

theorem inShadow_at {d : Descriptor} {sb : Nat} (h : d.shadow = some sb) (b : Nat) :
    d.inShadow b = true ↔ sb ≤ b ∧ b < sb + d.span := by
  simp only [Descriptor.inShadow, h, decide_eq_true_eq]

theorem not_inShadow {d : Descriptor} (h : d.shadow = none) (b : Nat) : d.inShadow b = false := by
  simp only [Descriptor.inShadow, h]

/-- The check of one descriptor that a condition with a descriptor makes. -/
def rowBreaker (t : Table) (p : Params) : Reason → Region → Descriptor → Bool
  | .windowRange => fun _ d => !decide (d.base + d.span ≤ p.blocks)
  | .shadowRange => fun _ d => match d.shadow with
    | some sb => !decide (sb + d.span ≤ p.blocks)
    | none => false
  | .windowOverlap => windowOverlaps t
  | .spareOverlap => fun _ d => runsMeet p.spareBase p.spareCount d.base d.span
  | .shadowOverlap => shadowOverlaps t p
  | _ => fun _ _ => false

/-- A condition fails, as validation computes it. -/
def rowFails (t : Table) (p : Params) : Reason → Bool
  | .spareRange => decide (p.spareCount ≠ 0) && !decide (p.spareBase + p.spareCount ≤ p.blocks)
  | .markerPlace => !markerPlaced t p
  | k => anyRegion (rowBreaker t p k) t

/-- The descriptor a condition reports. -/
def rowReport (t : Table) (p : Params) : Reason → Option Region
  | .spareRange | .markerPlace => none
  | k => breaker (rowBreaker t p k) t

theorem tableChecks_eq (t : Table) (p : Params) :
    tableChecks t p = tableRows.map fun k => (k, rowFails t p k, rowReport t p k) := rfl

theorem windowOverlaps_iff {t : Table} {r : Region} {d : Descriptor} :
    windowOverlaps t r d = true ↔ ∃ r' > r, ∃ d' ∈ t.get r', ∃ b, d.inWindow b = true ∧ d'.inWindow b = true := by
  simp only [windowOverlaps, anyRegion_iff, Bool.and_eq_true, decide_eq_true_eq, windowsMeet_iff]
  constructor
  · rintro ⟨r', d', hd', hr, hb⟩
    exact ⟨r', hr, d', hd', hb⟩
  · rintro ⟨r', hr, d', hd', hb⟩
    exact ⟨r', d', hd', hr, hb⟩

/-- The shadow of `d'` shares a block with the run of a shadow at `sb` over the span of `d`. -/
def shadowsMeet (d : Descriptor) (sb : Nat) (d' : Descriptor) : Bool :=
  match d'.shadow with
  | some sb' => runsMeet sb d.span sb' d'.span
  | none => false

theorem shadowsMeet_iff {d d' : Descriptor} {sb : Nat} (h : d.shadow = some sb) :
    shadowsMeet d sb d' = true ↔ ∃ b, d.inShadow b = true ∧ d'.inShadow b = true := by
  unfold shadowsMeet
  cases hsb' : d'.shadow with
  | none => simp [not_inShadow hsb']
  | some sb' => simp only [runsMeet_iff, inShadow_at h, inShadow_at hsb']

theorem shadowOverlaps_eq {t : Table} {p : Params} {r : Region} {d : Descriptor} {sb : Nat} (h : d.shadow = some sb) :
    shadowOverlaps t p r d =
      (anyRegion (fun r' d' => runsMeet sb d.span d'.base d'.span || (decide (r ≠ r') && shadowsMeet d sb d')) t ||
        runsMeet sb d.span p.spareBase p.spareCount) := by
  unfold shadowOverlaps
  rw [h]
  rfl

theorem shadowOverlaps_iff {t : Table} {p : Params} {r : Region} {d : Descriptor} :
    shadowOverlaps t p r d = true ↔ ∃ b, d.inShadow b = true ∧
      (p.inSpares b ∨ ∃ r', ∃ d' ∈ t.get r', d'.inWindow b = true ∨ r' ≠ r ∧ d'.inShadow b = true) := by
  cases hsb : d.shadow with
  | none => simp [shadowOverlaps, hsb, not_inShadow hsb]
  | some sb =>
    have hwindow (d' : Descriptor) : runsMeet sb d.span d'.base d'.span = true ↔
        ∃ b, d.inShadow b = true ∧ d'.inWindow b = true := by
      simp only [runsMeet_iff, inShadow_at hsb, Descriptor.inWindow, decide_eq_true_eq]
    have hspares : runsMeet sb d.span p.spareBase p.spareCount = true ↔ ∃ b, d.inShadow b = true ∧ p.inSpares b := by
      simp only [runsMeet_iff, inShadow_at hsb, Params.inSpares]
    simp only [shadowOverlaps_eq hsb, Bool.or_eq_true, anyRegion_iff, Bool.and_eq_true, decide_eq_true_eq,
      shadowsMeet_iff hsb, hwindow, hspares]
    constructor
    · rintro (⟨r', d', hd', ⟨b, hb, hw⟩ | ⟨hne, b, hb, hs⟩⟩ | ⟨b, hb, hs⟩)
      · exact ⟨b, hb, .inr ⟨r', d', hd', .inl hw⟩⟩
      · exact ⟨b, hb, .inr ⟨r', d', hd', .inr ⟨hne.symm, hs⟩⟩⟩
      · exact ⟨b, hb, .inl hs⟩
    · rintro ⟨b, hb, hs | ⟨r', d', hd', hw | ⟨hne, hs⟩⟩⟩
      · exact .inr ⟨b, hb, hs⟩
      · exact .inl ⟨r', d', hd', .inl ⟨b, hb, hw⟩⟩
      · exact .inl ⟨r', d', hd', .inr ⟨hne.symm, b, hb, hs⟩⟩

theorem spareOverlap_iff {p : Params} {d : Descriptor} :
    runsMeet p.spareBase p.spareCount d.base d.span = true ↔ ∃ b, p.inSpares b ∧ d.inWindow b = true := by
  simp only [runsMeet_iff, Params.inSpares, Descriptor.inWindow, decide_eq_true_eq]

theorem shadowRange_iff {p : Params} {d : Descriptor} :
    (match d.shadow with
      | some sb => !decide (sb + d.span ≤ p.blocks)
      | none => false) = true ↔ ∃ sb ∈ d.shadow, p.blocks < sb + d.span := by
  cases d.shadow <;> simp

/-- The descriptors a condition finds are those that break it. -/
theorem rowBreaker_iff {t : Table} {p : Params} {k : Reason} {r : Region} :
    (∃ d ∈ t.get r, rowBreaker t p k r d = true) ↔ breaksRow t p k r := by
  refine exists_congr fun d => and_congr_right fun _ => ?_
  cases k
  case windowRange => simp [rowBreaker]
  case shadowRange => exact shadowRange_iff
  case windowOverlap => exact windowOverlaps_iff
  case spareOverlap => exact spareOverlap_iff
  case shadowOverlap => exact shadowOverlaps_iff
  all_goals simp [rowBreaker]

theorem markerPlaced_iff {t : Table} {p : Params} :
    markerPlaced t p = true ↔ ∃ r, ∃ d ∈ t.get r, d.cls = .work ∧ d.attrs.checkpoint = false ∧ d.attrs.agreed = false ∧
      d.authorised (p.marker / 128) = true := by
  rw [markerPlaced, anyRegion_iff]
  simp only [Bool.and_eq_true, Bool.not_eq_true', beq_iff_eq, and_assoc]
  rfl

theorem rowFails_iff {t : Table} {p : Params} (k : Reason) : rowFails t p k = true ↔ failsRow t p k := by
  have hsearch : anyRegion (rowBreaker t p k) t = true ↔ ∃ r, breaksRow t p k r := by
    rw [anyRegion_iff]
    exact exists_congr fun r => rowBreaker_iff
  cases k
  case spareRange => simp [rowFails, failsRow]
  case markerPlace =>
    rw [failsRow, ← markerPlaced_iff, Bool.not_eq_true]
    exact iff_of_eq (Bool.not_eq_true' _)
  all_goals exact hsearch

/-- Validation finds nothing exactly when no condition fails. -/
theorem validateTable_none_iff (t : Table) (p : Params) :
    validateTable t p = none ↔ ∀ k ∈ tableRows, ¬failsRow t p k := by
  simp only [validateTable, tableChecks_eq, List.findSome?_eq_none_iff, List.mem_map, forall_exists_index, and_imp,
    forall_apply_eq_imp_iff₂, ite_eq_right_iff, reduceCtorEq, imp_false, rowFails_iff]

/-- The first condition that fails is the one reported. -/
theorem validateTable_first {t : Table} {p : Params} {pre post : List Reason} {k : Reason}
    (hrows : tableRows = pre ++ k :: post) (hpre : ∀ j ∈ pre, ¬failsRow t p j) (hk : failsRow t p k) :
    validateTable t p = some (k, rowReport t p k) := by
  have hnone : (pre.map fun k => (k, rowFails t p k, rowReport t p k)).findSome?
      (fun c => if c.2.1 then some (c.1, c.2.2) else none) = none := by
    simp only [List.findSome?_eq_none_iff, List.mem_map, forall_exists_index, and_imp, forall_apply_eq_imp_iff₂,
      ite_eq_right_iff, reduceCtorEq, imp_false, rowFails_iff]
    exact hpre
  rw [validateTable, tableChecks_eq, hrows, List.map_append, List.findSome?_append, hnone, List.map_cons,
    List.findSome?_cons]
  simp [(rowFails_iff k).mpr hk]

theorem rowReport_region {t : Table} {p : Params} {k : Reason} (h1 : k ≠ .spareRange) (h2 : k ≠ .markerPlace) {r : Region}
    (h : breaksRow t p k r) (hfirst : ∀ r' < r, ¬breaksRow t p k r') : rowReport t p k = some r := by
  have hfound : breaker (rowBreaker t p k) t = some r :=
    breaker_of_first (rowBreaker_iff.mpr h) fun r' hr' hc => hfirst r' hr' (rowBreaker_iff.mp hc)
  cases k
  case spareRange => exact absurd rfl h1
  case markerPlace => exact absurd rfl h2
  all_goals exact hfound

theorem blocks_mul (p : Params) (h : 16 ≤ p.exponent) : p.blocks * 128 = 2 ^ p.exponent := by
  rw [Params.blocks, show 128 = 2 ^ 7 from rfl, ← Nat.pow_add, Nat.sub_add_cancel (by omega)]

/-! ### The START clear (R78) -/

/-- The ranges of one entry's descriptor. -/
def entryClears (r : Region) (d : Descriptor) : List ClearRange :=
  authRange r d :: (match d.shadow with
    | some sb => [shadowRangeOf r d sb]
    | none => [])

theorem mem_entryClears {r : Region} {d : Descriptor} {c : ClearRange} :
    c ∈ entryClears r d ↔ c = authRange r d ∨ ∃ sb, d.shadow = some sb ∧ c = shadowRangeOf r d sb := by
  unfold entryClears
  cases d.shadow <;> simp

theorem entryClears_region {r : Region} {d : Descriptor} {c : ClearRange} (h : c ∈ entryClears r d) :
    c.region = r ∧ c.dir = d.dir := by
  rcases mem_entryClears.mp h with rfl | ⟨sb, -, rfl⟩ <;> exact ⟨rfl, rfl⟩

theorem entryClears_pairwise (r : Region) (d : Descriptor) :
    (entryClears r d).Pairwise fun a b => a.region = b.region ∧ a.part = .working ∧ b.part = .shadow := by
  unfold entryClears
  cases d.shadow with
  | none => exact List.pairwise_singleton _ _
  | some sb => simp [authRange, shadowRangeOf]

theorem startClears_eq (t : Table) :
    startClears t = allRegions.flatMap fun r => ((t.get r).map (entryClears r)).getD [] := by
  unfold startClears
  congr 1
  funext r
  cases t.get r <;> rfl

theorem mem_startClears {t : Table} {c : ClearRange} :
    c ∈ startClears t ↔ ∃ d, t.get c.region = some d ∧ c ∈ entryClears c.region d := by
  rw [startClears_eq, List.mem_flatMap]
  constructor
  · rintro ⟨r, -, hc⟩
    cases hd : t.get r with
    | none => simp [hd] at hc
    | some d =>
      have hmem : c ∈ entryClears r d := by simpa [hd] using hc
      obtain ⟨rfl, -⟩ := entryClears_region hmem
      exact ⟨d, hd, hmem⟩
  · rintro ⟨d, hd, hc⟩
    exact ⟨c.region, mem_allRegions _, by simpa [hd] using hc⟩

theorem startClears_pairwise (t : Table) :
    (startClears t).Pairwise fun a b => a.region < b.region ∨ a.region = b.region ∧ a.part = .working ∧ b.part = .shadow := by
  have hregion {r : Region} {c : ClearRange} (h : c ∈ ((t.get r).map (entryClears r)).getD []) : c.region = r := by
    cases hd : t.get r with
    | none => simp [hd] at h
    | some d => exact (entryClears_region (by simpa [hd] using h)).1
  rw [startClears_eq, List.pairwise_flatMap]
  refine ⟨fun r _ => ?_, allRegions_pairwise.imp fun {r r'} hlt a ha b hb => .inl ?_⟩
  · cases t.get r with
    | none => exact List.Pairwise.nil
    | some d => exact (entryClears_pairwise r d).imp .inr
  · rw [hregion ha, hregion hb]
    exact hlt

theorem mem_clearedBlocks {l : List ClearRange} {b : Nat} :
    b ∈ clearedBlocks l ↔ ∃ c ∈ l, c.lo ≤ b ∧ b < c.lo + c.count := by
  simp [clearedBlocks, List.mem_range'_1]

theorem mem_authRange_iff {r : Region} {d : Descriptor} {b : Nat} :
    ((authRange r d).lo ≤ b ∧ b < (authRange r d).lo + (authRange r d).count) ↔ d.authorised b = true := by
  simp [authRange, Descriptor.authorised]

theorem base_le_authLow {d : Descriptor} (h : d.len ≤ d.span) : d.base ≤ d.authLow := by
  unfold Descriptor.authLow
  cases d.dir <;> dsimp only <;> omega

theorem mem_shadowRangeOf_iff {r : Region} {d : Descriptor} {sb b : Nat} (h : d.len ≤ d.span) :
    ((shadowRangeOf r d sb).lo ≤ b ∧ b < (shadowRangeOf r d sb).lo + (shadowRangeOf r d sb).count) ↔
      ∃ x, d.authorised x = true ∧ b = sb + (x - d.base) := by
  have hlow := base_le_authLow h
  simp only [shadowRangeOf, Descriptor.authorised, decide_eq_true_eq]
  constructor
  · intro hb
    exact ⟨b - sb + d.base, by omega, by omega⟩
  · rintro ⟨x, hx, rfl⟩
    omega

theorem startClears_working (t : Table) (r : Region) (b : Nat) :
    b ∈ clearedBlocks ((startClears t).filter fun c => c.region == r && c.part == .working) ↔
      ∃ d, t.get r = some d ∧ d.authorised b = true := by
  simp only [mem_clearedBlocks, List.mem_filter, Bool.and_eq_true, beq_iff_eq, mem_startClears]
  constructor
  · rintro ⟨c, ⟨⟨d, hd, hc⟩, rfl, hpart⟩, hb⟩
    rcases mem_entryClears.mp hc with he | ⟨sb, -, he⟩
    · rw [he] at hb
      exact ⟨d, hd, mem_authRange_iff.mp hb⟩
    · rw [he] at hpart
      cases hpart
  · rintro ⟨d, hd, hb⟩
    exact ⟨authRange r d, ⟨⟨d, hd, mem_entryClears.mpr (.inl rfl)⟩, rfl, rfl⟩, mem_authRange_iff.mpr hb⟩

theorem startClears_shadow {t : Table} {r : Region} (hlen : ∀ d, t.get r = some d → 1 ≤ d.len ∧ d.len ≤ d.span) (b : Nat) :
    b ∈ clearedBlocks ((startClears t).filter fun c => c.region == r && c.part == .shadow) ↔
      ∃ d sb x, t.get r = some d ∧ d.shadow = some sb ∧ d.authorised x = true ∧ b = sb + (x - d.base) := by
  simp only [mem_clearedBlocks, List.mem_filter, Bool.and_eq_true, beq_iff_eq, mem_startClears]
  constructor
  · rintro ⟨c, ⟨⟨d, hd, hc⟩, rfl, hpart⟩, hb⟩
    rcases mem_entryClears.mp hc with he | ⟨sb, hsb, he⟩
    · rw [he] at hpart
      cases hpart
    · rw [he] at hb
      obtain ⟨x, hx, hbx⟩ := (mem_shadowRangeOf_iff (hlen d hd).2).mp hb
      exact ⟨d, sb, x, hd, hsb, hx, hbx⟩
  · rintro ⟨d, sb, x, hd, hsb, hx, hbx⟩
    exact ⟨shadowRangeOf r d sb, ⟨⟨d, hd, mem_entryClears.mpr (.inr ⟨sb, hsb, rfl⟩)⟩, rfl, rfl⟩,
      (mem_shadowRangeOf_iff (hlen d hd).2).mpr ⟨x, hx, hbx⟩⟩

end Sys2Proof.Machine
end

section
/-! PROOFS. A command being received bears on no operation of the part: an operation makes the same of two states that differ in the
command received alone (R58, R80, R170). -/
namespace Sys2Proof.Machine

/-- The second state is the first with a command of this code and these operands received. -/
def Hears (n : Nat) (us : List Unit16) (s u : State) : Prop := u = s.commanded n us

section
variable {s u : State} {n : Nat} {us : List Unit16}

theorem Hears.ite {s' u' : State} {c : Prop} [Decidable c] (h : Hears n us s u) (h' : Hears n us s' u') :
    Hears n us (if c then s else s') (if c then u else u') := by
  split
  · exact h
  · exact h'

/-! ### Repairs, faults and sets -/

theorem Hears.takeFault (h : Hears n us s u) (f : FaultReport) : Hears n us (s.takeFault f) (u.takeFault f) := by
  cases h
  rfl

theorem Hears.addDirty (h : Hears n us s u) (b : Nat) : Hears n us (s.addDirty b) (u.addDirty b) := by
  cases h
  unfold State.addDirty
  dsimp only [State.commanded]
  split
  · exact Hears.ite rfl rfl
  · rfl

theorem Hears.addDirtyIf (h : Hears n us s u) (c : Bool) (b : Nat) : Hears n us (s.addDirtyIf c b) (u.addDirtyIf c b) :=
  Hears.ite (h.addDirty b) h

theorem Hears.requestRetire (h : Hears n us s u) (b w : Nat) : Hears n us (s.requestRetire b w) (u.requestRetire b w) := by
  cases h
  exact Hears.ite rfl (Hears.ite rfl rfl)

theorem Hears.reportRepair (h : Hears n us s u) (w : Nat) (pl : Plane) :
    Hears n us (s.reportRepair w pl) (u.reportRepair w pl) := by
  cases h
  exact Hears.ite (Hears.requestRetire rfl _ _) rfl

theorem Hears.repair (h : Hears n us s u) (w : Nat) (t : Terms) (rep : CheckReport) :
    Hears n us (s.repair w t rep) (u.repair w t rep) := by
  cases h
  unfold State.repair
  cases rep.repair
  · rfl
  · exact Hears.reportRepair rfl _ _
  · exact Hears.reportRepair rfl _ _
  · rfl

theorem Hears.repairByWrite (h : Hears n us s u) (w : Nat) (rep : CheckReport) :
    Hears n us (s.repairByWrite w rep) (u.repairByWrite w rep) := by
  unfold State.repairByWrite
  cases rep.repair
  · exact h
  · exact h.reportRepair _ _
  · exact h.reportRepair _ _
  · exact h

theorem Hears.addDigestIf (h : Hears n us s u) (c : Bool) (x : BitVec 32) :
    Hears n us (s.addDigestIf c x) (u.addDigestIf c x) := by
  cases h
  cases c <;> rfl

/-! ### The engine's selection and the port -/

theorem Hears.askPass (h : Hears n us s u) (m : Move) : Hears n us (s.askPass m) (u.askPass m) := by
  cases h
  have htxe : (s.commanded n us).txe = s.txe := rfl
  have hnext : (s.commanded n us).nextPassBlock m = s.nextPassBlock m := rfl
  unfold State.askPass
  rw [htxe, hnext]
  split
  · rfl
  · split <;> rfl

theorem Hears.select (h : Hears n us s u) (fuel : Nat) : Hears n us (s.select fuel) (u.select fuel) := by
  induction fuel generalizing s u with
  | zero => exact h
  | succ fuel ih =>
    have again {s u : State} (h : Hears n us s u) (m : Move) :
        Hears n us (if (s.txe.passSlot m).isNone then s.select fuel else s)
          (if (u.txe.passSlot m).isNone then u.select fuel else u) := by
      cases h
      exact Hears.ite (ih rfl) rfl
    cases h
    have htxe : (s.commanded n us).txe = s.txe := rfl
    unfold State.select
    rw [htxe]
    split
    · rfl
    · dsimp only
      split
      · exact Hears.ite (again (Hears.askPass rfl _) _) rfl
      · rfl

theorem Hears.selectionPoint (h : Hears n us s u) : Hears n us s.selectionPoint u.selectionPoint := h.select 3

theorem Hears.settle (h : Hears n us s u) : Hears n us s.settle u.settle := by
  have hselected : Hears n us (if s.txe.active.isNone then s.selectionPoint else s)
      (if u.txe.active.isNone then u.selectionPoint else u) := by
    cases h
    exact Hears.ite (Hears.selectionPoint rfl) rfl
  unfold State.settle
  generalize (if s.txe.active.isNone then s.selectionPoint else s) = v at hselected ⊢
  rw [hselected]
  exact Hears.ite (Hears.ite rfl (Hears.ite rfl rfl)) rfl

theorem Hears.portAfterEngine (h : Hears n us s u) (asked : Bool) :
    Hears n us (s.portAfterEngine asked) (u.portAfterEngine asked) := by
  cases h
  exact Hears.ite (Hears.settle rfl) (Hears.ite rfl (Hears.ite rfl rfl))

theorem Hears.engineSelectEnd (h : Hears n us s u) (asked : Bool) :
    Hears n us (s.engineSelectEnd asked) (u.engineSelectEnd asked) := h.selectionPoint.portAfterEngine asked

theorem Hears.releasePort (h : Hears n us s u) : Hears n us s.releasePort u.releasePort := by
  cases h
  exact Hears.settle rfl

/-! ### Accesses and the Checkpoint Controller's reports -/

theorem Hears.takeMarker (h : Hears n us s u) (a : Access) (v : Word) : Hears n us (s.takeMarker a v) (u.takeMarker a v) := by
  cases h
  unfold State.takeMarker
  cases markerFormed v <;> rfl

theorem Hears.markerCheck (h : Hears n us s u) (a : Access) : Hears n us (s.markerCheck a) (u.markerCheck a) := by
  cases h
  unfold State.markerCheck
  split
  · exact Hears.takeMarker rfl _ _
  · rfl
  · rfl

theorem Hears.retireCheck (h : Hears n us s u) (a : Access) : Hears n us (s.retireCheck a) (u.retireCheck a) := by
  cases h
  exact Hears.ite rfl (Hears.markerCheck rfl a)

theorem Hears.releaseHeld (h : Hears n us s u) (p : Access → Bool) : Hears n us (s.releaseHeld p) (u.releaseHeld p) := by
  cases h
  have hhbi : (s.commanded n us).hbi = s.hbi := rfl
  unfold State.releaseHeld
  rw [hhbi]
  split
  · exact Hears.ite (Hears.retireCheck rfl _) rfl
  · rfl

theorem Hears.releaseRetire (h : Hears n us s u) (b : Nat) : Hears n us (s.releaseRetire b) (u.releaseRetire b) := by
  cases h
  have hhbi : (s.commanded n us).hbi = s.hbi := rfl
  unfold State.releaseRetire
  rw [hhbi]
  split
  · exact Hears.ite (Hears.markerCheck rfl _) rfl
  · rfl

theorem Hears.markStale (h : Hears n us s u) (m : Move) : Hears n us (s.markStale m) (u.markStale m) := by
  cases h
  have htxe : (s.commanded n us).txe = s.txe := rfl
  unfold State.markStale
  rw [htxe]
  split
  · split
    · exact Hears.ite rfl rfl
    · rfl
  · rfl

theorem Hears.withdrawPriority (h : Hears n us s u) (m : Move) : Hears n us (s.withdrawPriority m) (u.withdrawPriority m) := by
  cases h
  have htxe : (s.commanded n us).txe = s.txe := rfl
  unfold State.withdrawPriority
  rw [htxe]
  split
  · exact Hears.ite rfl rfl
  · rfl

theorem Hears.breakPass (h : Hears n us s u) (m : Move) (r : Region) : Hears n us (s.breakPass m r) (u.breakPass m r) := by
  cases h
  exact ((Hears.markStale rfl m).withdrawPriority m).releaseHeld _

theorem Hears.shadowBreak (h : Hears n us s u) (r : Region) : Hears n us (s.shadowBreak r) (u.shadowBreak r) := by
  cases h
  have hckc : (s.commanded n us).ckc = s.ckc := rfl
  unfold State.shadowBreak
  rw [hckc]
  split
  · rfl
  · exact Hears.breakPass rfl _ _
  · exact Hears.breakPass rfl _ _
  · rfl
  · rfl

theorem Hears.blockMoved (h : Hears n us s u) (m : Move) (r : Region) (b : Nat) :
    Hears n us (s.blockMoved m r b) (u.blockMoved m r b) := by
  cases h
  exact (Hears.markStale rfl m).releaseHeld _

theorem Hears.moveOver (h : Hears n us s u) (m : Move) : Hears n us (s.moveOver m) (u.moveOver m) := by
  cases h
  exact Hears.ite rfl (Hears.askPass rfl m)

/-! ### The processor side's groups (R46 to R52, R136) -/

theorem Hears.reportBadWord (h : Hears n us s u) (a : Access) (src : Source) (rep : CheckReport) :
    Hears n us (s.reportBadWord a src rep) (u.reportBadWord a src rep) := (h.addDirtyIf _ _).takeFault _

theorem Hears.loadLatch (h : Hears n us s u) (rep : CheckReport) : Hears n us (s.loadLatch rep) (u.loadLatch rep) := by
  cases h
  rfl

theorem Hears.endAccess (h : Hears n us s u) (a : Access) (e : BusEnd) : Hears n us (s.endAccess a e) (u.endAccess a e) := by
  cases h
  rfl

theorem Hears.writeWord (h : Hears n us s u) (w : Nat) (t : Terms) (d : Word) :
    Hears n us (s.writeWord w t d) (u.writeWord w t d) := by
  cases h
  rfl

theorem Hears.writeDone (h : Hears n us s u) (a : Access) : Hears n us (s.writeDone a) (u.writeDone a) :=
  ((h.addDirtyIf _ _).endAccess _ _).releasePort

theorem Hears.endLocked (h : Hears n us s u) : Hears n us s.endLocked u.endLocked := by
  cases h
  exact Hears.releasePort rfl

theorem Hears.readGroup (h : Hears n us s u) (a : Access) : Hears n us (s.readGroup a) (u.readGroup a) := by
  cases h
  have hcheck : (s.commanded n us).check true a.word a.terms = s.check true a.word a.terms := rfl
  have hrepaired := ((Hears.repair (s := s) (n := n) (us := us) rfl a.word a.terms (s.check true a.word a.terms))).loadLatch
    (s.check true a.word a.terms)
  unfold State.readGroup
  dsimp only
  rw [hcheck]
  split
  · exact (hrepaired.endAccess _ _).releasePort
  · exact ((hrepaired.reportBadWord _ _ _).endAccess _ _).releasePort

theorem Hears.plainWrite (h : Hears n us s u) (a : Access) (d : Word) : Hears n us (s.plainWrite a d) (u.plainWrite a d) :=
  (h.writeWord _ _ _).writeDone a

theorem Hears.agreedWrite (h : Hears n us s u) (a : Access) (d : Word) :
    Hears n us (s.agreedWrite a d) (u.agreedWrite a d) := by
  cases h
  have hwritten := (((Hears.loadLatch (s := s) (n := n) (us := us) rfl (s.check true a.word a.terms)).writeWord a.word a.terms
    d).repairByWrite a.word (s.check true a.word a.terms))
  have hsummed := hwritten.addDigestIf true (digestTerm a.word d ((s.check true a.word a.terms).data.getD 0))
  exact (Hears.ite (hsummed.reportBadWord a .procWrite (s.check true a.word a.terms)) hsummed).writeDone a

theorem Hears.byteWrite (h : Hears n us s u) (a : Access) (l : Lane) (b : BitVec 8) :
    Hears n us (s.byteWrite a l b) (u.byteWrite a l b) := by
  cases h
  have hcheck : (s.commanded n us).check true a.word a.terms = s.check true a.word a.terms := rfl
  have hloaded := Hears.loadLatch (s := s) (n := n) (us := us) rfl (s.check true a.word a.terms)
  unfold State.byteWrite
  dsimp only
  rw [hcheck]
  split
  · exact (((hloaded.writeWord _ _ _).repairByWrite _ _).addDigestIf _ _).writeDone a
  · exact ((hloaded.reportBadWord _ _ _).endAccess _ _).releasePort

theorem Hears.lockedRead (h : Hears n us s u) (a : Access) : Hears n us (s.lockedRead a) (u.lockedRead a) := by
  cases h
  have hcheck : (s.commanded n us).check true a.word a.terms = s.check true a.word a.terms := rfl
  have hrepaired := ((Hears.repair (s := s) (n := n) (us := us) rfl a.word a.terms (s.check true a.word a.terms))).loadLatch
    (s.check true a.word a.terms)
  have hopened (d : Word) : Hears n us
      (((s.repair a.word a.terms (s.check true a.word a.terms)).loadLatch (s.check true a.word a.terms)).openLocked a d)
      ((((s.commanded n us).repair a.word a.terms (s.check true a.word a.terms)).loadLatch
        (s.check true a.word a.terms)).openLocked a d) := by
    rw [hrepaired]
    rfl
  unfold State.lockedRead
  dsimp only
  rw [hcheck]
  split
  · exact Hears.ite hrepaired.endLocked (hopened _)
  · exact ((hrepaired.reportBadWord _ _ _).endAccess _ _).releasePort

theorem Hears.lockedWrite (h : Hears n us s u) (a : Access) (x : WriteHalf) :
    Hears n us (s.lockedWrite a x) (u.lockedWrite a x) := by
  cases h
  exact ((Hears.writeWord rfl _ _ _).addDigestIf _ _).writeDone a

theorem Hears.writeVerdictWord (h : Hears n us s u) (a : Access) :
    Hears n us (s.writeVerdictWord a) (u.writeVerdictWord a) := by
  cases h
  exact Hears.releasePort rfl

/-! ### The engine's groups that a REINIT carries through (R69 to R79, R144, R145) -/

theorem Hears.moveWrite (h : Hears n us s u) (m : Move) (p : PassPos) (e : FifoEntry) :
    Hears n us (s.moveWrite m p e) (u.moveWrite m p e) := by
  cases h
  exact Hears.ite (Hears.portAfterEngine rfl _) (Hears.ite (Hears.engineSelectEnd rfl _)
    (((Hears.blockMoved rfl _ _ _).moveOver _).engineSelectEnd _))

theorem Hears.retireCompletes (h : Hears n us s u) (o : RetireOp) :
    Hears n us (s.retireCompletes o) (u.retireCompletes o) := by
  cases h
  exact Hears.releaseRetire rfl _

theorem Hears.retireWrite (h : Hears n us s u) (o : RetireOp) (e : FifoEntry) :
    Hears n us (s.retireWrite o e) (u.retireWrite o e) := by
  cases h
  exact Hears.ite (Hears.portAfterEngine rfl _) (Hears.ite (Hears.engineSelectEnd rfl _)
    ((Hears.retireCompletes rfl _).engineSelectEnd _))

theorem Hears.clearStep (h : Hears n us s u) (o : ClearOp) (w : Nat) : Hears n us (s.clearStep o w) (u.clearStep o w) := by
  cases h
  unfold State.clearStep
  dsimp only
  split
  · exact Hears.ite (Hears.engineSelectEnd rfl _) (Hears.portAfterEngine rfl _)
  · exact (Hears.ite rfl rfl).engineSelectEnd _

theorem Hears.audit (h : Hears n us s u) (c : Cursor) (d : Word) : Hears n us (s.audit c d) (u.audit c d) := by
  cases h
  have hcheck : (s.commanded n us).check true (s.cursorShadow c) (s.terms (s.cursorShadow c)) =
      s.check true (s.cursorShadow c) (s.terms (s.cursorShadow c)) := rfl
  have hrepaired := Hears.repair (s := s) (n := n) (us := us) rfl (s.cursorShadow c) (s.terms (s.cursorShadow c))
    (s.check true (s.cursorShadow c) (s.terms (s.cursorShadow c)))
  show Hears n us (s.audit c d) (State.audit _ c d)
  unfold State.audit
  dsimp only
  rw [show (s.commanded n us).cursorShadow c = s.cursorShadow c from rfl,
    show (s.commanded n us).terms (s.cursorShadow c) = s.terms (s.cursorShadow c) from rfl, hcheck]
  split
  · exact Hears.ite hrepaired ((hrepaired.addDirty _).takeFault _)
  · exact (hrepaired.shadowBreak _).takeFault _

theorem Hears.scrubBadWord (h : Hears n us s u) (c : Cursor) (rep : CheckReport) :
    Hears n us (s.scrubBadWord c rep) (u.scrubBadWord c rep) := by
  cases h
  exact (Hears.addDirtyIf rfl _ _).takeFault _

theorem Hears.scrubCheck (h : Hears n us s u) (c : Cursor) : Hears n us (s.scrubCheck c) (u.scrubCheck c) := by
  cases h
  have hrepaired : Hears n us
      (State.repair { s with sru := { s.sru with cursor := scrubNext s.rgd.table c } } c.word (s.terms c.word)
        (s.check true c.word (s.terms c.word)))
      (State.repair { s.commanded n us with sru := { s.sru with cursor := scrubNext s.rgd.table c } } c.word
        (s.terms c.word) (s.check true c.word (s.terms c.word))) := Hears.repair rfl _ _ _
  unfold State.scrubCheck
  dsimp only
  rw [show (s.commanded n us).terms c.word = s.terms c.word from rfl,
    show (s.commanded n us).check true c.word (s.terms c.word) = s.check true c.word (s.terms c.word) from rfl]
  split
  · exact Hears.ite (hrepaired.audit _ _) hrepaired
  · exact hrepaired.scrubBadWord _ _

theorem Hears.scrubStep (h : Hears n us s u) (c : Cursor) : Hears n us (s.scrubStep c) (u.scrubStep c) := by
  have hchecked := h.scrubCheck c
  have hasked : u.procAsking = s.procAsking := by cases h; rfl
  unfold State.scrubStep
  dsimp only
  rw [hchecked, hasked]
  exact Hears.engineSelectEnd rfl _

/-! ### What a step answers, and what a REINIT carries through (R58, R80) -/

/-- Two answers go on to states that differ in the command received alone, or both stop. -/
inductive HearsAnswer (n : Nat) (us : List Unit16) : Answer → Answer → Prop
  | next {s u : State} (h : Hears n us s u) : HearsAnswer n us (.next s) (.next u)
  | fault (f : Fault) : HearsAnswer n us (.fault f) (.fault f)

theorem Hears.onPort (h : Hears n us s u) (ready : Bool) (addrs : List Nat) {f g : State → State}
    (hf : Hears n us (f s) (g u)) : HearsAnswer n us (onPort s ready addrs f) (onPort u ready addrs g) := by
  have hmem : u.memWords = s.memWords := by cases h; rfl
  unfold Machine.onPort
  rw [hmem]
  split
  · exact .next h
  · split
    · exact .next hf
    · exact .fault _

theorem Hears.after {x y : Answer} (h : Hears n us s u) (hx : HearsAnswer n us x y) :
    Hears n us (s.after x) (u.after y) := by
  cases hx with
  | next h' => exact h'
  | fault f => exact h

theorem Hears.withMemoryOf {s' u' : State} (h : Hears n us s u) (h' : Hears n us s' u') :
    Hears n us (s.withMemoryOf s') (u.withMemoryOf u') := by
  cases h
  cases h'
  rfl

theorem Hears.accessGroup (h : Hears n us s u) (g : Grant) (p : AccessOp → Bool) {f : Access → State → State}
    (hf : ∀ a, Hears n us (f a s) (f a u)) : HearsAnswer n us (s.accessGroup g p f) (u.accessGroup g p f) := by
  cases h
  have hgranted : (s.commanded n us).granted g p = s.granted g p := rfl
  unfold State.accessGroup
  rw [hgranted]
  split
  · exact Hears.onPort rfl _ _ (hf _)
  · exact .next rfl

theorem Hears.procGroup (h : Hears n us s u) (a : Access) : HearsAnswer n us (s.procGroup a) (u.procGroup a) := by
  have hverdict : HearsAnswer n us (execVerdictWordWrite s) (execVerdictWordWrite u) := by
    cases h
    unfold execVerdictWordWrite
    rw [show (s.commanded n us).verdictGranted = s.verdictGranted from rfl]
    split
    · exact Hears.onPort rfl _ _ (Hears.writeVerdictWord rfl _)
    · exact .next rfl
  have hread : HearsAnswer n us (execProcReadGroup s) (execProcReadGroup u) := h.accessGroup _ _ h.readGroup
  have hplain : HearsAnswer n us (execProcPlainWriteGroup s) (execProcPlainWriteGroup u) := by
    cases h
    unfold execProcPlainWriteGroup
    rw [show (s.commanded n us).wordWriteGranted false = s.wordWriteGranted false from rfl]
    split
    · exact Hears.onPort rfl _ _ (Hears.plainWrite rfl _ _)
    · exact .next rfl
  have hagreed : HearsAnswer n us (execProcAgreedWriteGroup s) (execProcAgreedWriteGroup u) := by
    cases h
    unfold execProcAgreedWriteGroup
    rw [show (s.commanded n us).wordWriteGranted true = s.wordWriteGranted true from rfl]
    split
    · exact Hears.onPort rfl _ _ (Hears.agreedWrite rfl _ _)
    · exact .next rfl
  have hbyte : HearsAnswer n us (execProcByteWriteGroup s) (execProcByteWriteGroup u) := by
    cases h
    unfold execProcByteWriteGroup
    rw [show (s.commanded n us).byteWriteGranted = s.byteWriteGranted from rfl]
    split
    · exact Hears.onPort rfl _ _ (Hears.byteWrite rfl _ _ _)
    · exact .next rfl
  have hhalf : HearsAnswer n us (execLockedWriteHalfGroup s) (execLockedWriteHalfGroup u) := by
    cases h
    unfold execLockedWriteHalfGroup
    rw [show (s.commanded n us).writeHalfGranted = s.writeHalfGranted from rfl]
    split
    · exact Hears.onPort rfl _ _ (Hears.lockedWrite rfl _ _)
    · exact .next rfl
  unfold State.procGroup
  split
  · exact hverdict
  · exact hread
  · exact hread
  · exact hread
  · split
    · exact hagreed
    · exact hplain
  · exact hbyte
  · exact h.accessGroup _ _ h.lockedRead
  · exact hhalf

theorem Hears.carryRead (h : Hears n us s u) (w : Nat) : Hears n us (s.carryRead w) (u.carryRead w) := by
  cases h
  exact Hears.after rfl (Hears.onPort rfl _ _ (Hears.repair rfl _ _ _))

theorem Hears.carryMove (h : Hears n us s u) (m : Move) : Hears n us (s.carryMove m) (u.carryMove m) := by
  cases h
  unfold State.carryMove
  rw [show (s.commanded n us).moveReadGranted m = s.moveReadGranted m from rfl]
  split
  · exact Hears.carryRead rfl _
  · refine Hears.withMemoryOf rfl (Hears.after rfl ?_)
    unfold moveWriteStep
    rw [show (s.commanded n us).moveWriteGranted m = s.moveWriteGranted m from rfl]
    split
    · exact Hears.onPort rfl _ _ (Hears.moveWrite rfl _ _ _)
    · exact .next rfl

theorem Hears.carryRetire (h : Hears n us s u) : Hears n us s.carryRetire u.carryRetire := by
  cases h
  unfold State.carryRetire
  rw [show (s.commanded n us).retireReadGranted = s.retireReadGranted from rfl]
  split
  · exact Hears.carryRead rfl _
  · refine Hears.after rfl ?_
    unfold execRetireWordWrite
    rw [show (s.commanded n us).retireWriteGranted = s.retireWriteGranted from rfl]
    split
    · exact Hears.onPort rfl _ _ (Hears.retireWrite rfl _ _)
    · exact .next rfl

theorem Hears.carryEngine (h : Hears n us s u) (k : EngineKind) : Hears n us (s.carryEngine k) (u.carryEngine k) := by
  cases h
  cases k with
  | clear =>
    refine Hears.withMemoryOf rfl (Hears.after rfl ?_)
    unfold execClearWrite
    rw [show (s.commanded n us).clearGranted = s.clearGranted from rfl]
    split
    · exact Hears.onPort rfl _ _ (Hears.clearStep rfl _ _)
    · exact .next rfl
  | priorityBlock =>
    unfold State.carryEngine
    rw [show (s.commanded n us).txe = s.txe from rfl]
    dsimp only
    split
    · exact Hears.carryMove rfl _
    · rfl
  | readWord => rfl
  | restorePass => exact Hears.carryMove rfl _
  | checkpointPass => exact Hears.carryMove rfl _
  | retire => exact Hears.carryRetire rfl
  | scrubBurst =>
    refine Hears.after rfl ?_
    unfold execScrubWordCheck
    rw [show (s.commanded n us).sru = s.sru from rfl, show (s.commanded n us).engineAt .scrubBurst = s.engineAt .scrubBurst from rfl]
    split
    · split
      · exact Hears.onPort rfl _ _ (Hears.scrubStep rfl _)
      · exact .next (Hears.settle rfl)
    · exact .next rfl

theorem Hears.carryThrough (h : Hears n us s u) : Hears n us s.carryThrough u.carryThrough := by
  have haccess (a : Access) : Hears n us (s.carryAccess a) (u.carryAccess a) := by
    cases h
    exact Hears.after rfl (Hears.procGroup rfl _)
  have hgrant : u.mpt = s.mpt := by cases h; rfl
  have hhbi : u.hbi = s.hbi := by cases h; rfl
  have htxe : u.txe = s.txe := by cases h; rfl
  unfold State.carryThrough
  rw [hgrant, hhbi, htxe]
  split
  · exact h
  · split
    · exact haccess _
    · exact h
  · split
    · exact haccess _
    · exact h
  · split
    · cases h
      exact Hears.carryEngine rfl _
    · exact h

end

end Sys2Proof.Machine
end

section
/-! PROOFS. The group that a REINIT carries through, told by the command that makes it (R58, R66, R80, R169); and what the operations of
the other blocks leave of the FIFO (R69). -/
namespace Sys2Proof.Machine

/-! ### The FIFO under the operations of the other blocks (R69) -/

/-- The FIFO and its mode. -/
def Txe.line (x : Txe) : List FifoEntry × FifoMode := (x.fifo, x.fifoMode)

@[simp] theorem unbegun_line (x : Txe) : x.unbegun.line = x.line := rfl

theorem line_of_unbegun {x y : Txe} (h : y.unbegun = x.unbegun) : y.line = x.line :=
  (congrArg Txe.line h : y.unbegun.line = x.unbegun.line)

@[simp] theorem setPass_line (x : Txe) (m : Move) (o : Option PassOp) : (x.setPass m o).line = x.line := by cases m <;> rfl

@[simp] theorem askPass_line (s : State) (m : Move) : (s.askPass m).txe.line = s.txe.line :=
  line_of_unbegun (askPass_unbegun s m)

@[simp] theorem moveOver_line (s : State) (m : Move) : (s.moveOver m).txe.line = s.txe.line :=
  line_of_unbegun (moveOver_unbegun s m)

@[simp] theorem settle_line (s : State) : s.settle.txe.line = s.txe.line := line_of_unbegun (settle_unbegun s)

@[simp] theorem releasePort_line (s : State) : s.releasePort.txe.line = s.txe.line := settle_line _

@[simp] theorem selectionPoint_line (s : State) : s.selectionPoint.txe.line = s.txe.line :=
  line_of_unbegun (selectionPoint_unbegun s)

@[simp] theorem portAfterEngine_line (s : State) (asked : Bool) : (s.portAfterEngine asked).txe.line = s.txe.line :=
  line_of_unbegun (portAfterEngine_unbegun s asked)

@[simp] theorem engineSelectEnd_line (s : State) (asked : Bool) : (s.engineSelectEnd asked).txe.line = s.txe.line :=
  line_of_unbegun (engineSelectEnd_unbegun s asked)

@[simp] theorem takeMarker_line (s : State) (a : Access) (v : Word) : (s.takeMarker a v).txe.line = s.txe.line := by
  unfold State.takeMarker
  dsimp only
  split <;> rfl

@[simp] theorem markerCheck_line (s : State) (a : Access) : (s.markerCheck a).txe.line = s.txe.line := by
  unfold State.markerCheck
  split
  · exact takeMarker_line s a _
  · rfl
  · rfl

@[simp] theorem retireCheck_line (s : State) (a : Access) : (s.retireCheck a).txe.line = s.txe.line := by
  unfold State.retireCheck
  split
  · rfl
  · exact markerCheck_line s a

@[simp] theorem releaseHeld_line (s : State) (p : Access → Bool) : (s.releaseHeld p).txe.line = s.txe.line := by
  unfold State.releaseHeld
  split
  · split
    · exact retireCheck_line s _
    · rfl
  · rfl

@[simp] theorem releaseRetire_line (s : State) (b : Nat) : (s.releaseRetire b).txe.line = s.txe.line := by
  unfold State.releaseRetire
  split
  · split
    · exact markerCheck_line s _
    · rfl
  · rfl

@[simp] theorem markStale_line (s : State) (m : Move) : (s.markStale m).txe.line = s.txe.line := by
  obtain ⟨x, hx, -⟩ := markStale_txe s m
  rw [hx, setPass_line]

@[simp] theorem withdrawPriority_line (s : State) (m : Move) : (s.withdrawPriority m).txe.line = s.txe.line := by
  rcases withdrawPriority_cases s m with ⟨he, -⟩ | ⟨_, -, -, -, he⟩ <;> rw [he]
  rfl

@[simp] theorem breakPass_line (s : State) (m : Move) (r : Region) : (s.breakPass m r).txe.line = s.txe.line := by
  rw [State.breakPass, releaseHeld_line, withdrawPriority_line, markStale_line]

@[simp] theorem shadowBreak_line (s : State) (r : Region) : (s.shadowBreak r).txe.line = s.txe.line := by
  unfold State.shadowBreak
  split
  · rfl
  · exact breakPass_line s _ r
  · exact breakPass_line s _ r
  · rfl
  · rfl

@[simp] theorem blockMoved_line (s : State) (m : Move) (r : Region) (b : Nat) :
    (s.blockMoved m r b).txe.line = s.txe.line := by
  rw [State.blockMoved, releaseHeld_line, markStale_line]

@[simp] theorem moveFailed_line (s : State) (m : Move) (r : Region) (b : Nat) (pos : Position) (w : Nat) (rep : CheckReport) :
    (s.moveFailed m r b pos w rep).txe.line = s.txe.line := by
  unfold State.moveFailed
  cases m <;> simp

theorem fifo_of_line {x y : Txe} (h : y.line = x.line) : y.fifo = x.fifo := congrArg Prod.fst h

theorem fifo_of_line_nil {x : Txe} {m : FifoMode} (h : x.line = ([], m)) : x.fifo = [] := congrArg Prod.fst h

theorem fifoMode_of_line {x y : Txe} (h : y.line = x.line) : y.fifoMode = x.fifoMode := congrArg Prod.snd h

/-! ### The processor side's group (R46 to R52, R58) -/

/-- Two states agree on what a carried group reports: the faults, the remap table and the memory. -/
def sameReport (u v : State) : Prop :=
  u.fau = v.fau ∧ u.sru.remap = v.sru.remap ∧ u.planeP = v.planeP ∧ u.planeQ = v.planeQ

/-- The state a REINIT finds is the state itself, or one that a group in hand was carried through to. -/
def State.carriedTo (s v : State) : Prop := ∃ u, (u = s ∨ s.carried u) ∧ sameReport u v

theorem carriedTo_self {s v : State} (h : sameReport s v) : s.carriedTo v := ⟨s, .inl rfl, h⟩

theorem granted_access {s : State} {g : Grant} {p : AccessOp → Bool} {a : Access} (h : s.granted g p = some a) :
    s.hbi.access = some a ∧ a.phase = .atPort := by
  unfold State.granted at h
  split at h
  · split at h
    · next ha hg => exact ⟨ha.trans h, by cases h; exact hg.2.1⟩
    · cases h
  · cases h

theorem granted_none_of_phase {s : State} {a : Access} (ha : s.hbi.access = some a) (hp : a.phase ≠ .atPort) (g : Grant)
    (p : AccessOp → Bool) : s.granted g p = none := by
  cases hg : s.granted g p with
  | none => rfl
  | some b =>
    obtain ⟨hb, hport⟩ := granted_access hg
    cases ha.symm.trans hb
    exact absurd hport hp

/-- An access neither at the port nor a held marker makes no group. -/
theorem procGroup_waits {s : State} {a : Access} (ha : s.hbi.access = some a) (hp : a.phase ≠ .atPort)
    (hm : a.phase ≠ .heldMarker) : s.procGroup a = .next s := by
  have hnone := granted_none_of_phase ha hp
  have haccess (g : Grant) (p : AccessOp → Bool) (f : Access → State → State) : s.accessGroup g p f = .next s := by
    rw [State.accessGroup, hnone]
  unfold State.procGroup
  split
  · exact absurd ‹a.phase = .heldMarker› hm
  · exact haccess _ _ _
  · exact haccess _ _ _
  · exact haccess _ _ _
  · split
    · rw [execProcAgreedWriteGroup, State.wordWriteGranted, hnone]; rfl
    · rw [execProcPlainWriteGroup, State.wordWriteGranted, hnone]; rfl
  · rw [execProcByteWriteGroup, State.byteWriteGranted, hnone]; rfl
  · exact haccess _ _ _
  · rw [execLockedWriteHalfGroup, State.writeHalfGranted, hnone]; rfl

/-- The group an access makes is that of its command. -/
theorem procGroup_of_group {a : Access} {g : Instr} (h : a.group = some g) (s : State) : s.procGroup a = exec g s := by
  obtain ⟨op, word, record, phase, withdrawn⟩ := a
  cases phase with
  | heldMarker => cases h; rfl
  | heldBlock | heldRetire | lockedOpen => cases op <;> cases h
  | atPort =>
    cases op with
    | wordRead | fetch | byteRead _ | byteWrite _ _ => cases h; rfl
    | wordWrite d =>
      cases h
      unfold State.procGroup
      dsimp only
      split <;> rfl
    | locked x => cases x <;> cases h <;> rfl

theorem phase_of_group_none {a : Access} (h : a.group = none) : a.phase ≠ .atPort ∧ a.phase ≠ .heldMarker := by
  obtain ⟨op, word, record, phase, withdrawn⟩ := a
  cases phase with
  | heldMarker => cases h
  | heldBlock | heldRetire | lockedOpen => exact ⟨nofun, nofun⟩
  | atPort =>
    cases op with
    | wordRead | fetch | byteRead _ | byteWrite _ _ | wordWrite d => cases h
    | locked x => cases x <;> cases h

/-- The access as a withdrawn one. -/
def Access.gone (a : Access) : Access := { a with withdrawn := true }

/-- The state whose current access is this one, withdrawn. -/
def State.withdrawing (s : State) (a : Access) : State := { s with hbi := { s.hbi with access := some a.gone } }

theorem carryAccess_eq (s : State) (a : Access) :
    s.carryAccess a = (s.withdrawing a).after ((s.withdrawing a).procGroup a.gone) := rfl

theorem carried_of_access {s u : State} {a : Access} {g : Instr} (hgrant : s.mpt.grant = .processor ∨ s.mpt.grant = .locked)
    (ha : s.hbi.access = some a) (hg : a.group = some g) (hu : exec g (s.withdrawing a) = .next u) : s.carried u := by
  unfold State.carried
  rcases hgrant with h | h <;> rw [h] <;> exact ⟨a, g, ha, hg, hu⟩

theorem carryAccess_carriedTo {s : State} {a : Access} (ha : s.hbi.access = some a)
    (hg : s.mpt.grant = .processor ∨ s.mpt.grant = .locked) : s.carriedTo (s.carryAccess a) := by
  rw [carryAccess_eq]
  cases hgroup : a.group with
  | none =>
    obtain ⟨hport, hmarker⟩ := phase_of_group_none hgroup
    refine carriedTo_self ?_
    rw [procGroup_waits (a := a.gone) rfl hport hmarker]
    exact ⟨rfl, rfl, rfl, rfl⟩
  | some g =>
    rw [procGroup_of_group (a := a.gone) hgroup]
    cases hexec : exec g (s.withdrawing a) with
    | next t => exact ⟨t, .inr (carried_of_access hg ha hgroup hexec), rfl, rfl, rfl, rfl⟩
    | fault f => exact carriedTo_self ⟨rfl, rfl, rfl, rfl⟩
    | refused r => exact carriedTo_self ⟨rfl, rfl, rfl, rfl⟩

/-! ### The engine's group (R80) -/

/-- What a REINIT keeps of an engine group: its memory, and of its reports those of the operation's kind. -/
def carriedReport (g : Instr) (s v u : State) : Prop :=
  u.planeP = v.planeP ∧ u.planeQ = v.planeQ ∧
  match g with
  | .scrubWordCheck | .retireWordWrite => u.fau = v.fau ∧ u.sru.remap = v.sru.remap
  | .copyWordRead | .restoreWordRead | .retireWordRead =>
    u.fau = (if v.txe.fifo = [] then s.fau else v.fau) ∧ u.sru.remap = s.sru.remap
  | _ => u.fau = s.fau ∧ u.sru.remap = s.sru.remap

/-- Carried through, the engine's command leads to the state it should where it goes on, and changes nothing where it stops. -/
def carriesCommand (g : Instr) (s c : State) : Prop :=
  (∃ v, exec g s = .next v ∧ carriedReport g s v c) ∨ sameReport s c

theorem carriesCommand_of_fault {g : Instr} {s c : State} (h : c = s) : carriesCommand g s c := .inr (h ▸ ⟨rfl, rfl, rfl, rfl⟩)

/-- A command whose memory alone is kept. -/
theorem carriesCommand_memory {g : Instr} {s : State} {x : Answer} (hx : exec g s = x)
    (hg : ∀ v u : State, u.planeP = v.planeP → u.planeQ = v.planeQ → u.fau = s.fau → u.sru.remap = s.sru.remap →
      carriedReport g s v u) : carriesCommand g s (s.withMemoryOf (s.after x)) := by
  cases x with
  | next v => exact .inl ⟨v, hx, hg v _ rfl rfl rfl rfl⟩
  | fault _ | refused _ => exact carriesCommand_of_fault rfl

/-- A command whose reports are kept whole. -/
theorem carriesCommand_whole {g : Instr} {s : State} {x : Answer} (hx : exec g s = x)
    (hg : ∀ v, carriedReport g s v v) : carriesCommand g s (s.after x) := by
  cases x with
  | next v => exact .inl ⟨v, hx, hg v⟩
  | fault _ | refused _ => exact carriesCommand_of_fault rfl

@[simp] theorem repair_remap (s : State) (w : Nat) (t : Terms) (rep : CheckReport) :
    (s.repair w t rep).sru.remap = s.sru.remap := by
  unfold State.repair
  cases rep.repair with
  | pWritten | qWritten => exact reportRepair_remap _ _ _
  | none | withheld => rfl

/-- A word read that delivers its data leaves its repair in place, and its word in the FIFO; one that fails leaves the FIFO empty and
the memory as it was. -/
theorem carriesCommand_read {g : Instr} {s : State} {w : Nat} {f : State → State}
    (hexec : exec g s = onPort s true [s.physWord w] f)
    (hg : g = .copyWordRead ∨ g = .restoreWordRead ∨ g = .retireWordRead)
    (hbad : (s.check true w (s.terms w)).data = none →
      (f s).txe.fifo = [] ∧ (f s).planeP = s.planeP ∧ (f s).planeQ = s.planeQ)
    (hgood : ∀ d, (s.check true w (s.terms w)).data = some d →
      (f s).txe.fifo ≠ [] ∧ (f s).planeP = (s.repair w (s.terms w) (s.check true w (s.terms w))).planeP ∧
      (f s).planeQ = (s.repair w (s.terms w) (s.check true w (s.terms w))).planeQ ∧
      (f s).fau = (s.repair w (s.terms w) (s.check true w (s.terms w))).fau) :
    carriesCommand g s (s.carryRead w) := by
  have hreport : ∀ u : State, u.planeP = (f s).planeP → u.planeQ = (f s).planeQ →
      u.fau = (if (f s).txe.fifo = [] then s.fau else (f s).fau) → u.sru.remap = s.sru.remap →
      carriedReport g s (f s) u := by
    intro u hP hQ hf hr
    rcases hg with rfl | rfl | rfl <;> exact ⟨hP, hQ, hf, hr⟩
  by_cases hmem : s.physWord w < s.memWords
  · refine .inl ⟨f s, hexec.trans (onPort_fitted hmem f), ?_⟩
    cases hdata : (s.check true w (s.terms w)).data with
    | none =>
      obtain ⟨hfifo, hP, hQ⟩ := hbad hdata
      rw [carryRead_bad hdata]
      exact hreport s hP.symm hQ.symm (by rw [if_pos hfifo]) rfl
    | some d =>
      obtain ⟨hfifo, hP, hQ, hf⟩ := hgood d hdata
      rw [State.carryRead, onPort_fitted hmem, after_next]
      exact hreport _ hP.symm hQ.symm (by rw [if_neg hfifo, hf]) (by simp)
  · refine carriesCommand_of_fault ?_
    rw [State.carryRead, onPort]
    simp [hmem]

theorem push_fifo_ne_nil (x : Txe) (e : FifoEntry) : (x.push e).fifo ≠ [] := by simp [Txe.push]

@[simp] theorem setMoveOffset_line (x : Txe) (n : Nat) : (x.setMoveOffset n).line = x.line := by
  unfold Txe.setMoveOffset
  split <;> rfl

@[simp] theorem dropPriority_line (x : Txe) : x.dropPriority.line = x.line := by
  unfold Txe.dropPriority
  split <;> rfl

@[simp] theorem engineGroupEnd_line (s : State) (asked : Bool) : (s.engineGroupEnd asked).txe.line = s.txe.line :=
  portAfterEngine_line s asked

/-- A word read of a move that fails flushes the FIFO. -/
theorem moveReadFails_line (s : State) (m : Move) (p : PassPos) (rep : CheckReport) :
    (s.moveReadFails m p rep).txe.line = ([], .empty) := by
  unfold State.moveReadFails
  simp
  rfl

theorem carryMove_carriesCommand {s : State} (m : Move) (hg : s.mpt.grant = .engine) :
    carriesCommand (if s.txe.fifoMode = .draining then writeOf m else readOf m) s (s.carryMove m) := by
  by_cases hmode : s.txe.fifoMode = .draining
  · rw [if_pos hmode, State.carryMove, State.moveReadGranted, if_neg (by simp [hmode])]
    exact carriesCommand_memory (exec_writeOf m s) fun v u hP hQ hf hr => by
      cases m <;> exact ⟨hP, hQ, hf, hr⟩
  · rw [if_neg hmode, State.carryMove]
    have hgranted : s.moveReadGranted m = s.movePos m := if_pos ⟨hg, hmode⟩
    rw [hgranted]
    cases hpos : s.movePos m with
    | none =>
      refine carriesCommand_of_fault ?_
      have hidle : moveWriteStep m s = .next s := by
        rw [moveWriteStep, State.moveWriteGranted, hpos, if_pos hg]
        rfl
      rw [hidle]
      rfl
    | some p =>
      refine carriesCommand_read (f := fun s => s.moveRead m p) ?_ (by cases m <;> simp [readOf]) (fun hnone => ?_)
        fun d hdata => ?_
      · rw [exec_readOf, moveReadStep, hgranted, hpos]
      · have hread : s.moveRead m p = (s.moveReadFails m p
            (s.check true (s.moveSourceWord m p) (s.terms (s.moveSourceWord m p)))).engineSelectEnd s.procAsking := by
          unfold State.moveRead
          dsimp only
          rw [hnone, repair_bad hnone]
        rw [hread]
        exact ⟨fifo_of_line_nil ((engineSelectEnd_line _ _).trans (moveReadFails_line _ _ _ _)), by simp, by simp⟩
      · rw [moveRead_good rfl hdata]
        refine ⟨?_, by simp, by simp, by simp⟩
        rw [fifo_of_line ((engineGroupEnd_line _ _).trans (setMoveOffset_line _ _))]
        exact push_fifo_ne_nil _ _

theorem retireFails_line (s : State) (o : RetireOp) (w : Nat) (rep : CheckReport) :
    (s.retireFails o w rep).txe.line = ([], .empty) := by
  unfold State.retireFails
  cases o.part <;> simp <;> rfl

theorem carryRetire_carriesCommand {s : State} (hg : s.mpt.grant = .engine) (ha : s.txe.active = some .retire) :
    carriesCommand (if s.txe.fifoMode = .draining then .retireWordWrite else .retireWordRead) s s.carryRetire := by
  have hat : s.engineAt .retire = true := by simp [State.engineAt, hg, ha]
  by_cases hmode : s.txe.fifoMode = .draining
  · rw [if_pos hmode, State.carryRetire, State.retireReadGranted, if_neg (by simp [hmode])]
    exact carriesCommand_whole (g := .retireWordWrite) rfl fun v => ⟨rfl, rfl, rfl, rfl⟩
  · rw [if_neg hmode, State.carryRetire]
    have hgranted : s.retireReadGranted = s.txe.retire := if_pos ⟨hat, hmode⟩
    rw [hgranted]
    cases hop : s.txe.retire with
    | none =>
      refine carriesCommand_of_fault ?_
      have hidle : execRetireWordWrite s = .next s := by
        rw [execRetireWordWrite, State.retireWriteGranted, hop, if_pos hat]
        rfl
      rw [hidle]
      rfl
    | some o =>
      refine carriesCommand_read (f := fun s => s.retireRead o) ?_ (by simp) (fun hnone => ?_) fun d hdata => ?_
      · show execRetireWordRead s = _
        rw [execRetireWordRead, hgranted, hop]
      · rw [retireRead_bad hnone]
        exact ⟨fifo_of_line_nil ((engineSelectEnd_line _ _).trans (retireFails_line _ _ _ _)), by simp, by simp⟩
      · rw [retireRead_good hdata]
        refine ⟨?_, by simp; rfl, by simp; rfl, by simp; rfl⟩
        rw [fifo_of_line (engineGroupEnd_line _ _)]
        exact push_fifo_ne_nil _ _

theorem carryEngine_carriesCommand {s : State} {k : EngineKind} (hg : s.mpt.grant = .engine) (ha : s.txe.active = some k) :
    (∃ g, s.engineCommand = some g ∧ carriesCommand g s (s.carryEngine k)) ∨ s.carryEngine k = s := by
  unfold State.engineCommand
  rw [ha]
  unfold State.carryEngine
  cases k with
  | clear => exact .inl ⟨_, rfl, carriesCommand_memory (g := .clearWrite) rfl fun v u hP hQ hf hr => ⟨hP, hQ, hf, hr⟩⟩
  | priorityBlock =>
    cases s.txe.priority with
    | none => exact .inr rfl
    | some o => exact .inl ⟨_, rfl, carryMove_carriesCommand o.move hg⟩
  | readWord => exact .inr rfl
  | restorePass => exact .inl ⟨_, rfl, carryMove_carriesCommand .restore hg⟩
  | checkpointPass => exact .inl ⟨_, rfl, carryMove_carriesCommand .copy hg⟩
  | retire => exact .inl ⟨_, rfl, carryRetire_carriesCommand hg ha⟩
  | scrubBurst => exact .inl ⟨_, rfl, carriesCommand_whole (g := .scrubWordCheck) rfl fun v => ⟨rfl, rfl, rfl, rfl⟩⟩

/-- The state without its current access. -/
def State.noAccess (s : State) : State := { s with hbi := { s.hbi with access := none } }

theorem carried_of_engine {s v u : State} {g : Instr} (hgrant : s.mpt.grant = .engine) (hg : s.engineCommand = some g)
    (hv : exec g s.noAccess = .next v) (hu : carriedReport g s v u) : s.carried u := by
  unfold State.carried
  rw [hgrant]
  exact ⟨g, v, hg, hv, hu⟩

/-- What a REINIT carries through leads where the commands do (R58, R80, R169). -/
theorem carryThrough_carriedTo (s : State) : s.carriedTo s.carryThrough := by
  have hself : s.carriedTo s := carriedTo_self ⟨rfl, rfl, rfl, rfl⟩
  unfold State.carryThrough
  cases hg : s.mpt.grant with
  | none => exact hself
  | processor | locked =>
    dsimp only
    cases ha : s.hbi.access with
    | none => exact hself
    | some a => exact carryAccess_carriedTo ha (by simp [hg])
  | engine =>
    dsimp only
    cases ha : s.txe.active with
    | none => exact hself
    | some k =>
      show s.carriedTo (s.noAccess.carryEngine k)
      rcases carryEngine_carriesCommand (s := s.noAccess) hg ha with ⟨g, hcommand, hcarries⟩ | he
      · rcases hcarries with ⟨v, hv, hreport⟩ | hsame
        · exact ⟨_, .inr (carried_of_engine hg hcommand hv hreport), rfl, rfl, rfl, rfl⟩
        · exact carriedTo_self hsame
      · rw [he]
        exact carriedTo_self ⟨rfl, rfl, rfl, rfl⟩

end Sys2Proof.Machine
end

section
/-! PROOFS. What a group carried through leaves as it is: the region table, the twin link and, for no access is given an end, the
bus (R58, R80). -/
namespace Sys2Proof.Machine

/-! ### What a group carried through leaves -/

/-- The region descriptors, the twin link and the end given on the bus. -/
def State.outside (s : State) : Rgd × Twl × Option BusEnd := (s.rgd, s.twl, s.hbi.busEnd)

/-- A step that goes on leaves them. -/
def keepsOutside (s : State) (x : Answer) : Prop := ∀ t, x = .next t → t.outside = s.outside

theorem keepsOutside_self (s : State) : keepsOutside s (.next s) := fun _ h => by cases h; rfl

theorem onPort_keepsOutside {s : State} {ready : Bool} {addrs : List Nat} {f : State → State}
    (hf : (f s).outside = s.outside) : keepsOutside s (onPort s ready addrs f) := fun _ h =>
  onPort_field State.outside h hf

theorem after_outside {s : State} {x : Answer} (hx : keepsOutside s x) : (s.after x).outside = s.outside := by
  cases x with
  | next t => exact hx t rfl
  | fault _ => rfl
  | refused _ => rfl

theorem outside_of_hbi {s t : State} (hr : t.rgd = s.rgd) (ht : t.twl = s.twl) (hh : t.hbi = s.hbi) :
    t.outside = s.outside := by
  rw [State.outside, hr, ht, hh]
  rfl

/-- An access ended as a withdrawn one is given no end on the bus (R55). -/
@[simp] theorem endAccess_outside {a : Access} (h : a.withdrawn = true) (s : State) (e : BusEnd) :
    (s.endAccess a e).outside = s.outside := by
  simp [State.outside, State.endAccess, h]

@[simp] theorem releasePort_outside (s : State) : s.releasePort.outside = s.outside :=
  outside_of_hbi (by simp) (by simp) (by simp)

@[simp] theorem endLocked_outside (s : State) : s.endLocked.outside = s.outside := releasePort_outside _

/-! ### The processor side's group (R46 to R52) -/

section
variable {a : Access}

theorem writeDone_outside (h : a.withdrawn = true) (s : State) : (s.writeDone a).outside = s.outside := by
  rw [State.writeDone, releasePort_outside, endAccess_outside h]
  exact outside_of_hbi (by simp) (by simp) (by simp)

/-- A bad word ends its access. -/
theorem badEnd_outside (h : a.withdrawn = true) (s : State) (src : Source) (rep : CheckReport) :
    ((s.reportBadWord a src rep).endAccess a .berr).releasePort.outside = s.outside := by
  rw [releasePort_outside, endAccess_outside h]
  exact outside_of_hbi (by simp) (by simp) (by simp)

/-- A word checked, repaired and latched. -/
theorem checked_outside (s : State) (w : Nat) (t : Terms) (rep : CheckReport) :
    ((s.repair w t rep).loadLatch rep).outside = s.outside :=
  outside_of_hbi (by simp) (by simp) (by simp)

theorem readGroup_outside (h : a.withdrawn = true) (s : State) : (s.readGroup a).outside = s.outside := by
  unfold State.readGroup
  dsimp only
  split
  · rw [releasePort_outside, endAccess_outside h, checked_outside]
  · rw [badEnd_outside h, checked_outside]

theorem plainWrite_outside (h : a.withdrawn = true) (s : State) (d : Word) : (s.plainWrite a d).outside = s.outside :=
  writeDone_outside h _

theorem agreedWrite_outside (h : a.withdrawn = true) (s : State) (d : Word) : (s.agreedWrite a d).outside = s.outside := by
  unfold State.agreedWrite
  dsimp only
  rw [writeDone_outside h]
  split <;> exact outside_of_hbi (by simp) (by simp) (by simp)

theorem byteWrite_outside (h : a.withdrawn = true) (s : State) (l : Lane) (b : BitVec 8) :
    (s.byteWrite a l b).outside = s.outside := by
  unfold State.byteWrite
  dsimp only
  split
  · rw [writeDone_outside h]
    exact outside_of_hbi (by simp) (by simp) (by simp)
  · rw [badEnd_outside h]
    rfl

theorem lockedRead_outside (h : a.withdrawn = true) (s : State) : (s.lockedRead a).outside = s.outside := by
  unfold State.lockedRead
  dsimp only
  split
  · rw [if_pos h, endLocked_outside, checked_outside]
  · rw [badEnd_outside h, checked_outside]

theorem lockedWrite_outside (h : a.withdrawn = true) (s : State) (x : WriteHalf) : (s.lockedWrite a x).outside = s.outside := by
  unfold State.lockedWrite
  dsimp only
  rw [writeDone_outside h]
  exact outside_of_hbi (by simp) (by simp) (by simp)

theorem writeVerdictWord_outside (h : a.withdrawn = true) (s : State) : (s.writeVerdictWord a).outside = s.outside := by
  unfold State.writeVerdictWord
  dsimp only
  rw [releasePort_outside]
  exact endAccess_outside h (s.writeWord a.word a.terms (verdictWord s.cau.lastVerdict s.cau.cycle)) .ackWrite

/-- The access granted is the current one. -/
theorem accessGroup_keepsOutside {s : State} (ha : s.hbi.access = some a) {g : Grant} {p : AccessOp → Bool}
    {f : Access → State → State} (hf : (f a s).outside = s.outside) : keepsOutside s (s.accessGroup g p f) := by
  unfold State.accessGroup
  split
  · next b hb =>
    cases ha.symm.trans (granted_access hb).1
    exact onPort_keepsOutside hf
  · exact keepsOutside_self s

/-- What is told of an access granted is told of the current one. -/
theorem bind_granted {α : Type} {s : State} (ha : s.hbi.access = some a) {g : Grant} {p : AccessOp → Bool}
    {f : Access → Option α} {x : α} (h : (s.granted g p).bind f = some x) : f a = some x := by
  obtain ⟨b, hb, hx⟩ := Option.bind_eq_some_iff.mp h
  cases ha.symm.trans (granted_access hb).1
  exact hx

theorem wordWriteGranted_access {s : State} {agreed : Bool} {b : Access} {d : Word} (ha : s.hbi.access = some a)
    (h : s.wordWriteGranted agreed = some (b, d)) : b = a := by
  obtain ⟨x, -, hx⟩ := Option.map_eq_some_iff.mp (bind_granted ha h)
  exact (congrArg Prod.fst hx).symm

theorem byteWriteGranted_access {s : State} {b : Access} {x : Lane × BitVec 8} (ha : s.hbi.access = some a)
    (h : s.byteWriteGranted = some (b, x)) : b = a := by
  have hb := bind_granted ha h
  split at hb
  · exact (congrArg Prod.fst (Option.some.inj hb)).symm
  · cases hb

theorem writeHalfGranted_access {s : State} {b : Access} {x : WriteHalf} (ha : s.hbi.access = some a)
    (h : s.writeHalfGranted = some (b, x)) : b = a := by
  have hb := bind_granted ha h
  split at hb
  · exact (congrArg Prod.fst (Option.some.inj hb)).symm
  · cases hb

theorem verdictGranted_access {s : State} {b : Access} (ha : s.hbi.access = some a) (h : s.verdictGranted = some b) :
    b = a := by
  unfold State.verdictGranted at h
  rw [ha] at h
  dsimp only at h
  split at h
  · exact (Option.some.inj h).symm
  · cases h

theorem procGroup_keepsOutside {s : State} (ha : s.hbi.access = some a) (h : a.withdrawn = true) :
    keepsOutside s (s.procGroup a) := by
  have hread : keepsOutside s (execProcReadGroup s) := accessGroup_keepsOutside ha (readGroup_outside h s)
  unfold State.procGroup
  split
  · unfold execVerdictWordWrite
    split
    · next hb =>
      cases verdictGranted_access ha hb
      exact onPort_keepsOutside (writeVerdictWord_outside h s)
    · exact keepsOutside_self s
  · exact hread
  · exact hread
  · exact hread
  · split
    · unfold execProcAgreedWriteGroup
      split
      · next hb =>
        cases wordWriteGranted_access ha hb
        exact onPort_keepsOutside (agreedWrite_outside h s _)
      · exact keepsOutside_self s
    · unfold execProcPlainWriteGroup
      split
      · next hb =>
        cases wordWriteGranted_access ha hb
        exact onPort_keepsOutside (plainWrite_outside h s _)
      · exact keepsOutside_self s
  · unfold execProcByteWriteGroup
    split
    · next hb =>
      cases byteWriteGranted_access ha hb
      exact onPort_keepsOutside (byteWrite_outside h s _ _)
    · exact keepsOutside_self s
  · exact accessGroup_keepsOutside ha (lockedRead_outside h s)
  · unfold execLockedWriteHalfGroup
    split
    · next hb =>
      cases writeHalfGranted_access ha hb
      exact onPort_keepsOutside (lockedWrite_outside h s _)
    · exact keepsOutside_self s

end

/-! ### The engine's group, with no access to release (R80) -/

section
variable {s : State}

theorem releaseHeld_noAccess (h : s.hbi.access = none) (p : Access → Bool) : s.releaseHeld p = s :=
  releaseHeld_nobody fun _ ha => nomatch h.symm.trans ha

theorem releaseRetire_noAccess (h : s.hbi.access = none) (b : Nat) : s.releaseRetire b = s :=
  releaseRetire_nobody fun _ ha => nomatch h.symm.trans ha

theorem breakPass_noAccess (h : s.hbi.access = none) (m : Move) (r : Region) : (s.breakPass m r).hbi = s.hbi := by
  rw [State.breakPass, releaseHeld_noAccess] <;> simp [h]

theorem shadowBreak_noAccess (h : s.hbi.access = none) (r : Region) : (s.shadowBreak r).hbi = s.hbi := by
  unfold State.shadowBreak
  split
  · rfl
  · exact breakPass_noAccess h _ r
  · exact breakPass_noAccess h _ r
  · rfl
  · rfl

theorem audit_noAccess (h : s.hbi.access = none) (c : Cursor) (d : Word) : (s.audit c d).hbi = s.hbi := by
  unfold State.audit
  dsimp only
  split
  · split <;> simp
  · rw [takeFault_hbi, shadowBreak_noAccess (by simp [h]), repair_hbi]

theorem scrubCheck_noAccess (h : s.hbi.access = none) (c : Cursor) : (s.scrubCheck c).hbi = s.hbi := by
  unfold State.scrubCheck
  dsimp only
  split
  · split
    · rw [audit_noAccess (by simp [h]), repair_hbi]
    · simp
  · simp [State.scrubBadWord]

theorem scrubStep_noAccess (h : s.hbi.access = none) (c : Cursor) : (s.scrubStep c).hbi = s.hbi :=
  (engineSelectEnd_hbi _ _).trans (scrubCheck_noAccess h c)

theorem retireCompletes_noAccess (h : s.hbi.access = none) (o : RetireOp) : (s.retireCompletes o).hbi = s.hbi := by
  rw [State.retireCompletes, releaseRetire_noAccess]
  exact h

theorem retireWrite_noAccess (h : s.hbi.access = none) (o : RetireOp) (e : FifoEntry) : (s.retireWrite o e).hbi = s.hbi := by
  unfold State.retireWrite
  dsimp only
  split
  · simp
  · split
    · simp
    · rw [engineSelectEnd_hbi, retireCompletes_noAccess]
      · rfl
      · exact h

theorem carryRead_outside (s : State) (w : Nat) : (s.carryRead w).outside = s.outside :=
  after_outside (onPort_keepsOutside (outside_of_hbi (by simp) (by simp) (by simp)))

theorem carryMove_outside (s : State) (m : Move) : (s.carryMove m).outside = s.outside := by
  unfold State.carryMove
  split
  · exact carryRead_outside s _
  · rfl

theorem carryRetire_outside (h : s.hbi.access = none) : s.carryRetire.outside = s.outside := by
  unfold State.carryRetire
  split
  · exact carryRead_outside s _
  · refine after_outside ?_
    unfold execRetireWordWrite
    split
    · exact onPort_keepsOutside (outside_of_hbi (by simp) (by simp) (retireWrite_noAccess h _ _))
    · exact keepsOutside_self s

theorem carryScrub_outside (h : s.hbi.access = none) : (s.after (execScrubWordCheck s)).outside = s.outside := by
  refine after_outside ?_
  unfold execScrubWordCheck
  split
  · split
    · exact onPort_keepsOutside (outside_of_hbi (by simp) (by simp) (scrubStep_noAccess h _))
    · intro t ht
      cases ht
      exact outside_of_hbi (by simp) (by simp) (by simp)
  · exact keepsOutside_self s

theorem carryEngine_outside (h : s.hbi.access = none) (k : EngineKind) : (s.carryEngine k).outside = s.outside := by
  unfold State.carryEngine
  cases k with
  | clear => rfl
  | priorityBlock =>
    cases s.txe.priority with
    | none => rfl
    | some o => exact carryMove_outside s o.move
  | readWord => rfl
  | restorePass => exact carryMove_outside s .restore
  | checkpointPass => exact carryMove_outside s .copy
  | retire => exact carryRetire_outside h
  | scrubBurst => exact carryScrub_outside h

end

theorem carryAccess_outside (s : State) (a : Access) : (s.carryAccess a).outside = s.outside :=
  after_outside (s := s.withdrawing a) (procGroup_keepsOutside (a := a.gone) rfl rfl)

theorem carryThrough_outside (s : State) : s.carryThrough.outside = s.outside := by
  unfold State.carryThrough
  cases s.mpt.grant with
  | none => rfl
  | processor | locked =>
    cases s.hbi.access with
    | none => rfl
    | some a => exact carryAccess_outside s a
  | engine =>
    cases s.txe.active with
    | none => rfl
    | some k => exact carryEngine_outside (s := s.noAccess) rfl k

end Sys2Proof.Machine
end

section
/-! PROOFS. START, HOLD, RELEASE and REINIT (R176, R178 to R180). -/
namespace Sys2Proof.Machine

/-! ### The commands received -/

theorem exec_start {s : State} (h : s.listens) :
    exec .start s = .next
      (if (s.commanded 0x09 []).mli.control ≠ .config then (s.commanded 0x09 []).answer .wrongState []
      else
        match validateStart (s.commanded 0x09 []).rgd (s.commanded 0x09 []).mli.params with
        | some (reason, r) => (s.commanded 0x09 []).answerBad reason r
        | none => (s.commanded 0x09 []).startRun.answer .done []) :=
  congrArg Host.Outcome.next (command_of_listens h _ _ _)

/-- The state HOLD is entered from: a scrub burst withdrawn and the port not yet settled. -/
def State.holding (s : State) : State :=
  State.suspendScrub { s.commanded 0x0B [] with mli := { (s.commanded 0x0B []).mli with control := .hold } }

theorem exec_hold {s : State} (h : s.listens) :
    exec .hold s = .next
      (match s.mli.control with
      | .run => s.holding.settle.answer .done []
      | .hold => (s.commanded 0x0B []).answer .done []
      | .config | .init => (s.commanded 0x0B []).answer .wrongState []) :=
  congrArg Host.Outcome.next (command_of_listens h _ _ _)

theorem exec_release {s : State} (h : s.listens) :
    exec .release s = .next
      (if s.mli.control ≠ .hold then (s.commanded 0x0C []).answer .wrongState []
      else if s.holdClearInFlight then (s.commanded 0x0C []).answer .busy []
      else State.answer
        { s.commanded 0x0C [] with mli := { (s.commanded 0x0C []).mli with control := .run } } .done []) :=
  congrArg Host.Outcome.next (command_of_listens h _ _ _)

/-! ### START (R176) -/

/-- The state START settles the port of. -/
def State.starting (s : State) : State :=
  { s with
    rgd := { s.rgd with layoutTag := layoutTagOf s.rgd.table }
    cau := { s.cau with digest := 0, taint := TaintSet.empty, carry := TaintSet.empty, slot := none }
    fau := { s.fau with epochFlag := false, qualified := false }
    sru := { s.sru with
      cursor := scrubFrom s.rgd.table 0
      scrubTimer := if s.mli.params.scrubInterval = 0 then none else some s.mli.params.scrubInterval }
    txe := { s.txe with clear := some ⟨true, startClears s.rgd.table, 0, 0, false⟩ }
    mli := { s.mli with control := .init } }

theorem startRun_eq (s : State) : s.startRun = s.starting.settle := rfl

theorem startRun_clear (s : State) :
    ∃ begun, s.startRun.txe.clear = some ⟨true, startClears s.rgd.table, 0, 0, begun⟩ :=
  clear_of_unbegun (o := ⟨true, startClears s.rgd.table, 0, 0, false⟩) (settle_unbegun s.starting) rfl

theorem start_refused {s : State} (h : s.listens) (hc : s.mli.control = .config) {x : Reason × Option Region}
    (hx : validateStart s.rgd s.mli.params = some x) :
    exec .start s = .next
      { s with mli := s.replied 0x09 [] [3, unit x.1.code, match x.2 with
        | some r => unit r.val
        | none => 0xFFFF] } := by
  have hv : validateStart (s.commanded 0x09 []).rgd (s.commanded 0x09 []).mli.params = some x := hx
  rw [exec_start h, if_neg (show ¬(s.commanded 0x09 []).mli.control ≠ .config from not_not_intro hc), hv]
  rfl

theorem start_taken {s : State} (h : s.listens) (hc : s.mli.control = .config)
    (hx : validateStart s.rgd s.mli.params = none) :
    exec .start s = .next ((s.commanded 0x09 []).startRun.answer .done []) := by
  have hv : validateStart (s.commanded 0x09 []).rgd (s.commanded 0x09 []).mli.params = none := hx
  rw [exec_start h, if_neg (show ¬(s.commanded 0x09 []).mli.control ≠ .config from not_not_intro hc), hv]

theorem startRun_frame (s : State) :
    { s.startRun with rgd := s.rgd, cau := s.cau, fau := s.fau, sru := s.sru, mli := s.mli, mpt := s.mpt, txe := s.txe } =
      s := by
  apply State.ext <;> simp [startRun_eq, State.starting]

/-! ### HOLD (R178) -/

theorem settle_mpt_of_granted {s : State} (ha : s.txe.active ≠ none) (hg : s.mpt.grant ≠ .none) : s.settle.mpt = s.mpt := by
  have hsome : s.txe.active.isSome = true := Option.ne_none_iff_isSome.mp ha
  unfold State.settle
  simp [Option.isNone_eq_false_iff.mpr hsome, hg]

theorem holding_active {s : State} {k : EngineKind} (h : s.txe.active = some k) (hk : k ≠ .scrubBurst) :
    s.holding.txe = { s.txe with scrub := none } := by
  have ha : s.holding.txe.active = s.txe.active :=
    if_neg fun hc : s.txe.active = some .scrubBurst => hk (Option.some.inj (h.symm.trans hc))
  show ({ s.txe with scrub := none, active := s.holding.txe.active } : Txe) = _
  rw [ha]

theorem holding_inactive {s : State} (h : s.txe.active = none ∨ s.txe.active = some .scrubBurst) :
    s.holding.txe = { s.txe with scrub := none, active := none } := by
  have ha : s.holding.txe.active = none := by
    show (if s.txe.active = some .scrubBurst then none else s.txe.active) = none
    rcases h with h | h <;> simp [h]
  show ({ s.txe with scrub := none, active := s.holding.txe.active } : Txe) = _
  rw [ha]

/-- The engine goes on with what it had, the scrub burst apart. -/
theorem holding_workKept (s : State) : workKept s s.holding.settle :=
  workKept_trans
    (workKept_iff.mpr ⟨⟨rfl, rfl, rfl, rfl⟩, fun m => by cases m <;> exact ⟨id, fun _ => id, fun o _ ho _ _ => ⟨o.begun, ho⟩⟩⟩)
    (workKept_settle s.holding) rfl rfl

theorem selected_of_inactive {s : State} (h : s.txe.active = none) : s.settle.txe = s.selectionPoint.txe := by
  rw [settle_txe, State.selected, h]
  rfl

theorem goesOn_holding {s : State} {k : EngineKind} (h : s.goesOn k) : s.holding.goesOn k := fun m hm => by
  obtain ⟨o, p, ho, hp⟩ := h m hm
  cases m <;> exact ⟨o, p, ho, hp⟩

theorem selectionPoint_empty {s : State} (h : s.txe.highest = none) : s.selectionPoint.txe.active = none := by
  unfold State.selectionPoint State.select
  rw [h]

theorem holding_frame (s : State) : { s.holding.settle with mli := s.mli, mpt := s.mpt, txe := s.txe } = s := by
  apply State.ext <;> simp <;> rfl

/-! ### REINIT (R180) -/

section
variable {s u : State} {n : Nat} {us : List Unit16}

theorem Hears.groupEnded (h : Hears n us s u) : Hears n us s.groupEnded u.groupEnded := by
  have hcarried := h.carryThrough
  cases h
  unfold State.groupEnded
  rw [show (s.commanded n us).mpt = s.mpt from rfl, show (s.commanded n us).cuts = s.cuts from rfl]
  split
  · rfl
  · rw [hcarried]
    split <;> rfl

end

theorem exec_reinit {s : State} (h : s.listens) :
    exec .reinit s = .next ((s.groupEnded.commanded 0x0A []).reinitialise.answer .done []) := by
  have hended : (s.commanded 0x0A []).groupEnded = s.groupEnded.commanded 0x0A [] := Hears.groupEnded rfl
  rw [← hended]
  exact congrArg Host.Outcome.next (command_of_listens h _ _ _)

/-- A REINIT takes effect on the state itself, or on the state a group was carried through to. -/
theorem groupEnded_carriedTo (s : State) : s.carriedTo s.groupEnded ∧ s.groupEnded.outside = s.outside := by
  have hself : s.carriedTo s := carriedTo_self ⟨rfl, rfl, rfl, rfl⟩
  by_cases hg : s.mpt.grant = .none
  · rw [groupEnded_idle hg]
    exact ⟨hself, rfl⟩
  · rcases groupEnded_cases hg with he | he <;> rw [he]
    · exact ⟨hself, rfl⟩
    · exact ⟨carryThrough_carriedTo s, carryThrough_outside s⟩

theorem get_map_installedState (t : Table) (r : Region) :
    (t.map installedState).get r = if hasAttr (·.checkpoint) t r then .broken else .none := by
  rw [Vector.get_map]
  unfold hasAttr installedState
  cases t.get r <;> rfl

/-- The state of a REINIT told by the group it carried through. -/
theorem reinit_effect {s : State} (h : s.listens) :
    ∃ t u, exec .reinit s = .next t ∧ (u = s ∨ s.carried u) ∧
      t.mli = { s.replied 0x0A [] [0] with control := .config, readResult := .none } ∧
      t.rgd = { s.rgd with pointer := 0, phase := 0, staging := Staging.empty, loadOpen := true } ∧
      t.hbi = { access := none, presented := none, busEnd := s.hbi.busEnd } ∧ t.cdu.latch = none ∧
      t.mpt.grant = .none ∧ t.mpt.count = 0 ∧ t.txe.highest = none ∧ t.txe.active = none ∧ t.txe.fifo = [] ∧
      t.txe.fifoMode = .empty ∧ t.ckc.dirty = [] ∧ t.ckc.pass = [] ∧ t.ckc.restore = [] ∧
      (∀ r, t.ckc.ckState.get r = if hasAttr (·.checkpoint) s.rgd.table r then .broken else .none) ∧
      t.cau = State.reset.cau ∧ t.twl = { s.twl with waiting := none } ∧
      t.sru = { State.reset.sru with remap := u.sru.remap } ∧
      t.fau = { u.fau with ven := false, epochFlag := false, qualified := false } ∧ t.planeP = u.planeP ∧
      t.planeQ = u.planeQ := by
  obtain ⟨⟨u, hu, hfau, hremap, hP, hQ⟩, houtside⟩ := groupEnded_carriedTo s
  have hmli := groupEnded_mli s
  rw [exec_reinit h]
  generalize s.groupEnded = v at houtside hmli hfau hremap hP hQ ⊢
  have hrgd : v.rgd = s.rgd := congrArg Prod.fst houtside
  have htwl : v.twl = s.twl := congrArg (·.2.1) houtside
  have hend : v.hbi.busEnd = s.hbi.busEnd := congrArg (·.2.2) houtside
  refine ⟨_, u, rfl, hu, ?_, ?_, ?_, rfl, rfl, rfl, rfl, rfl, rfl, rfl, rfl, rfl, rfl, fun r => ?_, rfl, ?_, ?_, ?_,
    hP.symm, hQ.symm⟩
  · rw [State.replied, ← hmli]
    rfl
  · rw [← hrgd]
    rfl
  · rw [← hend]
    rfl
  · rw [← hrgd]
    exact get_map_installedState _ r
  · rw [← htwl]
    rfl
  · rw [hremap]
    rfl
  · rw [hfau]
    rfl

theorem start_effect {s : State} (h : s.listens) (hc : s.mli.control = .config)
    (hx : validateStart s.rgd s.mli.params = none) :
    ∃ t begun, exec .start s = .next t ∧ t.mli = { s.replied 0x09 [] [0] with control := .init } ∧
      t.rgd = { s.rgd with layoutTag := layoutTagOf s.rgd.table } ∧
      t.cau = { s.cau with digest := 0, taint := TaintSet.empty, carry := TaintSet.empty, slot := none } ∧
      t.fau = { s.fau with epochFlag := false, qualified := false } ∧
      t.sru = { s.sru with
        cursor := scrubFrom s.rgd.table 0
        scrubTimer := if s.mli.params.scrubInterval = 0 then none else some s.mli.params.scrubInterval } ∧
      t.txe.clear = some ⟨true, startClears s.rgd.table, 0, 0, begun⟩ ∧
      { t with rgd := s.rgd, cau := s.cau, fau := s.fau, sru := s.sru, mli := s.mli, mpt := s.mpt, txe := s.txe } = s := by
  obtain ⟨begun, hclear⟩ := startRun_clear (s.commanded 0x09 [])
  refine ⟨_, begun, start_taken h hc hx, ?_, ?_, ?_, ?_, ?_, hclear, ?_⟩
  · rw [answer_mli, startRun_eq, settle_mli]
    rfl
  · exact settle_rgd _
  · exact settle_cau _
  · exact settle_fau _
  · exact settle_sru _
  · exact congrArg (fun u : State => { u with mli := s.mli }) (startRun_frame (s.commanded 0x09 []))

/-- A HOLD taken in RUN, by what the engine had ACTIVE. -/
theorem hold_effect {s : State} (h : s.listens) (hc : s.mli.control = .run) :
    ∃ t, exec .hold s = .next t ∧ t.mli = { s.replied 0x0B [] [0] with control := .hold } ∧ t.txe.scrub = none ∧
      t.txe.fifo = s.txe.fifo ∧ t.txe.fifoMode = s.txe.fifoMode ∧ workKept s t ∧
      (∀ k, s.txe.active = some k → k ≠ .scrubBurst →
        t.txe = { s.txe with scrub := none } ∧ (s.mpt.grant ≠ .none → t.mpt = s.mpt)) ∧
      (s.txe.active = none ∨ s.txe.active = some .scrubBurst →
        (∀ k, { s.txe with scrub := none }.highest = some k → s.goesOn k → t.txe.active = some k) ∧
        ({ s.txe with scrub := none }.highest = none → t.txe.active = none)) ∧
      { t with mli := s.mli, mpt := s.mpt, txe := s.txe } = s := by
  have hexec := exec_hold h
  rw [hc] at hexec
  have hline : s.holding.settle.txe.line = s.txe.line := settle_line s.holding
  refine ⟨_, hexec, ?_, scrub_none_of_unbegun (settle_unbegun s.holding) rfl, fifo_of_line hline, fifoMode_of_line hline,
    workKept_trans (holding_workKept s) (workKept_of_txe rfl) (settle_ckc _) (settle_rgd _), fun k hk hne => ?_,
    fun hnone => ⟨fun k hk hgo => ?_, fun hempty => ?_⟩, ?_⟩
  · rw [answer_mli, settle_mli]
    rfl
  · have htxe := holding_active hk hne
    have hact : s.holding.txe.active ≠ none := by
      rw [htxe]
      exact fun hc => nomatch hk.symm.trans hc
    exact ⟨(settle_txe_of_active hact).trans htxe, settle_mpt_of_granted hact⟩
  · have htxe := holding_inactive hnone
    rw [answer_txe, selected_of_inactive (by rw [htxe]),
      selectionPoint_goesOn (s := s.holding) (by rw [htxe]; exact hk) (goesOn_holding hgo)]
    exact activate_active _ _
  · have htxe := holding_inactive hnone
    rw [answer_txe, selected_of_inactive (by rw [htxe]), selectionPoint_empty (by rw [htxe]; exact hempty)]
  · exact congrArg (fun u : State => { u with mli := s.mli }) (holding_frame s)

/-- Settles O59: validation and the START clear by their lemmas, and each command by what it does to the state received. -/
theorem controlCommands : Obligations.ControlCommands := by
  refine ⟨fun t p hp => ⟨blocks_mul p hp, validateTable_none_iff t p, fun pre post k hrows hpre hk => ?first⟩,
    fun g p => ⟨fun h => if_pos h, fun h => if_neg (not_not_intro h)⟩, rfl,
    fun t => ⟨startClears_pairwise t, ?clears, fun r b => ⟨startClears_working t r b, fun hlen => startClears_shadow hlen b⟩⟩,
    fun s h => ⟨fun hc => ⟨fun x hx => start_refused h hc hx, start_effect h hc⟩, fun hc => ?unstarted, hold_effect h,
      fun hc => ?held, fun hc => ?unheld, fun hc => ⟨fun ho => ?released, fun o ho hat => ?clearing⟩, fun hc => ?unreleased,
      reinit_effect h⟩⟩
  case first =>
    refine ⟨fun hrow => ?_, fun h1 h2 r hr hfirst => ?_⟩
    · rw [validateTable_first hrows hpre hk]
      rcases hrow with rfl | rfl <;> rfl
    · rw [validateTable_first hrows hpre hk, rowReport_region h1 h2 hr hfirst]
  case clears =>
    intro c hc
    obtain ⟨d, hd, hmem⟩ := mem_startClears.mp hc
    exact ⟨d, hd, (entryClears_region hmem).2⟩
  case unstarted => exact (exec_start h).trans (congrArg Host.Outcome.next (if_pos hc))
  case held => rw [exec_hold h, hc]; rfl
  case unheld => rcases hc with hc | hc <;> rw [exec_hold h, hc] <;> rfl
  case released =>
    have hclear : s.holdClearInFlight = false := by
      unfold State.holdClearInFlight
      cases hcl : s.txe.clear with
      | none => rfl
      | some o => simp [ho o hcl]
    rw [exec_release h, if_neg (not_not_intro hc), hclear]
    rfl
  case clearing =>
    have hclear : s.holdClearInFlight = true := by simp [State.holdClearInFlight, ho, hat]
    rw [exec_release h, if_neg (not_not_intro hc), hclear]
    rfl
  case unreleased =>
    have hne : s.mli.control ≠ .hold := by rcases hc with hc | hc | hc <;> rw [hc] <;> decide
    rw [exec_release h, if_pos hne]
    rfl

end Sys2Proof.Machine
end

section
/-! PROOFS. What the invariants of CapacitiesKept read of a state, and the changes a step makes of it: a predicate that each of these
changes keeps is kept by every group at the port (R59, R61). -/
namespace Sys2Proof.Machine

/-! ### What the invariants read -/

/-- What the invariants on the sizes, the remap table, the region table, the sets and the marker read of a state. -/
structure Core where
  phase       : Option Phase
  table       : Table
  field       : Fin 8
  staging     : Staging
  tag         : BitVec 16
  txe         : Txe
  ckc         : Ckc
  held        : Option HeldMarker
  localMark   : Option Mark
  verdictDue  : Bool
  rx          : Option (List RxUnit)
  scrubTimer  : Option Nat
  history     : List HistoryEntry
  retireQueue : List Nat
  remap       : List RemapEntry
  queue       : List FaultRecord
  counters    : Vector Nat 22
  params      : Params
  control     : Control

/-- The part of a state that the invariants read. -/
def State.core (s : State) : Core :=
  { phase := s.hbi.access.map (·.phase), table := s.rgd.table, field := s.rgd.phase, staging := s.rgd.staging
    tag := s.rgd.layoutTag, txe := s.txe, ckc := s.ckc, held := s.cau.held, localMark := s.cau.localMark
    verdictDue := s.cau.verdictDue, rx := s.twl.rx, scrubTimer := s.sru.scrubTimer, history := s.sru.history
    retireQueue := s.sru.retireQueue, remap := s.sru.remap, queue := s.fau.queue, counters := s.fau.counters
    params := s.mli.params, control := s.mli.control }

/-- The access may pass a hold check or be taken: it is no held marker, and none is taken outside RUN. -/
def Core.mayEnter (c : Core) : Prop := c.phase ≠ some .heldMarker ∧ (c.phase = none → c.control = .run)

/-- No pass is in flight (R96). -/
def Ckc.quiet (c : Ckc) : Prop := ∀ (r : Region) (m : Move), c.ckState.get r ≠ m.inFlight

/-! ### Sizes -/

/-- The fault queue and the counters within their sizes (R161, R163). -/
def stockFits (q : List FaultRecord) (cs : Vector Nat 22) : Prop := q.length ≤ 16 ∧ ∀ i, cs.get i ≤ 65535

/-- The repair history and the retire queue within their sizes, without duplicates (R147, R149). -/
def sheetFits (h : List HistoryEntry) (q : List Nat) : Prop :=
  h.length ≤ 8 ∧ (h.map (·.word)).Nodup ∧ q.length ≤ 4 ∧ q.Nodup

/-- The FIFO within its size, and one entry short of it while it does not drain (R69). -/
def lineFits (l : List FifoEntry) (m : FifoMode) : Prop := l.length ≤ 32 ∧ (m ≠ .draining → l.length < 32)

/-- An open receive frame shorter than the length its header gives it (R126, R184). -/
def openFits (x : Option (List RxUnit)) : Prop :=
  ∀ us ∈ x, us ≠ [] ∧ ∀ u ∈ us.head?, u.first = true →
    (u.data = 0xA501 → us.length < 2) ∧ (u.data = 0xA502 → us.length < 7)

/-! ### The changes that every block's reports make -/

/-- The RETIRE slot emptied; no operation is then in hand where it was the retire's. -/
def Txe.unretired (x : Txe) : Txe :=
  { x with retire := none, active := if x.active = some .retire then none else x.active }

/-- The SCRUB_BURST slot emptied, likewise. -/
def Txe.unscrubbed (x : Txe) : Txe :=
  { x with scrub := none, active := if x.active = some .scrubBurst then none else x.active }

/-- The predicate is kept by faults and counts, repairs and retire requests, an access's way through its hold checks, and, in the
control states W, blocks added to the dirty map. -/
structure Common (R : Core → Prop) (W : Control → Prop) : Prop where
  stock : ∀ {c : Core} {q : List FaultRecord} {cs : Vector Nat 22}, (stockFits c.queue c.counters → stockFits q cs) → R c →
    R { c with queue := q, counters := cs }
  sheet : ∀ {c : Core} {h : List HistoryEntry} {q : List Nat}, (sheetFits c.history c.retireQueue → sheetFits h q) → R c →
    R { c with history := h, retireQueue := q }
  enter : ∀ {c : Core} {p : Phase}, c.mayEnter → p ≠ .heldMarker → R c → R { c with phase := some p }
  leave : ∀ {c : Core}, c.phase ≠ some .heldMarker → R c → R { c with phase := none }
  marker : ∀ {c : Core} {h : HeldMarker}, c.mayEnter → R c → R { c with phase := some .heldMarker, held := some h }
  unscrub : ∀ {c : Core}, R c → R { c with txe := c.txe.unscrubbed }
  dirty : ∀ {c : Core} {r : Region} {d : Descriptor} {b : Nat}, W c.control → c.table.get r = some d →
    d.attrs.checkpoint = true → d.authorised b = true → c.ckc.ckState.get r ≠ .none → R c →
    R { c with ckc := { c.ckc with dirty := BlockSet.add b c.ckc.dirty } }

/-! ### Sizes, kept -/

theorem bumpCounter_fits {cs : Vector Nat 22} (h : ∀ i, cs.get i ≤ 65535) (j i : Fin 22) :
    (bumpCounter cs j).get i ≤ 65535 := by
  by_cases hij : j = i
  · subst hij
    rw [bumpCounter_get_same (h j)]
    exact Nat.min_le_left _ _
  · rw [bumpCounter_get_other cs hij]
    exact h i

theorem take_fits {f : Fau} (r : FaultRecord) (h : stockFits f.queue f.counters) :
    stockFits (f.take r).queue (f.take r).counters := by
  have hrecorded : (f.take r).queue = (f.recorded r).queue ∧ (f.take r).counters = (f.recorded r).counters := by
    cases hv : r.vital with
    | false => rw [take_notVital hv]; exact ⟨rfl, rfl⟩
    | true =>
      rw [take_vital hv]
      unfold Fau.vitalFault
      dsimp only
      split <;> exact ⟨rfl, rfl⟩
  rw [hrecorded.1, hrecorded.2]
  obtain ⟨hq, hcs⟩ := h
  unfold Fau.recorded Fau.offer
  dsimp only
  split
  · next hroom =>
    refine ⟨?_, bumpCounter_fits hcs _⟩
    have : f.queue.length < 16 := hroom
    simp only [List.length_append, List.length_singleton]
    omega
  · exact ⟨hq, bumpCounter_fits hcs _⟩

theorem remembered_fits {h : List HistoryEntry} {q : List Nat} {w : Nat} {pl : Plane}
    (hnew : (h.any fun e => decide (e.word = w)) = false) (hfit : sheetFits h q) :
    sheetFits ((⟨w, pl⟩ :: h).take 8) q := by
  obtain ⟨-, hnodup, hq⟩ := hfit
  refine ⟨by simp only [List.length_take]; omega, ?_, hq⟩
  rw [List.map_take]
  refine List.Nodup.sublist (List.take_sublist _ _) (List.nodup_cons.mpr ⟨fun hmem => ?_, hnodup⟩)
  obtain ⟨e, he, hw⟩ := List.mem_map.mp hmem
  simpa [hw] using List.any_eq_false.mp hnew e he

theorem forgotten_fits {h : List HistoryEntry} {q : List Nat} (p : HistoryEntry → Bool) (hfit : sheetFits h q) :
    sheetFits (h.filter p) q := by
  obtain ⟨hlen, hnodup, hq⟩ := hfit
  exact ⟨(List.length_filter_le _ _).trans hlen, (List.filter_sublist.map _).nodup hnodup, hq⟩

theorem queued_fits {h : List HistoryEntry} {q : List Nat} {b : Nat} (hb : b ∉ q) (hroom : q.length < 4)
    (hfit : sheetFits h q) : sheetFits h (q ++ [b]) := by
  obtain ⟨hlen, hnodup, -, hq⟩ := hfit
  refine ⟨hlen, hnodup, by simp only [List.length_append, List.length_singleton]; omega, ?_⟩
  exact List.nodup_append.mpr ⟨hq, List.nodup_singleton b, by simpa using fun a ha (he : a = b) => hb (he ▸ ha)⟩

theorem dequeued_fits {u : Sru} (b : Nat) (hfit : sheetFits u.history u.retireQueue) :
    sheetFits (u.dequeue b).history (u.dequeue b).retireQueue := by
  unfold Sru.dequeue
  split
  · next x t ht =>
    split
    · obtain ⟨hlen, hnodup, hq, hqn⟩ := hfit
      rw [ht] at hq hqn
      exact ⟨hlen, hnodup, (Nat.le_succ _).trans hq, (List.nodup_cons.mp hqn).2⟩
    · exact hfit
  · exact hfit

/-! ### The shared operations -/

section
variable {R : Core → Prop} {W : Control → Prop} {s : State}

theorem core_of_eq {t : State} (he : t.core = s.core) (h : R s.core) : R t.core := he ▸ h

theorem Common.takeFault (K : Common R W) (h : R s.core) (f : FaultReport) : R (s.takeFault f).core := by
  have he : (s.takeFault f).core =
      { s.core with queue := (s.fau.take (s.recordOf f)).queue, counters := (s.fau.take (s.recordOf f)).counters } := by
    simp [State.core]
  rw [he]
  exact K.stock (take_fits _) h

theorem Common.takeRetireFault (K : Common R W) (h : R s.core) (f : FaultReport) : R (s.takeRetireFault f).core := by
  unfold State.takeRetireFault
  dsimp only
  split
  · exact core_of_eq (s := s.takeFault f) rfl (K.takeFault h f)
  · exact K.takeFault h f

theorem Common.addDirty (K : Common R W) (hw : W s.mli.control) (h : R s.core) (b : Nat) : R (s.addDirty b).core := by
  unfold State.addDirty
  split
  · next r d hd =>
    split
    · exact h
    · next hstate =>
      obtain ⟨hget, hmeets⟩ := firstRegion_meets hd
      obtain ⟨hck, hauth⟩ := Bool.and_eq_true_iff.mp hmeets
      exact K.dirty (c := s.core) hw hget hck hauth hstate h
  · exact h

theorem Common.addDirtyIf (K : Common R W) (hw : W s.mli.control) (h : R s.core) (p : Bool) (b : Nat) :
    R (s.addDirtyIf p b).core := by
  unfold State.addDirtyIf
  split
  · exact K.addDirty hw h b
  · exact h

theorem Common.requestRetire (K : Common R W) (h : R s.core) (b w : Nat) : R (s.requestRetire b w).core := by
  unfold State.requestRetire
  split
  · exact h
  · next hb =>
    split
    · next hroom => exact K.sheet (c := s.core) (queued_fits hb hroom) h
    · exact K.takeFault h _

theorem Common.reportRepair (K : Common R W) (h : R s.core) (w : Nat) (pl : Plane) : R (s.reportRepair w pl).core := by
  have hcounted : R ({ s with fau := { s.fau with counters := bumpCounter s.fau.counters pl.counter } } : State).core :=
    K.stock (c := s.core) (fun hfit => ⟨hfit.1, bumpCounter_fits hfit.2 _⟩) h
  unfold State.reportRepair
  dsimp only
  split
  · exact K.requestRetire (K.sheet (forgotten_fits _) hcounted) _ _
  · next hnew => exact K.sheet (remembered_fits (Bool.eq_false_iff.mpr hnew)) hcounted

theorem Common.repair (K : Common R W) (h : R s.core) (w : Nat) (t : Terms) (rep : CheckReport) :
    R (s.repair w t rep).core := by
  unfold State.repair
  split
  · exact K.reportRepair (s := s.putP _ _) h w .p
  · exact K.reportRepair (s := s.putQ _ _) h w .q
  · exact h
  · exact h

theorem Common.repairByWrite (K : Common R W) (h : R s.core) (w : Nat) (rep : CheckReport) :
    R (s.repairByWrite w rep).core := by
  unfold State.repairByWrite
  split
  · exact K.reportRepair h w .p
  · exact K.reportRepair h w .q
  · exact h
  · exact h

theorem Common.dequeue (K : Common R W) (h : R s.core) (b : Nat) : R ({ s with sru := s.sru.dequeue b } : State).core := by
  have he : ({ s with sru := s.sru.dequeue b } : State).core =
      { s.core with history := (s.sru.dequeue b).history, retireQueue := (s.sru.dequeue b).retireQueue } := by
    unfold State.core Sru.dequeue
    dsimp only
    split
    · split <;> rfl
    · rfl
  rw [he]
  exact K.sheet (dequeued_fits b) h

/-! ### An access's way through its hold checks (R43 to R45) -/

theorem Common.enterPhase (K : Common R W) (hm : s.core.mayEnter) (h : R s.core) (a : Access) {p : Phase}
    (hp : p ≠ .heldMarker) : R (s.enterPhase a p).core := K.enter hm hp h

theorem Common.endAccess (K : Common R W) (hm : s.core.phase ≠ some .heldMarker) (h : R s.core) (a : Access) (e : BusEnd) :
    R (s.endAccess a e).core := K.leave hm h

theorem Common.suspendScrub (K : Common R W) (h : R s.core) : R s.suspendScrub.core := K.unscrub h

theorem Common.takeMarker (K : Common R W) (hm : s.core.mayEnter) (h : R s.core) (a : Access) (v : Word) :
    R (s.takeMarker a v).core := by
  have hheld : R ({ s.enterPhase a .heldMarker with cau := { s.cau with
      deadlineTimer := none, marker := .draining, held := some ⟨markerKind v, loByte v⟩ } } : State).core := K.marker hm h
  unfold State.takeMarker
  dsimp only
  refine K.suspendScrub ?_
  split
  · exact hheld
  · exact K.takeFault hheld _

theorem Common.markerCheck (K : Common R W) (hm : s.core.mayEnter) (h : R s.core) (a : Access) : R (s.markerCheck a).core := by
  unfold State.markerCheck
  split
  · exact K.takeMarker hm h a _
  · refine K.endAccess (s := s.takeFault _) ?_ (K.takeFault h _) a .berr
    exact hm.1
  · exact K.enterPhase hm h a (by decide)

theorem Common.retireCheck (K : Common R W) (hm : s.core.mayEnter) (h : R s.core) (a : Access) : R (s.retireCheck a).core := by
  unfold State.retireCheck
  split
  · exact K.enterPhase hm h a (by decide)
  · exact K.markerCheck hm h a

theorem mayEnter_of_access {a : Access} (ha : s.hbi.access = some a) (hp : a.phase ≠ .heldMarker) : s.core.mayEnter := by
  have hphase : s.core.phase = some a.phase := congrArg (Option.map _) ha
  rw [Core.mayEnter, hphase]
  exact ⟨fun he => hp (Option.some.inj he), nofun⟩

theorem phase_ne_of_access {a : Access} (ha : s.hbi.access = some a) (hp : a.phase ≠ .heldMarker) :
    s.core.phase ≠ some .heldMarker := (mayEnter_of_access ha hp).1

theorem Common.releaseHeld (K : Common R W) (h : R s.core) (p : Access → Bool) : R (s.releaseHeld p).core := by
  unfold State.releaseHeld
  split
  · next a ha =>
    split
    · next hph => exact K.retireCheck (mayEnter_of_access ha (by rw [hph.1]; decide)) h a
    · exact h
  · exact h

theorem Common.releaseRetire (K : Common R W) (h : R s.core) (b : Nat) : R (s.releaseRetire b).core := by
  unfold State.releaseRetire
  split
  · next a ha =>
    split
    · next hph => exact K.markerCheck (mayEnter_of_access ha (by rw [hph.1]; decide)) h a
    · exact h
  · exact h

end

end Sys2Proof.Machine
end

section
/-! PROOFS. The engine's changes: selection points, word groups, and the breaks and ends of passes, retire copies and clears (R67 to
R79). -/
namespace Sys2Proof.Machine

/-! ### The engine's changes -/

/-- A pass whose kept position lies in a block outside this set will discard it (R72). -/
def Txe.staled (x : Txe) (xs : BlockSet) (m : Move) : Txe :=
  match x.passSlot m with
  | some o =>
    match o.pos with
    | some p => if p.block ∈ xs then x else x.setPass m (some { o with stale := true })
    | none => x
  | none => x

/-- A PRIORITY_BLOCK of this move whose block is outside this set is withdrawn (R92). -/
def Txe.recalled (x : Txe) (xs : BlockSet) (m : Move) : Txe :=
  match x.priority with
  | some o => if o.move = m ∧ o.block ∉ xs then { x with priority := none } else x
  | none => x

/-- The checkpoint state in which the START clear leaves an entry (R177). -/
def startState (d : Option Descriptor) : CkState :=
  match installedState d with
  | .broken => .valid
  | x => x

/-- The block is the one a move has in hand (R70 to R72). -/
def Txe.movesBlock (x : Txe) (m : Move) (b : Nat) : Prop :=
  (x.active = some .priorityBlock ∧ ∃ o, x.priority = some o ∧ o.move = m ∧ o.block = b) ∨
    (x.active = some m.passKind ∧ ∃ o p, x.passSlot m = some o ∧ o.pos = some p ∧ p.block = b)

/-- P is kept by the engine's changes, and Q, which is all that is told of the places of the passes until the next selection point,
is enough there. W is what P tells of the control state while an access or the engine is at work. -/
structure Engine (P Q : Core → Prop) (W : Control → Prop) : Prop where
  sound : Common P W
  loose : Common Q W
  loosen : ∀ {c : Core}, P c → Q c
  works : ∀ {c : Core}, c.phase ≠ none ∨ c.txe.active ≠ none → P c → W c.control
  -- selection points (R68)
  activate : ∀ {c : Core} {k : EngineKind}, c.txe.highest = some k → Q c → Q { c with txe := c.txe.activate k }
  passTakes : ∀ {c : Core} {m : Move} {o : PassOp} {p : PassPos}, c.txe.passSlot m = some o → p.block ∈ c.ckc.setOf m →
    Q c → Q { c with txe := c.txe.setPass m (some { o with pos := some p, stale := false }) }
  passEnds : ∀ {c : Core} {m : Move}, Q c → Q { c with txe := c.txe.setPass m none }
  selected : ∀ {c : Core} {k : EngineKind}, c.txe.highest = some k → c.txe.active = some k →
    (∀ m : Move, k = m.passKind → c.txe.needsBlock m = false) → Q c → P c
  idles : ∀ {c : Core}, c.txe.highest = none → Q c → P { c with txe := { c.txe with active := none } }
  -- word groups (R69 to R71, R74)
  line : ∀ {c : Core} {l : List FifoEntry} {md : FifoMode}, (lineFits c.txe.fifo c.txe.fifoMode → lineFits l md) → P c →
    P { c with txe := { c.txe with fifo := l, fifoMode := md } }
  moveOffset : ∀ {c : Core} {n : Nat}, P c → P { c with txe := c.txe.setMoveOffset n }
  retireOffset : ∀ {c : Core} {o : RetireOp} {n : Nat}, c.txe.retire = some o → P c →
    P { c with txe := { c.txe with retire := some { o with offset := n } } }
  -- passes (R72, R73, R89, R93, R106, R111)
  dropped : ∀ {c : Core}, P c → Q { c with txe := c.txe.dropPriority }
  broken : ∀ {c : Core} {r : Region}, c.ckc.ckState.get r = .valid → Q c → Q { c with ckc := c.ckc.setState r .broken }
  passBroken : ∀ {c : Core} {m : Move} {r : Region}, c.ckc.ckState.get r = m.inFlight → Q c →
    Q { c with
      ckc := c.ckc.breakPass c.table m r
      txe := (c.txe.staled ((c.ckc.breakPass c.table m r).setOf m) m).recalled ((c.ckc.breakPass c.table m r).setOf m) m }
  moved : ∀ {c : Core} {m : Move} {r : Region} {b : Nat}, c.txe.movesBlock m b → P c →
    Q { c with
      ckc := c.ckc.blockMoved c.table m r b
      txe := c.txe.dropPriority.staled ((c.ckc.blockMoved c.table m r b).setOf m) m }
  -- retire copies (R74, R75, R155)
  unretired : ∀ {c : Core}, P c → P { c with txe := c.txe.unretired }
  remapped : ∀ {c : Core} {o : RetireOp}, c.txe.retire = some o → P c →
    P { c with txe := c.txe.unretired, remap := remapInstall c.remap o.block o.spare }
  -- the other slots (R76 to R79, R177)
  scrubSlot : ∀ {c : Core} {o : Option ScrubOp}, (c.txe.scrub = none → o = none) → Q c →
    Q { c with txe := { c.txe with scrub := o } }
  readSlot : ∀ {c : Core} {o : Option ReadWordOp}, (c.txe.readWord = none → o = none) → P c →
    P { c with txe := { c.txe with readWord := o } }
  clearSlot : ∀ {c : Core} {o : ClearOp} {x : Option ClearOp}, c.txe.clear = some o → (∀ o' ∈ x, o'.atStart = o.atStart) →
    P c → P { c with txe := { c.txe with clear := x } }
  startDone : ∀ {c : Core} {o : ClearOp}, c.txe.clear = some o → o.atStart = true → P c →
    P { c with
      txe := { c.txe with clear := none }
      control := .run
      ckc := { dirty := [], pass := [], restore := []
               ckState := c.table.map startState } }
  verdictWritten : ∀ {c : Core}, c.phase = some .heldMarker → c.verdictDue = true → P c →
    P { c with phase := none, verdictDue := false }

section
variable {P Q : Core → Prop} {W : Control → Prop} {s : State}

/-! ### Selection points (R68) -/

/-- What the Checkpoint Controller names next is of the set (R70, R71). -/
theorem mem_of_nextPassBlock {m : Move} {p : PassPos} (h : s.nextPassBlock m = some p) : p.block ∈ s.ckc.setOf m := by
  obtain ⟨r, -, hr⟩ := List.exists_of_findSome?_eq_some (nextPassBlock_eq s m ▸ h)
  unfold State.nextBlockIn at hr
  split at hr
  · next d hd =>
    split at hr
    · obtain ⟨b, hb, rfl⟩ := Option.map_eq_some_iff.mp hr
      have hmem {xs : List Nat} (hx : firstInOrder d.dir xs = some b) : b ∈ xs := by
        unfold firstInOrder at hx
        cases hdir : d.dir with
        | up => rw [hdir] at hx; exact List.mem_of_head? hx
        | down => rw [hdir] at hx; exact List.mem_of_getLast? hx
      exact (List.mem_filter.mp (List.mem_filter.mp (hmem hb)).1).1
    · cases hr
  · cases hr

theorem Engine.askPass (E : Engine P Q W) (h : Q s.core) (m : Move) : Q (s.askPass m).core := by
  unfold State.askPass
  split
  · exact h
  · next o ho =>
    split
    · next p hp => exact E.passTakes (c := s.core) ho (mem_of_nextPassBlock hp) h
    · exact E.passEnds (c := s.core) h

/-- How many pass slots are occupied. -/
def Txe.passCount (x : Txe) : Nat := x.checkpointPass.isSome.toNat + x.restorePass.isSome.toNat

theorem passCount_setPass_none {x : Txe} {m : Move} (h : x.passSlot m ≠ none) :
    (x.setPass m none).passCount < x.passCount := by
  cases m with
  | copy =>
    have hs : x.checkpointPass.isSome = true := Option.ne_none_iff_isSome.mp h
    simp [Txe.passCount, Txe.setPass, hs]
  | restore =>
    have hs : x.restorePass.isSome = true := Option.ne_none_iff_isSome.mp h
    simp [Txe.passCount, Txe.setPass, hs]

theorem passCount_activate (x : Txe) (k : EngineKind) : (x.activate k).passCount = x.passCount := by
  cases k <;> simp [Txe.activate, Txe.passCount]

theorem highest_activate (x : Txe) (k : EngineKind) : (x.activate k).highest = x.highest := by
  cases k with
  | clear => unfold Txe.activate Txe.highest; cases x.clear <;> rfl
  | priorityBlock => unfold Txe.activate Txe.highest; cases x.priority <;> rfl
  | readWord => unfold Txe.activate Txe.highest; cases x.readWord <;> rfl
  | restorePass => unfold Txe.activate Txe.highest; cases x.restorePass <;> rfl
  | checkpointPass => unfold Txe.activate Txe.highest; cases x.checkpointPass <;> rfl
  | retire => unfold Txe.activate Txe.highest; cases x.retire <;> rfl
  | scrubBurst => unfold Txe.activate Txe.highest; cases x.scrub <;> rfl

theorem highest_setPass_some {x : Txe} {m : Move} (h : x.passSlot m ≠ none) (o : PassOp) :
    (x.setPass m (some o)).highest = x.highest := by
  cases m with
  | copy =>
    have hs : x.checkpointPass.isSome = true := Option.ne_none_iff_isSome.mp h
    simp [Txe.highest, Txe.setPass, hs]
  | restore =>
    have hs : x.restorePass.isSome = true := Option.ne_none_iff_isSome.mp h
    simp [Txe.highest, Txe.setPass, hs]

/-- A pass that asks ends, or takes a block it need not discard. -/
theorem askPass_cases {m : Move} (h : s.txe.passSlot m ≠ none) :
    (s.askPass m).txe = s.txe.setPass m none ∨
      ∃ o p, (s.askPass m).txe = s.txe.setPass m (some o) ∧ o.pos = some p ∧ o.stale = false := by
  obtain ⟨o, ho⟩ := Option.ne_none_iff_exists'.mp h
  unfold State.askPass
  rw [ho]
  dsimp only
  split
  · exact .inr ⟨_, _, rfl, rfl, rfl⟩
  · exact .inl rfl

theorem Engine.select (E : Engine P Q W) {n : Nat} (hn : s.txe.passCount < n) (h : Q s.core) : P (s.select n).core := by
  induction n generalizing s with
  | zero => omega
  | succ n ih =>
    unfold State.select
    split
    · next hnone => exact E.idles (c := s.core) hnone h
    · next k hk =>
      have hactive : Q ({ s with txe := s.txe.activate k } : State).core := E.activate (c := s.core) hk h
      have hhigh : (s.txe.activate k).highest = some k := (highest_activate _ _).trans hk
      dsimp only
      split
      · next m hm =>
        have hkm := passMove_eq_some.mp hm
        split
        · next hneeds =>
          have hslot : (s.txe.activate k).passSlot m ≠ none := fun hc => by simp [Txe.needsBlock, hc] at hneeds
          have hasked : Q (State.askPass { s with txe := s.txe.activate k } m).core := E.askPass hactive m
          rcases askPass_cases (s := { s with txe := s.txe.activate k }) hslot with he | ⟨o, p, he, hp, hst⟩
          · rw [if_pos (by rw [he]; simp)]
            refine ih ?_ hasked
            rw [he]
            have hless := passCount_setPass_none hslot
            rw [passCount_activate] at hless
            exact Nat.lt_of_lt_of_le hless (Nat.lt_succ_iff.mp hn)
          · rw [if_neg (by rw [he]; simp)]
            refine E.selected (k := k) ?_ ?_ (fun m' hm' => ?_) hasked
            · exact (congrArg Txe.highest he).trans ((highest_setPass_some hslot o).trans hhigh)
            · exact (askPass_active _ m).trans (activate_active _ _)
            · obtain rfl := passKind_injective (hkm.symm.trans hm')
              have hgot : (State.askPass { s with txe := s.txe.activate k } m).txe.passSlot m = some o := by rw [he]; simp
              exact (needsBlock_of_passSlot hgot).trans (by rw [hp, hst]; rfl)
        · next hneeds =>
          refine E.selected (k := k) hhigh (activate_active _ _) (fun m' hm' => ?_) hactive
          obtain rfl := passKind_injective (hkm.symm.trans hm')
          exact Bool.eq_false_iff.mpr hneeds
      · next hm =>
        refine E.selected (k := k) hhigh (activate_active _ _) (fun m' hm' => ?_) hactive
        rw [passMove_eq_some.mpr hm'] at hm
        cases hm

theorem Engine.selectionPoint (E : Engine P Q W) (h : Q s.core) : P s.selectionPoint.core := by
  refine E.select ?_ h
  have hcopy := Bool.toNat_le s.txe.checkpointPass.isSome
  have hrestore := Bool.toNat_le s.txe.restorePass.isSome
  unfold Txe.passCount
  omega

theorem settle_core (s : State) : s.settle.core = s.selected.core := by
  unfold State.core
  rw [settle_txe]
  unfold State.selected
  split <;> simp

theorem Engine.settle (E : Engine P Q W) (h : P s.core) : P s.settle.core := by
  rw [settle_core, State.selected]
  split
  · exact E.selectionPoint (E.loosen h)
  · exact h

theorem Engine.releasePort (E : Engine P Q W) (h : P s.core) : P s.releasePort.core :=
  E.settle (s := { s with mpt := { s.mpt with grant := .none } }) h

theorem Engine.portAfterEngine (E : Engine P Q W) (h : P s.core) (asked : Bool) : P (s.portAfterEngine asked).core := by
  unfold State.portAfterEngine
  dsimp only
  split
  · exact E.settle (s := { s with mpt := { s.mpt with grant := .none, count := s.mpt.count + 1 } }) h
  · split
    · exact h
    · split <;> exact h

theorem Engine.engineGroupEnd (E : Engine P Q W) (h : P s.core) (asked : Bool) : P (s.engineGroupEnd asked).core :=
  E.portAfterEngine h asked

theorem Engine.engineSelectEnd (E : Engine P Q W) (h : Q s.core) (asked : Bool) : P (s.engineSelectEnd asked).core :=
  E.portAfterEngine (E.selectionPoint h) asked

/-! ### Passes that break off, and blocks moved (R73, R89, R93, R95, R106, R111) -/

theorem markStale_core (s : State) (m : Move) :
    (s.markStale m).core = { s.core with txe := s.txe.staled (s.ckc.setOf m) m } := by
  have htxe : (s.markStale m).txe = s.txe.staled (s.ckc.setOf m) m := by
    unfold State.markStale Txe.staled
    cases s.txe.passSlot m with
    | none => rfl
    | some o =>
      dsimp only
      cases o.pos with
      | none => rfl
      | some p => dsimp only; split <;> rfl
  rw [← htxe]
  simp [State.core]

theorem withdrawPriority_core (s : State) (m : Move) :
    (s.withdrawPriority m).core = { s.core with txe := s.txe.recalled (s.ckc.setOf m) m } := by
  have htxe : (s.withdrawPriority m).txe = s.txe.recalled (s.ckc.setOf m) m := by
    unfold State.withdrawPriority Txe.recalled
    cases s.txe.priority with
    | none => rfl
    | some o => dsimp only; split <;> rfl
  rw [← htxe]
  simp [State.core]

theorem Engine.breakPass (E : Engine P Q W) {m : Move} {r : Region} (hr : s.ckc.ckState.get r = m.inFlight) (h : Q s.core) :
    Q (s.breakPass m r).core := by
  refine E.loose.releaseHeld ?_ _
  rw [withdrawPriority_core, markStale_core, markStale_ckc]
  have htxe (u : State) : (u.markStale m).txe = u.txe.staled (u.ckc.setOf m) m := congrArg Core.txe (markStale_core u m)
  rw [htxe]
  exact E.passBroken (c := s.core) hr h

theorem Engine.shadowBreak (E : Engine P Q W) (h : Q s.core) (r : Region) : Q (s.shadowBreak r).core := by
  unfold State.shadowBreak
  split
  · next hr => exact E.broken (c := s.core) hr h
  · next hr => exact E.breakPass (m := .copy) hr h
  · next hr => exact E.breakPass (m := .restore) hr h
  · exact h
  · exact h

theorem Engine.moveFailed (E : Engine P Q W) (hw : W s.mli.control) (h : Q s.core) (m : Move) (r : Region) (b : Nat)
    (pos : Position) (w : Nat) (rep : CheckReport) : Q (s.moveFailed m r b pos w rep).core := by
  have hbroken : Q (s.shadowBreak r).core := E.shadowBreak h r
  unfold State.moveFailed
  dsimp only
  refine E.loose.takeFault ?_ _
  cases m with
  | copy => exact E.loose.addDirty (by rwa [shadowBreak_mli]) hbroken b
  | restore => exact hbroken

theorem Engine.moveOver (E : Engine P Q W) (h : Q s.core) (m : Move) : Q (s.moveOver m).core := by
  unfold State.moveOver
  split
  · exact h
  · exact E.askPass h m

theorem flushed_fits {l : List FifoEntry} {m : FifoMode} : lineFits l m → lineFits [] .empty :=
  fun _ => ⟨Nat.zero_le _, fun _ => by decide⟩

theorem Engine.flush (E : Engine P Q W) (h : P s.core) : P ({ s with txe := s.txe.flush } : State).core :=
  E.line (c := s.core) flushed_fits h

theorem Engine.moveReadFails (E : Engine P Q W) (hw : W s.mli.control) (h : P s.core) (m : Move) (p : PassPos)
    (rep : CheckReport) : Q (s.moveReadFails m p rep).core :=
  E.moveOver (E.moveFailed (s := { s with txe := s.txe.flush.dropPriority }) hw (E.dropped (E.flush h)) _ _ _ _ _ _) m

theorem Engine.blockMoved (E : Engine P Q W) {m : Move} {b : Nat} (hb : s.txe.movesBlock m b) (h : P s.core) (r : Region) :
    Q (State.blockMoved { s with txe := s.txe.dropPriority } m r b).core := by
  refine E.loose.releaseHeld ?_ _
  rw [markStale_core]
  exact E.moved (c := s.core) hb h

/-! ### The FIFO (R69) -/

theorem push_fits {x : Txe} (e : FifoEntry) (hmode : x.fifoMode ≠ .draining) (h : lineFits x.fifo x.fifoMode) :
    lineFits (x.push e).fifo (x.push e).fifoMode := by
  obtain ⟨-, hroom⟩ := h
  have hlen := hroom hmode
  have hpushed : (x.push e).fifo.length = x.fifo.length + 1 := by simp [Txe.push]
  refine ⟨by omega, fun hm => ?_⟩
  rw [hpushed]
  by_contra hfull
  exact hm (if_neg (show ¬x.fifo.length + 1 < 32 by omega))

theorem pop_fits {x : Txe} (h : lineFits x.fifo x.fifoMode) : lineFits x.pop.fifo x.pop.fifoMode := by
  have hlen : x.pop.fifo.length ≤ 32 := (List.tail_sublist _).length_le.trans h.1
  refine ⟨hlen, fun hm => ?_⟩
  by_cases hnil : x.fifo.tail = []
  · show x.fifo.tail.length < 32
    simp [hnil]
  · exact absurd (if_neg hnil) hm

theorem Engine.push (E : Engine P Q W) (hmode : s.txe.fifoMode ≠ .draining) (h : P s.core) (e : FifoEntry) :
    P ({ s with txe := s.txe.push e } : State).core := E.line (c := s.core) (push_fits e hmode) h

theorem Engine.pop (E : Engine P Q W) (h : P s.core) : P ({ s with txe := s.txe.pop } : State).core :=
  E.line (c := s.core) pop_fits h

/-! ### Block moves (R70 to R73) -/

theorem movesBlock_of_movePos {m : Move} {p : PassPos} (h : s.movePos m = some p) : s.txe.movesBlock m p.block := by
  rcases movePos_iff.mp h with ⟨ha, o, ho, hm, rfl⟩ | ⟨ha, o, ho, hp⟩
  · exact .inl ⟨ha, o, ho, hm, rfl⟩
  · exact .inr ⟨ha, o, p, ho, hp, rfl⟩

theorem movesBlock_pop {x : Txe} {m : Move} {b : Nat} (h : x.movesBlock m b) : x.pop.movesBlock m b := by
  cases m <;> exact h

theorem Engine.moveRead (E : Engine P Q W) (hw : W s.mli.control) (hmode : s.txe.fifoMode ≠ .draining) (h : P s.core)
    (m : Move) (p : PassPos) : P (s.moveRead m p).core := by
  have hrepaired := E.sound.repair h (s.moveSourceWord m p) (s.terms (s.moveSourceWord m p))
    (s.check true (s.moveSourceWord m p) (s.terms (s.moveSourceWord m p)))
  unfold State.moveRead
  dsimp only
  split
  · refine E.engineGroupEnd (E.moveOffset (E.push ?_ hrepaired _)) _
    rwa [repair_txe]
  · exact E.engineSelectEnd (E.moveReadFails (by rwa [repair_mli]) hrepaired m p _) _

theorem Engine.moveWrite (E : Engine P Q W) {m : Move} {p : PassPos} (hp : s.movePos m = some p) (h : P s.core)
    (e : FifoEntry) : P (s.moveWrite m p e).core := by
  have hpopped : P ({ s.writeWord (s.moveTargetWord m p e) (s.terms (s.moveTargetWord m p e)) e.data with
      txe := s.txe.pop } : State).core := E.pop h
  unfold State.moveWrite
  dsimp only
  split
  · exact E.engineGroupEnd hpopped _
  · split
    · exact E.engineSelectEnd (E.loosen hpopped) _
    · exact E.engineSelectEnd (E.moveOver (E.blockMoved
        (s := { s.writeWord (s.moveTargetWord m p e) (s.terms (s.moveTargetWord m p e)) e.data with txe := s.txe.pop })
        (movesBlock_pop (movesBlock_of_movePos hp)) hpopped p.region) m) _

/-! ### Retire copies (R74, R155, R156) -/

theorem dropRetire_eq (x : Txe) :
    x.dropRetire = { x.unretired with
      fifo := if x.active = some .retire then [] else x.fifo
      fifoMode := if x.active = some .retire then .empty else x.fifoMode } := by
  unfold Txe.dropRetire Txe.unretired
  by_cases ha : x.active = some .retire <;> simp [ha]

theorem dropRetire_fits {x : Txe} (h : lineFits x.fifo x.fifoMode) :
    lineFits (if x.active = some .retire then [] else x.fifo) (if x.active = some .retire then .empty else x.fifoMode) := by
  split
  · exact flushed_fits h
  · exact h

theorem Engine.dropRetire (E : Engine P Q W) (h : P s.core) : P ({ s with txe := s.txe.dropRetire } : State).core := by
  rw [dropRetire_eq]
  exact E.line (c := { s.core with txe := s.txe.unretired }) (dropRetire_fits (x := s.txe)) (E.unretired (c := s.core) h)

theorem Engine.retireFails (E : Engine P Q W) (hw : W s.mli.control) (h : P s.core) (o : RetireOp) (w : Nat)
    (rep : CheckReport) : Q (s.retireFails o w rep).core := by
  have hdropped : Q ({ s with txe := { s.txe.dropRetire with fifo := [], fifoMode := .empty } } : State).core :=
    E.loosen (E.flush (E.dropRetire h))
  unfold State.retireFails
  dsimp only
  refine E.loose.releaseRetire (E.loose.dequeue (E.loose.takeRetireFault ?_ _) _) _
  split
  · exact E.loose.addDirtyIf (s := s.retireDropped) hw hdropped _ _
  · exact E.shadowBreak hdropped _

theorem Engine.retireRead (E : Engine P Q W) (hw : W s.mli.control) {o : RetireOp} (ho : s.txe.retire = some o)
    (hmode : s.txe.fifoMode ≠ .draining) (h : P s.core) : P (s.retireRead o).core := by
  have hrepaired := E.sound.repair h (o.word o.offset) (s.terms (o.word o.offset))
    (s.check true (o.word o.offset) (s.terms (o.word o.offset)))
  unfold State.retireRead
  dsimp only
  split
  · refine E.engineGroupEnd (E.retireOffset (o := o) ?_ (E.push ?_ hrepaired _)) _
    · show (Txe.push _ _).retire = some o
      rw [repair_txe]
      exact ho
    · rwa [repair_txe]
  · exact E.engineSelectEnd (E.retireFails (by rwa [repair_mli]) hrepaired o _ _) _

theorem Engine.retireCompletes (E : Engine P Q W) {o : RetireOp} (ho : s.txe.retire = some o) (h : P s.core) :
    P (s.retireCompletes o).core := by
  have hremapped : P ({ s with
      txe := s.txe.dropRetire, sru := { s.sru with remap := remapInstall s.sru.remap o.block o.spare } } : State).core := by
    rw [dropRetire_eq]
    exact E.line (c := { s.core with txe := s.txe.unretired, remap := remapInstall s.sru.remap o.block o.spare })
      (dropRetire_fits (x := s.txe)) (E.remapped (c := s.core) ho h)
  have hforgotten : P ({ s with
      txe := s.txe.dropRetire
      sru := { s.sru with
        remap := remapInstall s.sru.remap o.block o.spare
        history := s.sru.history.filter fun e => decide (e.word / Config.blockWords ≠ o.block) } } : State).core :=
    E.sound.sheet (forgotten_fits _) hremapped
  unfold State.retireCompletes
  refine E.sound.releaseRetire ?_ _
  exact E.sound.dequeue hforgotten o.block

theorem Engine.retireWrite (E : Engine P Q W) {o : RetireOp} (ho : s.txe.retire = some o) (h : P s.core) (e : FifoEntry) :
    P (s.retireWrite o e).core := by
  have hpopped : P ({ s.putPair (s.spareWord o.spare e.offset) e.data
      (encode e.data (signature (o.word e.offset) (s.terms (o.word e.offset)) e.epoch)) with txe := s.txe.pop } : State).core :=
    E.pop h
  unfold State.retireWrite
  dsimp only
  split
  · exact E.engineGroupEnd hpopped _
  · split
    · exact E.engineSelectEnd (E.loosen hpopped) _
    · exact E.engineSelectEnd (E.loosen (E.retireCompletes (s := { s.putPair (s.spareWord o.spare e.offset) e.data
        (encode e.data (signature (o.word e.offset) (s.terms (o.word e.offset)) e.epoch)) with txe := s.txe.pop })
        ho hpopped)) _

end

end Sys2Proof.Machine
end

section
/-! PROOFS. Every group at the port keeps what its changes keep (R46 to R52, R59, R69 to R79, R136, R144). -/
namespace Sys2Proof.Machine

/-- A next state the answer gives meets the predicate where `s` does. -/
def keepsCore (P : Core → Prop) (s : State) (x : Answer) : Prop := P s.core → ∀ t, x = .next t → P t.core

section
variable {P Q : Core → Prop} {W : Control → Prop} {s : State}

theorem keepsCore_next {t : State} (h : P s.core → P t.core) : keepsCore P s (.next t) := fun hs u hu => by
  obtain rfl := Host.Outcome.next.inj hu
  exact h hs

theorem keepsCore_self (P : Core → Prop) (s : State) : keepsCore P s (.next s) := keepsCore_next id

theorem onPort_keepsCore {ready : Bool} {addrs : List Nat} {f : State → State} (hf : P s.core → P (f s).core) :
    keepsCore P s (onPort s ready addrs f) := fun hs t ht => by
  rcases onPort_next ht with rfl | ⟨-, -, rfl⟩
  · exact hs
  · exact hf hs

/-! ### The engine's other groups (R76 to R79, R144, R177) -/

theorem Engine.clearStep (E : Engine P Q W) {o : ClearOp} (ho : s.txe.clear = some o) (h : P s.core) (w : Nat) :
    P (s.clearStep o w).core := by
  have hnext {o' : ClearOp} (hn : o.next = some o') : o'.atStart = o.atStart := by
    unfold ClearOp.next at hn
    split at hn
    · cases hn
    · split at hn
      · cases hn; rfl
      · split at hn
        · cases hn; rfl
        · split at hn
          · cases hn
          · cases hn; rfl
  unfold State.clearStep
  dsimp only
  split
  · next o' hn =>
    have hmoved : P ({ s.writeWord w (s.terms w) 0 with txe := { s.txe with clear := some o' } } : State).core :=
      E.clearSlot (c := s.core) (x := some o') ho (fun x hx => by cases hx; exact hnext hn) h
    split
    · exact E.engineSelectEnd (E.loosen hmoved) _
    · exact E.engineGroupEnd hmoved _
  · refine E.engineSelectEnd (E.loosen ?_) _
    split
    · next hat => exact E.startDone (c := s.core) ho hat h
    · exact E.clearSlot (c := s.core) (x := none) ho nofun h

theorem Engine.audit (E : Engine P Q W) (hw : W s.mli.control) (h : P s.core) (c : Cursor) (d : Word) : Q (s.audit c d).core := by
  have hrepaired := E.loosen (E.sound.repair h (s.cursorShadow c) (s.terms (s.cursorShadow c))
    (s.check true (s.cursorShadow c) (s.terms (s.cursorShadow c))))
  unfold State.audit
  dsimp only
  split
  · split
    · exact hrepaired
    · exact E.loose.takeFault (E.loose.addDirty (by rwa [repair_mli]) hrepaired _) _
  · exact E.loose.takeFault (E.shadowBreak hrepaired _) _

theorem Engine.scrubCheck (E : Engine P Q W) (hw : W s.mli.control) (h : P s.core) (c : Cursor) : Q (s.scrubCheck c).core := by
  have hrepaired : P (State.repair { s with sru := { s.sru with cursor := scrubNext s.rgd.table c } } c.word
      (s.terms c.word) (s.check true c.word (s.terms c.word))).core :=
    E.sound.repair (s := { s with sru := { s.sru with cursor := scrubNext s.rgd.table c } }) h _ _ _
  have hw' : W (State.repair { s with sru := { s.sru with cursor := scrubNext s.rgd.table c } } c.word
      (s.terms c.word) (s.check true c.word (s.terms c.word))).mli.control := by rwa [repair_mli]
  unfold State.scrubCheck
  dsimp only
  split
  · split
    · exact E.audit hw' hrepaired c _
    · exact E.loosen hrepaired
  · exact E.loose.takeFault (E.loose.addDirtyIf hw' (E.loosen hrepaired) _ _) _

theorem scrubCounted_eq (x : Txe) : ∃ o, (x.scrub = none → o = none) ∧ x.scrubCounted = { x with scrub := o } := by
  unfold Txe.scrubCounted
  split
  · next o ho =>
    split
    · exact ⟨_, fun hn => by simp [hn] at ho, rfl⟩
    · exact ⟨none, fun _ => rfl, rfl⟩
  · exact ⟨x.scrub, id, rfl⟩

theorem Engine.scrubStep (E : Engine P Q W) (hw : W s.mli.control) (h : P s.core) (c : Cursor) : P (s.scrubStep c).core := by
  obtain ⟨o, ho, hcounted⟩ := scrubCounted_eq (s.scrubCheck c).txe
  unfold State.scrubStep
  dsimp only
  rw [hcounted]
  exact E.engineSelectEnd (E.scrubSlot (c := (s.scrubCheck c).core) (o := o) ho (E.scrubCheck hw h c)) _

theorem Engine.diagnose (E : Engine P Q W) (h : P s.core) (w : Nat) : P (s.diagnose w).core := by
  unfold State.diagnose
  dsimp only
  refine E.engineSelectEnd (E.loosen ?_) _
  exact E.readSlot (c := s.core) (o := none) (fun _ => rfl) h

/-! ### The processor side's groups (R46 to R52, R136) -/

section
variable {a : Access}

/-- A bad word is reported, its access ended and the port released. -/
theorem Engine.badEnd (E : Engine P Q W) (hw : W s.mli.control) (hm : s.core.phase ≠ some .heldMarker) (h : P s.core)
    (a : Access) (src : Source) (rep : CheckReport) : P ((s.reportBadWord a src rep).endAccess a .berr).releasePort.core := by
  refine E.releasePort (E.sound.endAccess ?_ (E.sound.takeFault (E.sound.addDirtyIf hw h _ _) _) a .berr)
  show (s.reportBadWord a src rep).hbi.access.map (·.phase) ≠ _
  rw [reportBadWord_hbi]
  exact hm

theorem Engine.writeDone (E : Engine P Q W) (hw : W s.mli.control) (hm : s.core.phase ≠ some .heldMarker) (h : P s.core)
    (a : Access) : P (s.writeDone a).core := by
  refine E.releasePort (E.sound.endAccess ?_ (E.sound.addDirtyIf hw h _ _) a .ackWrite)
  show (State.addDirtyIf _ _ _).hbi.access.map (·.phase) ≠ _
  rw [addDirtyIf_hbi]
  exact hm

theorem Engine.works_of_access (E : Engine P Q W) (ha : s.hbi.access = some a) (h : P s.core) : W s.mli.control := by
  refine E.works (c := s.core) (.inl ?_) h
  show s.hbi.access.map (·.phase) ≠ none
  rw [ha]
  nofun

theorem phase_of_hbi {t : State} (he : t.hbi = s.hbi) : t.core.phase = s.core.phase := by
  unfold State.core
  rw [he]

theorem Engine.readGroup (E : Engine P Q W) (ha : s.hbi.access = some a) (hp : a.phase = .atPort) (h : P s.core) :
    P (s.readGroup a).core := by
  have hm : s.core.phase ≠ some .heldMarker := phase_ne_of_access ha (by rw [hp]; decide)
  have hrepaired := E.sound.repair h a.word a.terms (s.check true a.word a.terms)
  have hm' : (s.repair a.word a.terms (s.check true a.word a.terms)).core.phase ≠ some .heldMarker := by
    rwa [phase_of_hbi (repair_hbi _ _ _ _)]
  unfold State.readGroup
  dsimp only
  have hw : W (s.repair a.word a.terms (s.check true a.word a.terms)).mli.control := by
    rw [repair_mli]
    exact E.works_of_access ha h
  generalize s.repair a.word a.terms (s.check true a.word a.terms) = u at hrepaired hm' hw ⊢
  split
  · exact E.releasePort (E.sound.endAccess (s := u.loadLatch _) hm' hrepaired a _)
  · exact E.badEnd (s := u.loadLatch _) hw hm' hrepaired a _ _

theorem Engine.agreedWrite (E : Engine P Q W) (ha : s.hbi.access = some a) (hp : a.phase = .atPort) (h : P s.core) (d : Word) :
    P (s.agreedWrite a d).core := by
  have hm : s.core.phase ≠ some .heldMarker := phase_ne_of_access ha (by rw [hp]; decide)
  have hw := E.works_of_access ha h
  have hwritten := E.sound.repairByWrite (s := (s.loadLatch (s.check true a.word a.terms)).writeWord a.word a.terms d) h
    a.word (s.check true a.word a.terms)
  unfold State.agreedWrite
  dsimp only
  split
  · refine E.writeDone ?_ ?_ (E.sound.takeFault (E.sound.addDirtyIf ?_ ?_ _ _) _) a
    · simpa using hw
    · rwa [phase_of_hbi (s := s) (by simp)]
    · simpa using hw
    · exact hwritten
  · refine E.writeDone ?_ ?_ ?_ a
    · simpa using hw
    · rwa [phase_of_hbi (s := s) (by simp)]
    · exact hwritten

theorem Engine.byteWrite (E : Engine P Q W) (ha : s.hbi.access = some a) (hp : a.phase = .atPort) (h : P s.core) (l : Lane)
    (b : BitVec 8) : P (s.byteWrite a l b).core := by
  have hm : s.core.phase ≠ some .heldMarker := phase_ne_of_access ha (by rw [hp]; decide)
  have hw := E.works_of_access ha h
  unfold State.byteWrite
  dsimp only
  split
  next old hold =>
    have hwritten := E.sound.repairByWrite
      (s := (s.loadLatch (s.check true a.word a.terms)).writeWord a.word a.terms (mergeByte l b old)) h a.word
      (s.check true a.word a.terms)
    refine E.writeDone ?_ ?_ (core_of_eq ?_ hwritten) a
    · simpa using hw
    · rwa [phase_of_hbi (s := s) (by simp)]
    · unfold State.addDigestIf
      split <;> rfl
  next => exact E.badEnd (s := s.loadLatch (s.check true a.word a.terms)) hw hm h a _ _

theorem Engine.lockedRead (E : Engine P Q W) (ha : s.hbi.access = some a) (hp : a.phase = .atPort) (h : P s.core) :
    P (s.lockedRead a).core := by
  have hm : s.core.phase ≠ some .heldMarker := phase_ne_of_access ha (by rw [hp]; decide)
  have hrepaired := E.sound.repair h a.word a.terms (s.check true a.word a.terms)
  have henter : (s.repair a.word a.terms (s.check true a.word a.terms)).core.mayEnter :=
    mayEnter_of_access (by rw [repair_hbi]; exact ha) (by rw [hp]; decide)
  unfold State.lockedRead
  dsimp only
  have hw : W (s.repair a.word a.terms (s.check true a.word a.terms)).mli.control := by
    rw [repair_mli]
    exact E.works_of_access ha h
  generalize s.repair a.word a.terms (s.check true a.word a.terms) = u at hrepaired henter hw ⊢
  split
  · split
    · exact E.releasePort (E.sound.endAccess (s := u.loadLatch _) henter.1 hrepaired a .berr)
    · exact E.sound.enter (p := .lockedOpen) henter (by decide) hrepaired
  · exact E.badEnd (s := u.loadLatch _) hw henter.1 hrepaired a _ _

theorem Engine.lockedWrite (E : Engine P Q W) (ha : s.hbi.access = some a) (hp : a.phase = .atPort) (h : P s.core)
    (x : WriteHalf) : P (s.lockedWrite a x).core := by
  have hm : s.core.phase ≠ some .heldMarker := phase_ne_of_access ha (by rw [hp]; decide)
  have hw := E.works_of_access ha h
  unfold State.lockedWrite
  dsimp only
  refine E.writeDone ?_ ?_ (core_of_eq (s := s) ?_ h) a
  · simpa using hw
  · rwa [phase_of_hbi (s := s) (by simp)]
  · unfold State.addDigestIf
    split <;> rfl

theorem Engine.writeVerdictWord (E : Engine P Q W) (ha : s.hbi.access = some a) (hp : a.phase = .heldMarker)
    (hdue : s.cau.verdictDue = true) (h : P s.core) : P (s.writeVerdictWord a).core := by
  have hphase : s.core.phase = some .heldMarker := (congrArg (Option.map _) ha).trans (congrArg some hp)
  exact E.releasePort (E.verdictWritten hphase hdue h)

/-! ### Which access a group is made of -/

theorem wordWriteGranted_port {agreed : Bool} {d : Word} (h : s.wordWriteGranted agreed = some (a, d)) :
    s.hbi.access = some a ∧ a.phase = .atPort := by
  obtain ⟨b, hb, hx⟩ := Option.bind_eq_some_iff.mp h
  obtain ⟨x, -, hx⟩ := Option.map_eq_some_iff.mp hx
  obtain rfl : b = a := congrArg Prod.fst hx
  exact granted_access hb

theorem byteWriteGranted_port {x : Lane × BitVec 8} (h : s.byteWriteGranted = some (a, x)) :
    s.hbi.access = some a ∧ a.phase = .atPort := by
  obtain ⟨b, hb, hx⟩ := Option.bind_eq_some_iff.mp h
  split at hx
  · obtain rfl : b = a := congrArg Prod.fst (Option.some.inj hx)
    exact granted_access hb
  · cases hx

theorem writeHalfGranted_port {x : WriteHalf} (h : s.writeHalfGranted = some (a, x)) :
    s.hbi.access = some a ∧ a.phase = .atPort := by
  obtain ⟨b, hb, hx⟩ := Option.bind_eq_some_iff.mp h
  split at hx
  · obtain rfl : b = a := congrArg Prod.fst (Option.some.inj hx)
    exact granted_access hb
  · cases hx

theorem verdictGranted_marker (h : s.verdictGranted = some a) :
    s.hbi.access = some a ∧ a.phase = .heldMarker ∧ s.cau.verdictDue = true := by
  unfold State.verdictGranted at h
  split at h
  · next b hb =>
    split at h
    · next hc =>
      obtain rfl := Option.some.inj h
      exact ⟨hb, hc.2.2, hc.1⟩
    · cases h
  · cases h

theorem accessGroup_keepsCore {g : Grant} {p : AccessOp → Bool} {f : Access → State → State}
    (hf : ∀ a, s.hbi.access = some a → a.phase = .atPort → P s.core → P (f a s).core) :
    keepsCore P s (s.accessGroup g p f) := by
  unfold State.accessGroup
  split
  · next a ha => exact onPort_keepsCore (hf a (granted_access ha).1 (granted_access ha).2)
  · exact keepsCore_self P s

end

/-! ### Every group -/

theorem Engine.works_of_active (E : Engine P Q W) {k : EngineKind} (ha : s.txe.active = some k) (h : P s.core) :
    W s.mli.control := E.works (c := s.core) (.inr fun hn => nomatch ha.symm.trans hn) h

theorem Engine.works_of_movePos (E : Engine P Q W) {m : Move} {p : PassPos} (hp : s.movePos m = some p) (h : P s.core) :
    W s.mli.control := by
  rcases movePos_iff.mp hp with ⟨ha, -⟩ | ⟨ha, -⟩
  · exact E.works_of_active ha h
  · exact E.works_of_active ha h

/-- The engine at the port has its operation ACTIVE. -/
theorem active_of_engineAt {k : EngineKind} (h : s.engineAt k = true) : s.txe.active = some k :=
  eq_of_beq (Bool.and_eq_true_iff.mp h).2

theorem Engine.moveReadStep (E : Engine P Q W) (m : Move) (s : State) : keepsCore P s (moveReadStep m s) := by
  unfold Machine.moveReadStep State.moveReadGranted
  split
  · next p hp =>
    split at hp
    · next hg => exact onPort_keepsCore fun h => E.moveRead (E.works_of_movePos hp h) hg.2 h m p
    · cases hp
  · exact keepsCore_self P s

theorem Engine.moveWriteStep (E : Engine P Q W) (m : Move) (s : State) : keepsCore P s (moveWriteStep m s) := by
  unfold Machine.moveWriteStep State.moveWriteGranted
  split
  · next p e hp =>
    split at hp
    · obtain ⟨b, hb, hx⟩ := Option.bind_eq_some_iff.mp hp
      obtain ⟨x, -, hx⟩ := Option.map_eq_some_iff.mp hx
      obtain rfl : b = p := congrArg Prod.fst hx
      exact onPort_keepsCore fun h => E.moveWrite hb h e
    · cases hp
  · exact keepsCore_self P s

theorem Engine.retireGroups (E : Engine P Q W) (s : State) :
    keepsCore P s (execRetireWordRead s) ∧ keepsCore P s (execRetireWordWrite s) := by
  constructor
  · unfold execRetireWordRead State.retireReadGranted
    split
    · next o ho =>
      split at ho
      · next hg => exact onPort_keepsCore fun h => E.retireRead (E.works_of_active (active_of_engineAt hg.1) h) ho hg.2 h
      · cases ho
    · exact keepsCore_self P s
  · unfold execRetireWordWrite State.retireWriteGranted
    split
    · next o e ho =>
      split at ho
      · obtain ⟨b, hb, hx⟩ := Option.bind_eq_some_iff.mp ho
        obtain ⟨x, -, hx⟩ := Option.map_eq_some_iff.mp hx
        obtain rfl : b = o := congrArg Prod.fst hx
        exact onPort_keepsCore fun h => E.retireWrite hb h e
      · cases ho
    · exact keepsCore_self P s

theorem Engine.clearWrite (E : Engine P Q W) (s : State) : keepsCore P s (execClearWrite s) := by
  unfold execClearWrite State.clearGranted
  split
  · next o w ho =>
    split at ho
    · obtain ⟨b, hb, hx⟩ := Option.bind_eq_some_iff.mp ho
      obtain ⟨x, -, hx⟩ := Option.map_eq_some_iff.mp hx
      obtain rfl : b = o := congrArg Prod.fst hx
      exact onPort_keepsCore fun h => E.clearStep hb h w
    · cases ho
  · exact keepsCore_self P s

/-- A burst with no word to check is emptied (R141). -/
theorem Engine.scrubWordCheck (E : Engine P Q W) (s : State) : keepsCore P s (execScrubWordCheck s) := by
  unfold execScrubWordCheck
  split
  · next hat =>
    split
    · next c hc => exact onPort_keepsCore fun h => E.scrubStep (E.works_of_active (active_of_engineAt hat) h) h c
    · refine keepsCore_next fun h => E.settle ?_
      have hactive : s.txe.active = some .scrubBurst := active_of_engineAt hat
      have hun : s.txe.unscrubbed = { s.txe with scrub := none, active := none } := by
        rw [Txe.unscrubbed, if_pos hactive]
      rw [← hun]
      exact E.sound.unscrub h
  · exact keepsCore_self P s

theorem Engine.diagnosticRead (E : Engine P Q W) (s : State) : keepsCore P s (execDiagnosticRead s) := by
  unfold execDiagnosticRead
  split
  · next w hw => exact onPort_keepsCore fun h => E.diagnose h w
  · exact keepsCore_self P s

theorem Engine.exec_group (E : Engine P Q W) {c : Instr} (s : State) (hc : isGroup c = true) :
    keepsCore P s (exec c s) := by
  cases c
  case procReadGroup => exact accessGroup_keepsCore fun a ha hp h => E.readGroup ha hp h
  case procPlainWriteGroup =>
    simp only [exec, execProcPlainWriteGroup]
    split
    · next a d ha =>
      obtain ⟨hacc, hp⟩ := wordWriteGranted_port ha
      have hm : s.core.phase ≠ some .heldMarker := phase_ne_of_access hacc (by rw [hp]; decide)
      exact onPort_keepsCore fun h =>
        E.writeDone (s := s.writeWord a.word a.terms d) (E.works_of_access hacc h) hm h a
    · exact keepsCore_self P s
  case procAgreedWriteGroup =>
    simp only [exec, execProcAgreedWriteGroup]
    split
    · next a d ha =>
      obtain ⟨hacc, hp⟩ := wordWriteGranted_port ha
      exact onPort_keepsCore fun h => E.agreedWrite hacc hp h d
    · exact keepsCore_self P s
  case procByteWriteGroup =>
    simp only [exec, execProcByteWriteGroup]
    split
    · next a l b ha =>
      obtain ⟨hacc, hp⟩ := byteWriteGranted_port ha
      exact onPort_keepsCore fun h => E.byteWrite hacc hp h l b
    · exact keepsCore_self P s
  case lockedReadHalfGroup => exact accessGroup_keepsCore fun a ha hp h => E.lockedRead ha hp h
  case lockedWriteHalfGroup =>
    simp only [exec, execLockedWriteHalfGroup]
    split
    · next a x ha =>
      obtain ⟨hacc, hp⟩ := writeHalfGranted_port ha
      exact onPort_keepsCore fun h => E.lockedWrite hacc hp h x
    · exact keepsCore_self P s
  case verdictWordWrite =>
    simp only [exec, execVerdictWordWrite]
    split
    · next a ha =>
      obtain ⟨hacc, hp, hdue⟩ := verdictGranted_marker ha
      exact onPort_keepsCore fun h => E.writeVerdictWord hacc hp hdue h
    · exact keepsCore_self P s
  case copyWordRead => exact E.moveReadStep .copy s
  case copyWordWrite => exact E.moveWriteStep .copy s
  case restoreWordRead => exact E.moveReadStep .restore s
  case restoreWordWrite => exact E.moveWriteStep .restore s
  case retireWordRead => exact (E.retireGroups s).1
  case retireWordWrite => exact (E.retireGroups s).2
  case clearWrite => exact E.clearWrite s
  case scrubWordCheck => exact E.scrubWordCheck s
  case diagnosticRead => exact E.diagnosticRead s
  all_goals exact Bool.noConfusion hc

end

end Sys2Proof.Machine
end

section
/-! PROOFS. What the events and the maintenance commands change, and that every command keeps what its changes keep. -/
namespace Sys2Proof.Machine

/-- The descriptor, or its absence, that the next field of REGION_FIELD may install (R29, R30). -/
def Core.installs (c : Core) (new : Option Descriptor) : Prop :=
  new = none ∨ ∃ v g, c.field = 7 ∧ loadField c.staging 7 v = some g ∧ new = some g.toDescriptor

/-- The part is in RUN or HOLD. -/
def Core.inService (c : Core) : Prop := c.control = .run ∨ c.control = .hold

/-- P is kept by the changes of every command: those of the engine's groups, and those of the events, the verdicts and the
maintenance commands. V m is what P leaves of a state while the entries start the passes of move m. -/
structure Steady (P Q : Core → Prop) (V : Move → Core → Prop) (W : Control → Prop) : Prop where
  engine : Engine P Q W
  -- requests (R91, R109, R142, R152, R173)
  priority : ∀ {c : Core} {m : Move} {r : Region} {b : Nat}, c.phase ≠ none → b ∈ c.ckc.setOf m →
    (c.txe.active = some m.passKind → ∀ o p, c.txe.passSlot m = some o → o.pos = some p → o.stale = false → p.block ≠ b) →
    P c → P { c with txe := { c.txe with priority := some ⟨m, r, b, 0, false⟩ } }
  scrubRequested : ∀ {c : Core} {o : ScrubOp}, c.scrubTimer ≠ none → P c → P { c with txe := { c.txe with scrub := some o } }
  readRequested : ∀ {c : Core} {o : ReadWordOp}, c.inService → P c → P { c with txe := { c.txe with readWord := some o } }
  retireRequested : ∀ {c : Core} {o : RetireOp}, c.inService → o.spare < c.params.spareCount →
    (∀ e ∈ c.remap, e.spare ≠ o.spare) → P c → P { c with txe := { c.txe with retire := some o } }
  -- the marker and the verdict (R86, R87, R101, R125, R134)
  fixes : ∀ {c : Core} {k : Mark}, c.held ≠ none → c.ckc.quiet → P c → P { c with localMark := some k }
  opens : ∀ {c : Core} (m : Move), c.held ≠ none ∧ c.ckc.quiet ∨ c.localMark ≠ none → P c →
    V m { c with held := none, localMark := none, verdictDue := true }
  startsCopy : ∀ {c : Core} (r : Region), V .copy c → V .copy { c with ckc := c.ckc.startCopy c.table r }
  startsRestore : ∀ {c : Core} {r : Region} {d : Descriptor}, c.table.get r = some d → d.attrs.checkpoint = true →
    c.ckc.ckState.get r = .valid → V .restore c →
    V .restore { c with ckc := Ckc.setState { c.ckc with
      restore := BlockSet.addAll (c.ckc.dirty.filter d.authorised) c.ckc.restore } r .restoring }
  startsStock : ∀ {c : Core} {q : List FaultRecord} {cs : Vector Nat 22},
    (stockFits c.queue c.counters → stockFits q cs) → V .restore c → V .restore { c with queue := q, counters := cs }
  closes : ∀ {c : Core} {m : Move}, V m c → P c
  passAsked : ∀ {c : Core} {m : Move}, (∃ r : Region, c.ckc.ckState.get r = m.inFlight) → c.txe.passSlot m = none → P c →
    P { c with txe := c.txe.setPass m (some ⟨none, false, false⟩) }
  -- the twin link (R184)
  rx : ∀ {c : Core} {x : Option (List RxUnit)}, (openFits c.rx → openFits x) → P c → P { c with rx := x }
  -- the maintenance commands (R27 to R30, R36 to R38, R151, R174, R176, R178, R179)
  discards : ∀ {c : Core}, P c → P { c with field := 0, staging := Staging.empty }
  loads : ∀ {c : Core} {v : Unit16} {g : Staging}, loadField c.staging c.field v = some g → c.field ≠ 7 → P c →
    P { c with staging := g, field := c.field + 1 }
  restages : ∀ {c : Core} {v : Unit16} {g : Staging}, loadField c.staging c.field v = some g → c.field = 7 → P c →
    P { c with staging := g }
  installsConfig : ∀ {c : Core} (r : Region) {new : Option Descriptor}, c.control = .config → c.installs new → P c →
    P { c with
      table := c.table.put r new, tag := layoutTagOf (c.table.put r new), field := 0, staging := Staging.empty
      ckc := c.ckc.setState r (installedState new) }
  installsHold : ∀ {c : Core} (r : Region) {new : Option Descriptor}, c.control = .hold → c.ckc.quiet → c.installs new →
    validateTable (c.table.put r new) c.params = none → P c →
    P { c with
      table := c.table.put r new, tag := layoutTagOf (c.table.put r new), field := 0, staging := Staging.empty
      ckc := Ckc.setState { c.ckc with dirty := c.ckc.dirty.filter (checkpointed (c.table.put r new)) } r
        (installedState new) }
  clearRequested : ∀ {c : Core} {o : ClearOp}, c.control = .hold → o.atStart = false → P c →
    P { c with txe := { c.txe with clear := some o } }
  setsParam : ∀ {c : Core} {sel v : Nat} {p : Params}, c.control = .config → c.params.set sel v = some p → P c →
    P { c with params := p, remap := remapAfter c.params p c.remap }
  loadsRemap : ∀ {c : Core} {es : List RemapOperand} {l : List RemapEntry}, c.control = .config →
    remapOf c.params es = some l → P c → P { c with remap := l }
  starts : ∀ {c : Core} {x : Option Nat} {o : ClearOp}, c.control = .config → validateTable c.table c.params = none → P c →
    P { c with
      tag := layoutTagOf c.table, scrubTimer := x, txe := { c.txe with clear := some o }, control := .init }
  holds : ∀ {c : Core}, c.control = .run → P c → P { c with control := .hold }
  releases : ∀ {c : Core}, c.control = .hold → P c → P { c with control := .run }
  -- REINIT and reset (R180, R181)
  reinits : ∀ {s t : State}, s.carriedTo t → t.outside = s.outside → t.mli = s.mli → P s.core → P t.reinitialise.core
  resets : P State.reset.core

section
variable {P Q : Core → Prop} {V : Move → Core → Prop} {W : Control → Prop} {s : State}

/-! ### Verdicts (R86, R101, R134) -/

theorem noneIn_iff {k : Ckc} {x : CkState} :
    (allRegions.any fun r => k.ckState.get r == x) = false ↔ ∀ r : Region, k.ckState.get r ≠ x := by
  rw [List.any_eq_false]
  exact ⟨fun h r => by simpa using h r (mem_allRegions r), fun h r _ => by simpa using h r⟩

theorem passInFlight_eq_false : s.passInFlight = false ↔ s.ckc.quiet := by
  rw [State.passInFlight, Bool.or_eq_false_iff, State.copyPassInFlight, State.restorePassInFlight, noneIn_iff, noneIn_iff]
  exact ⟨fun ⟨hc, hr⟩ r m => by cases m; exact hc r; exact hr r, fun h => ⟨fun r => h r .copy, fun r => h r .restore⟩⟩

theorem Steady.foldl_startCopy (K : Steady P Q V W) (l : List Region) {c : Core} (h : V .copy c) :
    V .copy { c with ckc := l.foldl (fun k r => k.startCopy c.table r) c.ckc } := by
  induction l generalizing c with
  | nil => exact h
  | cons r l ih => exact ih (K.startsCopy r h)

theorem Steady.startRestore (K : Steady P Q V W) (h : V .restore s.core) (r : Region) :
    V .restore (s.startRestore r).core := by
  unfold State.startRestore
  split
  · next d hd =>
    split
    · next hck =>
      split
      · next hv =>
        split
        · exact h
        · exact K.startsRestore (c := s.core) hd hck hv h
      · have he : (s.takeFault (restoreRefused s.mli.params.marker r)).core =
            { s.core with
              queue := (s.takeFault (restoreRefused s.mli.params.marker r)).fau.queue
              counters := (s.takeFault (restoreRefused s.mli.params.marker r)).fau.counters } := by simp [State.core]
        rw [he]
        exact K.startsStock (c := s.core) (take_fits _) h
      · exact h
    · exact h
  · exact h

theorem Steady.foldl_startRestore (K : Steady P Q V W) (l : List Region) (h : V .restore s.core) :
    V .restore (l.foldl State.startRestore s).core := by
  induction l generalizing s with
  | nil => exact h
  | cons r l ih => exact ih (K.startRestore h r)

theorem Steady.entriesStarted (K : Steady P Q V W) {m : Move} (h : V m s.core) : V m (s.entriesStarted m).core := by
  cases m with
  | copy => exact K.foldl_startCopy (c := s.core) allRegions h
  | restore =>
    unfold State.entriesStarted
    exact K.foldl_startRestore allRegions h

theorem Steady.requestPass (K : Steady P Q V W) (h : P s.core) (m : Move) : P (s.requestPass m).core := by
  unfold State.requestPass
  split
  · next hc =>
    obtain ⟨hany, hnone⟩ := Bool.and_eq_true_iff.mp hc
    obtain ⟨r, -, hr⟩ := List.any_eq_true.mp hany
    exact K.passAsked (c := s.core) ⟨r, eq_of_beq hr⟩ (Option.isNone_iff_eq_none.mp hnone) h
  · exact h

theorem Steady.abandonRetire (K : Steady P Q V W) (h : P s.core) (m : Move) : P (s.abandonRetire m).core := by
  unfold State.abandonRetire
  split
  · next o ho =>
    have hdropped := K.engine.sound.releaseRetire (s := { s with txe := s.txe.dropRetire }) (K.engine.dropRetire h) o.block
    dsimp only
    split <;> split
    · exact hdropped
    · exact h
    · exact hdropped
    · exact h
  · exact h

theorem Steady.startPasses (K : Steady P Q V W) {m : Move} (h : V m s.core) : P (s.startPasses m).core := by
  rw [startPasses_eq]
  exact K.abandonRetire (K.requestPass (K.closes (K.entriesStarted h)) m) m

theorem Steady.verdict (K : Steady P Q V W) (hm : s.cau.held ≠ none ∧ s.passInFlight = false ∨ s.cau.localMark ≠ none)
    (h : P s.core) (v : Verdict × Option FaultKind) : P (s.verdict v).core := by
  have hquiet : s.core.held ≠ none ∧ s.core.ckc.quiet ∨ s.core.localMark ≠ none :=
    hm.imp_left fun hh => ⟨hh.1, passInFlight_eq_false.mp hh.2⟩
  have hpasses : P ((s.verdictTaken v.1).startPasses v.1.move).core :=
    K.startPasses (s := s.verdictTaken v.1) (K.opens (c := s.core) v.1.move hquiet h)
  unfold State.verdict
  dsimp only
  generalize hu : State.startPasses _ v.1.move = u
  have hstarted : P u.core := hu ▸ hpasses
  have hclosed : P (if v.1 = .committed then { u with rgd := { u.rgd with loadOpen := false } } else u).core := by
    split <;> exact hstarted
  refine K.engine.settle ?_
  split
  · exact K.engine.sound.takeFault hclosed _
  · exact hclosed

theorem Steady.timeoutVerdict (K : Steady P Q V W)
    (hm : s.cau.held ≠ none ∧ s.passInFlight = false ∨ s.cau.localMark ≠ none) (h : P s.core) (loc : Mark) :
    P (s.timeoutVerdict loc).core := K.verdict hm h _

theorem Steady.fixKind (K : Steady P Q V W) (hm : s.cau.held ≠ none ∧ s.passInFlight = false) (h : P s.core)
    (x : HeldMarker) : P (s.fixKind x).core := by
  unfold State.fixKind
  dsimp only
  split
  · exact K.verdict (.inl hm) h _
  · split
    · have hplace (m : Mark) : (s.twl.place m).rx = s.twl.rx := by
        unfold Twl.place
        split <;> rfl
      have hfixed : P (s.awaiting (s.formMark x)).core := by
        have he : (s.awaiting (s.formMark x)).core = { s.core with localMark := some (s.formMark x) } := by
          simp [State.core, State.awaiting, hplace]
        rw [he]
        exact K.fixes (c := s.core) hm.1 (passInFlight_eq_false.mp hm.2) h
      split
      · exact K.verdict (s := s.awaiting (s.formMark x)) (.inr nofun) hfixed _
      · exact hfixed
    · exact K.timeoutVerdict (.inl hm) h _

end

end Sys2Proof.Machine
end

section
/-! PROOFS. Every event of the bus, the engine, the cycle and the twin link keeps what its changes keep (R41 to R56, R125 to R142, R152,
R184). -/
namespace Sys2Proof.Machine

section
variable {P Q : Core → Prop} {V : Move → Core → Prop} {W : Control → Prop} {s : State}

/-! ### The bus (R41 to R45, R52 to R56, R91, R109) -/

theorem Steady.endLocked (K : Steady P Q V W) (hm : s.core.phase ≠ some .heldMarker) (h : P s.core) : P s.endLocked.core :=
  K.engine.releasePort (K.engine.sound.leave (c := s.core) hm h)

theorem Steady.present (K : Steady P Q V W) (h : P s.core) (c : BusCycle) : P (s.present c).core := by
  unfold State.present
  split
  · exact h
  · split
    · exact h
    · next a ha =>
      split
      · next hp =>
        have hm : s.core.mayEnter := mayEnter_of_access ha (by rw [hp]; decide)
        split
        · exact K.engine.sound.enter (c := s.core) (p := .atPort) hm (by decide) h
        · exact K.endLocked hm.1 h
      · split <;> exact h

theorem Steady.negateLock (K : Steady P Q V W) (h : P s.core) : P s.negateLock.core := by
  unfold State.negateLock
  split
  · next a ha =>
    split
    · next hp => exact K.endLocked (phase_ne_of_access ha (by rw [hp]; decide)) h
    · exact h
  · exact h

theorem Steady.accessWithdrawn (K : Steady P Q V W) (s : State) : keepsCore P s (execAccessWithdrawn s) := by
  refine keepsCore_next fun h => ?_
  split
  · next a ha =>
    split
    · next hp => exact K.endLocked (phase_ne_of_access ha (by rw [hp]; decide)) h
    · refine core_of_eq (s := s) ?_ h
      simp [State.core, ha]
  · exact h

/-- The block an access is held for lies in the set of the move that must be made of it. -/
theorem mem_of_holdFor {a : Access} {m : Move} (h : s.holdFor a = some m) : a.record.block ∈ s.ckc.setOf m := by
  unfold State.holdFor at h
  split at h
  · cases h
  · split at h
    · next hb => cases h; exact hb
    · split at h
      · next hb => cases h; exact hb.1
      · cases h

theorem passIsOn_false {m : Move} {b : Nat} (h : s.passIsOn m b = false) (ha : s.txe.active = some m.passKind) {o : PassOp}
    {p : PassPos} (ho : s.txe.passSlot m = some o) (hp : o.pos = some p) (hs : o.stale = false) : p.block ≠ b := by
  intro hb
  simp [State.passIsOn, ha, ho, hp, hs, hb] at h

theorem Steady.requestPriority (K : Steady P Q V W) {m : Move} {b : Nat} (hp : s.core.phase ≠ none) (hb : b ∈ s.ckc.setOf m)
    (h : P s.core) (r : Region) : P (s.requestPriority m r b).core := by
  unfold State.requestPriority
  split
  · exact h
  · next hno =>
    have hoff : s.passIsOn m b = false := Bool.eq_false_iff.mpr fun hon => hno (by simp [hon])
    exact K.priority (c := s.core) hp hb (fun ha o p ho hpos hst => passIsOn_false hoff ha ho hpos hst) h

theorem Steady.holdCheck (K : Steady P Q V W) (hm : s.core.mayEnter) (h : P s.core) (a : Access) : P (s.holdCheck a).core := by
  unfold State.holdCheck
  split
  · next m hf =>
    exact K.requestPriority (s := s.enterPhase a .heldBlock) nofun (mem_of_holdFor hf)
      (K.engine.sound.enterPhase hm h a (by decide)) _
  · exact K.engine.sound.retireCheck hm h a

theorem Steady.take (K : Steady P Q V W) (hm : s.core.mayEnter) (h : P s.core) (c : BusCycle) : P (s.take c).core := by
  have hunpresented : P s.unpresented.core := h
  have hm' : s.unpresented.core.mayEnter := hm
  show P (match decodeAccess s.rgd.table s.rgd.loadOpen s.mli.params.marker (cycleOp c).kind (cycleWord c) with
    | .refused k also r => _
    | .permitted r => _ : State).core
  split
  · exact core_of_eq (s := s.unpresented.takeFault _) rfl (K.engine.sound.takeFault hunpresented _)
  · next r _ =>
    split
    · exact K.engine.sound.endAccess (s := s.unpresented.takeFault _) hm'.1 (K.engine.sound.takeFault hunpresented _) _ _
    · exact K.engine.settle (K.holdCheck hm' hunpresented _)

theorem Steady.takeAccess (K : Steady P Q V W) (s : State) : keepsCore P s (execTakeAccess s) := by
  refine keepsCore_next fun h => ?_
  split
  · next c _ =>
    split
    · next hc =>
      simp only [Bool.and_eq_true, beq_iff_eq, Option.isNone_iff_eq_none] at hc
      obtain ⟨⟨-, hrun⟩, hnone⟩ := hc
      refine K.take (s := s) ⟨?_, fun _ => hrun⟩ h c
      show s.hbi.access.map (·.phase) ≠ _
      rw [hnone]
      nofun
    · exact h
  · exact h

/-! ### The engine's requests (R142, R152) -/

theorem freeSpare_eq_some {i : Nat} (h : s.freeSpare = some i) :
    i < s.mli.params.spareCount ∧ ∀ e ∈ s.sru.remap, e.spare ≠ i :=
  ⟨List.mem_range.mp (List.mem_of_find?_eq_some h), fun e he => by
    simpa using List.all_eq_true.mp (List.find?_some (p := fun i => s.sru.remap.all fun e => decide (e.spare ≠ i)) h) e he⟩

theorem Steady.takeRetire (K : Steady P Q V W) {b : Nat} (hservice : s.inService) (h : P s.core) :
    P (s.takeRetire b).core := by
  unfold State.takeRetire
  split
  · exact K.engine.sound.dequeue h b
  · split
    · next i hi =>
      obtain ⟨hlt, hfree⟩ := freeSpare_eq_some hi
      exact K.engine.settle (K.retireRequested (c := s.core) hservice hlt hfree h)
    · exact K.engine.sound.takeFault (K.engine.sound.dequeue h b) _

theorem Steady.retireTake (K : Steady P Q V W) (s : State) : keepsCore P s (execRetireTake s) := by
  refine keepsCore_next fun h => ?_
  split
  · next b _ _ =>
    split
    · next hmay =>
      refine K.takeRetire (s := s) ?_ h
      simp only [State.mayRetire, Bool.and_eq_true, Bool.or_eq_true, beq_iff_eq] at hmay
      obtain ⟨⟨⟨hservice, -⟩, -⟩, -⟩ := hmay
      exact hservice
    · exact h
  · exact h

theorem Steady.scrubTimerExpiry (K : Steady P Q V W) (s : State) : keepsCore P s (execScrubTimerExpiry s) := by
  refine keepsCore_next fun h => ?_
  split
  · next hc =>
    simp only [Bool.and_eq_true, Option.isSome_iff_ne_none] at hc
    exact K.engine.settle (K.scrubRequested (c := s.core) hc.1.1 h)
  · exact h

/-! ### The cycle (R125, R132, R138) -/

theorem Steady.fixLocalKind (K : Steady P Q V W) (s : State) : keepsCore P s (execFixLocalKind s) := by
  refine keepsCore_next fun h => ?_
  split
  · next x hx =>
    unfold State.fixable at hx
    split at hx
    · next hc => exact K.fixKind (s := s) ⟨by rw [hx]; nofun, hc.2.2⟩ h x
    · cases hx
  · exact h

theorem Steady.agreementTimerExpiry (K : Steady P Q V W) (s : State) : keepsCore P s (execAgreementTimerExpiry s) := by
  refine keepsCore_next fun h => ?_
  split
  · next m hm =>
    split
    · exact K.timeoutVerdict (s := s) (.inr (by rw [hm]; nofun)) h m
    · exact h
  · exact h

theorem Steady.cycleDeadlineExpiry (K : Steady P Q V W) (s : State) : keepsCore P s (execCycleDeadlineExpiry s) := by
  refine keepsCore_next fun h => ?_
  split
  · exact K.engine.sound.takeFault (s := { s with cau := { s.cau with deadlineTimer := none } }) h _
  · exact h

/-! ### The twin receiver (R128 to R131, R184) -/

theorem linkSeen_core (s : State) : s.linkSeen.core = s.core := by
  unfold State.linkSeen
  split <;> rfl

theorem Steady.slotMark (K : Steady P Q V W) (h : P s.core) (m : Mark) : P (s.slotMark m).core := by
  unfold State.slotMark
  split
  · exact K.engine.sound.takeFault h _
  · dsimp only
    split
    · next loc hloc =>
      exact K.verdict (s := { s with cau := { s.cau with slot := some m } })
        (.inr fun hn => nomatch (show some loc = none from hloc.symm.trans hn)) h _
    · exact h

theorem Steady.twinMark (K : Steady P Q V W) (h : P s.core) (m : Mark) : P (s.twinMark m).core := by
  unfold State.twinMark
  split
  · exact h
  · split
    · exact K.engine.sound.takeFault h _
    · split
      · exact K.slotMark h m
      · split <;> exact K.engine.sound.takeFault h _

theorem Steady.frameDone (K : Steady P Q V W) (h : P s.core) (us : List RxUnit) : P (s.frameDone us).core := by
  have hseen : P s.linkSeen.core := core_of_eq (linkSeen_core s) h
  unfold State.frameDone
  split
  · exact hseen
  · exact K.twinMark hseen _
  · exact K.engine.sound.takeFault h _

theorem openFits_none : openFits none := nofun

/-- A frame that may stay open, its kind unknown or its last unit still to come (R184). -/
theorem openFits_of_notFull {u : RxUnit} {us : List RxUnit} (hfull : frameLength u ≠ some (u :: us).length)
    (hroom : u.first = true → (u.data = 0xA501 → us.length < 2) ∧ (u.data = 0xA502 → us.length < 7)) :
    openFits (some (u :: us)) := by
  intro l hl
  obtain rfl : u :: us = l := Option.some.inj hl
  refine ⟨nofun, fun v hv hfirst => ?_⟩
  obtain rfl : u = v := Option.some.inj hv
  obtain ⟨hidle, hmark⟩ := hroom hfirst
  refine ⟨fun (hd : u.data = idleHeader) => ?_, fun (hd : u.data = markHeader) => ?_⟩
  · have := hidle hd
    have hne : (u :: us).length ≠ 2 := fun he => hfull (by rw [frameLength, if_pos hfirst, if_pos hd, he])
    simp only [List.length_cons] at hne ⊢
    omega
  · have := hmark hd
    have hne : (u :: us).length ≠ 7 := fun he => hfull (by rw [frameLength, if_pos hfirst, hd, he]; rfl)
    simp only [List.length_cons] at hne ⊢
    omega

theorem Steady.closeIfFull (K : Steady P Q V W) {u : RxUnit} {us : List RxUnit} (h : P s.core)
    (hroom : openFits s.twl.rx → u.first = true → (u.data = 0xA501 → us.length < 2) ∧ (u.data = 0xA502 → us.length < 7)) :
    P (s.closeIfFull (u :: us)).core := by
  unfold State.closeIfFull
  dsimp only
  split
  · exact K.frameDone (s := { s with twl := { s.twl with rx := none } }) (K.rx (c := s.core) (fun _ => openFits_none) h) _
  · next hfull => exact K.rx (c := s.core) (fun hfit => openFits_of_notFull hfull (hroom hfit)) h

theorem Steady.rxUnit (K : Steady P Q V W) (h : P s.core) (u : RxUnit) : P (s.rxUnit u).core := by
  have hsingle : u.first = true → (u.data = 0xA501 → ([] : List RxUnit).length < 2) ∧
      (u.data = 0xA502 → ([] : List RxUnit).length < 7) := fun _ => ⟨fun _ => by simp, fun _ => by simp⟩
  unfold State.rxUnit
  split
  · exact K.closeIfFull h fun _ => hsingle
  · next us hrx =>
    split
    · exact K.closeIfFull (K.frameDone (s := { s with twl := { s.twl with rx := none } })
        (K.rx (c := s.core) (fun _ => openFits_none) h) us) fun _ => hsingle
    · cases us with
      | nil => exact K.closeIfFull h fun _ => hsingle
      | cons x xs =>
        refine K.closeIfFull (u := x) (us := xs ++ [u]) h fun hfit hfirst => ?_
        have hopen := (hfit (x :: xs) hrx).2 x rfl hfirst
        simpa using hopen

theorem Steady.foldl_rxUnit (K : Steady P Q V W) (us : List RxUnit) (h : P s.core) : P (us.foldl State.rxUnit s).core := by
  induction us generalizing s with
  | nil => exact h
  | cons u us ih => exact ih (K.rxUnit h u)

theorem Steady.twinFrameReceived (K : Steady P Q V W) (us : List RxUnit) (s : State) :
    keepsCore P s (execTwinFrameReceived us s) := by
  refine keepsCore_next fun h => ?_
  split
  · exact h
  · exact K.foldl_rxUnit us h

theorem Steady.twinLineIdleTimeout (K : Steady P Q V W) (s : State) : keepsCore P s (execTwinLineIdleTimeout s) := by
  refine keepsCore_next fun h => ?_
  split
  · exact K.frameDone (s := { s with twl := { s.twl with rx := none } }) (K.rx (c := s.core) (fun _ => openFits_none) h) _
  · exact h

end

end Sys2Proof.Machine
end

section
/-! PROOFS. Every maintenance command, and with them every step, keeps what its changes keep (R27 to R30, R150, R151, R161, R163, R173 to
R181). -/
namespace Sys2Proof.Machine

section
variable {P Q : Core → Prop} {V : Move → Core → Prop} {W : Control → Prop} {s : State}

theorem command_keepsCore {code : Nat} {ops : List Unit16} {f : State → State} (hf : ∀ u : State, P u.core → P (f u).core) :
    keepsCore P s (.next (s.command code ops f)) := by
  refine keepsCore_next fun h => ?_
  rcases command_cases s code ops f with he | he <;> rw [he]
  · exact h
  · exact hf { s with mli := { s.mli with code := some (unit code), operands := ops } } h

/-! ### The region table (R27 to R30, R36 to R39) -/

theorem quiet_of_installBusy (h : s.installBusy = false) : s.ckc.quiet := by
  simp only [State.installBusy, Bool.or_eq_false_iff] at h
  obtain ⟨⟨⟨hpass, -⟩, -⟩, -⟩ := h
  exact passInFlight_eq_false.mp hpass

theorem Steady.installHold (K : Steady P Q V W) {new : Option Descriptor} (hc : s.mli.control = .hold)
    (hbusy : s.installBusy = false) (hnew : s.core.installs new)
    (hvalid : validateTable (s.rgd.table.put s.rgd.pointer new) s.mli.params = none) (h : P s.core) :
    P (s.installHold new).core := by
  have hinstalled := K.installsHold (c := s.core) s.rgd.pointer hc (quiet_of_installBusy hbusy) hnew hvalid h
  unfold State.installHold
  dsimp only
  split
  · exact hinstalled
  · exact K.engine.settle (K.clearRequested (o := ⟨false, _, 0, 0, false⟩) hc rfl hinstalled)

/-- An installation from the state in which the eighth field may just have been staged. -/
theorem Steady.install (K : Steady P Q V W) {new : Option Descriptor} {g : Staging} (hc : s.configOrHold = true)
    (hbusy : s.mli.control = .hold → s.installBusy = false) (hnew : s.core.installs new)
    (hstaged : P { s.core with staging := g }) (h : P s.core) :
    P (State.install { s with rgd := { s.rgd with staging := g } } new).core := by
  unfold State.install
  split
  · next hhold =>
    split
    · exact hstaged
    · next hvalid => exact K.installHold (s := s) hhold (hbusy hhold) hnew hvalid h
  · next hhold =>
    have hconfig : s.mli.control = .config := by
      simp only [State.configOrHold, Bool.or_eq_true, beq_iff_eq] at hc
      exact hc.resolve_right hhold
    exact K.installsConfig (c := s.core) s.rgd.pointer hconfig hnew h

theorem Steady.takeField (K : Steady P Q V W) (hc : s.configOrHold = true)
    (hbusy : s.mli.control = .hold → s.installBusy = false) (h : P s.core) (v : Unit16) : P (s.takeField v).core := by
  unfold State.takeField
  split
  · exact K.install (g := s.rgd.staging) hc hbusy (.inl rfl) h h
  · split
    · exact h
    · next g hg =>
      split
      · next h7 =>
        have hnew : s.core.installs (some g.toDescriptor) := .inr ⟨v, g, h7, h7 ▸ hg, rfl⟩
        exact K.install hc hbusy hnew (K.restages (c := s.core) hg h7 h) h
      · next h7 => exact K.loads (c := s.core) hg h7 h

theorem Steady.selectRegion (K : Steady P Q V W) (e : Unit16) (s : State) : keepsCore P s (execSelectRegion e s) := by
  refine command_keepsCore fun u h => ?_
  split
  · exact h
  · split
    · exact h
    · exact K.discards (c := u.core) h

theorem Steady.regionField (K : Steady P Q V W) (v : Unit16) (s : State) : keepsCore P s (execRegionField v s) := by
  refine command_keepsCore fun u h => ?_
  split
  · exact h
  · next hc =>
    split
    · exact h
    · next hbusy =>
      refine K.takeField (by simpa using hc) (fun hhold => ?_) h v
      exact Bool.eq_false_iff.mpr fun hb => hbusy ⟨hhold, hb⟩

/-! ### Parameters and the remap table (R151, R174) -/

theorem Steady.setParam (K : Steady P Q V W) (sel : Unit16) (v : BitVec 32) (s : State) :
    keepsCore P s (execSetParam sel v s) := by
  refine command_keepsCore fun u h => ?_
  split
  · exact h
  · next hc =>
    split
    · exact h
    · next p hp => exact K.setsParam (c := u.core) (not_not.mp hc) hp h

theorem Steady.loadRemap (K : Steady P Q V W) (n : Unit16) (es : List RemapOperand) (s : State) :
    keepsCore P s (execLoadRemap n es s) := by
  unfold execLoadRemap
  split
  · exact command_keepsCore fun u h => h
  · refine command_keepsCore fun u h => ?_
    split
    · exact h
    · unfold State.loadRemap
      split
      · exact h
      · next hc =>
        split
        · exact h
        · next l hl => exact K.loadsRemap (c := u.core) (not_not.mp hc) hl h

/-! ### Control state (R176 to R180) -/

theorem validateTable_of_validateStart {g : Rgd} {p : Params} (h : validateStart g p = none) :
    validateTable g.table p = none := by
  unfold validateStart at h
  split at h
  · cases h
  · exact h

theorem Steady.start (K : Steady P Q V W) (s : State) : keepsCore P s (execStart s) := by
  refine command_keepsCore fun u h => ?_
  split
  · exact h
  · next hc =>
    split
    · exact h
    · next hv =>
      exact K.engine.settle (K.starts (c := u.core) (not_not.mp hc) (validateTable_of_validateStart hv) h)

theorem Steady.reinit (K : Steady P Q V W) (s : State) : keepsCore P s (execReinit s) := by
  refine command_keepsCore fun u h => ?_
  obtain ⟨hcarried, houtside⟩ := groupEnded_carriedTo u
  exact K.reinits hcarried houtside (groupEnded_mli u) h

theorem Steady.hold (K : Steady P Q V W) (s : State) : keepsCore P s (execHold s) := by
  refine command_keepsCore fun u h => ?_
  split
  · next hrun => exact K.engine.settle (K.engine.sound.suspendScrub (K.holds (c := u.core) hrun h))
  · exact h
  · exact h
  · exact h

theorem Steady.release (K : Steady P Q V W) (s : State) : keepsCore P s (execRelease s) := by
  refine command_keepsCore fun u h => ?_
  split
  · exact h
  · next hc =>
    split
    · exact h
    · exact K.releases (c := u.core) (not_not.mp hc) h

/-! ### Faults, counters, retirements and diagnostic reads (R150, R161, R163, R173) -/

theorem Steady.popFault (K : Steady P Q V W) (s : State) : keepsCore P s (execPopFault s) := by
  refine command_keepsCore fun u h => ?_
  split
  · next r t ht =>
    refine K.engine.sound.stock (c := u.core) (q := t) (fun hfit => ⟨?_, hfit.2⟩) h
    have hlen : (r :: t).length ≤ 16 := ht ▸ hfit.1
    exact (Nat.le_succ _).trans hlen
  · exact h

theorem Steady.clearCounters (K : Steady P Q V W) (s : State) : keepsCore P s (execClearCounters s) := by
  have hzero (i : Fin 22) : (Vector.replicate 22 0 : Vector Nat 22).get i ≤ 65535 :=
    (Vector.getElem_replicate i.isLt).trans_le (Nat.zero_le _)
  exact command_keepsCore fun u h => K.engine.sound.stock (c := u.core) (fun hfit => ⟨hfit.1, hzero⟩) h

theorem Steady.retireBlock (K : Steady P Q V W) (b : Unit16) (s : State) : keepsCore P s (execRetireBlock b s) := by
  refine command_keepsCore fun u h => ?_
  dsimp only
  split
  · exact h
  · split
    · exact h
    · exact K.engine.sound.requestRetire h _ _

theorem Steady.readWordRequest (K : Steady P Q V W) (w : BitVec 32) (s : State) : keepsCore P s (execReadWordRequest w s) := by
  refine command_keepsCore fun u h => ?_
  split
  · exact h
  · next hservice =>
    split
    · exact h
    · split
      · exact h
      · exact K.engine.settle (K.readRequested (c := u.core) ((runOrHold_iff u).mp (by simpa using hservice)) h)

/-! ### Every command and every step -/

theorem Steady.exec_keepsCore (K : Steady P Q V W) (c : Instr) (s : State) : keepsCore P s (exec c s) := by
  have hanswered {code : Nat} {ops : List Unit16} {f : State → State} (hf : ∀ u : State, (f u).core = u.core) :
      keepsCore P s (.next (s.command code ops f)) := command_keepsCore fun u h => core_of_eq (hf u) h
  cases c
  case powerOn | systemResetAssert => exact keepsCore_next fun _ => K.resets
  case internalResetEnd =>
    refine keepsCore_next fun h => ?_
    split
    · exact K.resets
    · exact h
  case accessPresented c => exact keepsCore_next fun h => K.present h c
  case takeAccess => exact K.takeAccess s
  case presentedAccessWithdrawn => exact keepsCore_next id
  case accessWithdrawn => exact K.accessWithdrawn s
  case lockedWriteHalfPresented c => exact keepsCore_next fun h => K.present h c
  case lockNegated o =>
    refine keepsCore_next fun h => ?_
    split
    · exact K.present h _
    · exact K.negateLock h
  case retireTake => exact K.retireTake s
  case scrubTimerExpiry => exact K.scrubTimerExpiry s
  case fixLocalKind => exact K.fixLocalKind s
  case agreementTimerExpiry => exact K.agreementTimerExpiry s
  case cycleDeadlineExpiry => exact K.cycleDeadlineExpiry s
  case twinFrameReceived us => exact K.twinFrameReceived us s
  case twinLineIdleTimeout => exact K.twinLineIdleTimeout s
  case linkTimerExpiry => exact keepsCore_next fun h => by split <;> exact h
  case idleFrameTimerExpiry => exact keepsCore_next fun h => by split <;> exact h
  case transmitFrameEnd => exact keepsCore_next fun h => by (repeat' split) <;> exact h
  case chipSelectAssert => exact keepsCore_next fun h => by split <;> exact h
  case chipSelectNegate => exact keepsCore_next id
  case unknownCommand code =>
    simp only [exec, execUnknownCommand]
    split
    · exact keepsCore_self P s
    · exact hanswered fun _ => rfl
  case getStatus => exact command_keepsCore fun u h => K.discards (c := u.core) h
  case selectRegion e => exact K.selectRegion e s
  case regionField v => exact K.regionField v s
  case readRegion e => exact hanswered fun u => by split <;> rfl
  case setParam sel v => exact K.setParam sel v s
  case readParam sel => exact hanswered fun u => by split <;> rfl
  case loadRemap n es => exact K.loadRemap n es s
  case readRemap => exact hanswered fun _ => rfl
  case start => exact K.start s
  case reinit => exact K.reinit s
  case hold => exact K.hold s
  case release => exact K.release s
  case popFault => exact K.popFault s
  case peekFault => exact hanswered fun u => by split <;> rfl
  case readCounters => exact hanswered fun _ => rfl
  case clearCounters => exact K.clearCounters s
  case setAlarmMask m => exact hanswered fun u => by split <;> rfl
  case ackAlarm m => exact hanswered fun u => by split <;> rfl
  case enableVital => exact hanswered fun u => by split <;> rfl
  case requestRollback => exact hanswered fun u => by split <;> simp [State.core]
  case retireBlock b => exact K.retireBlock b s
  case readWordRequest w => exact K.readWordRequest w s
  case readWordCollection => exact hanswered fun u => by split <;> rfl
  case readEngine => exact hanswered fun _ => rfl
  all_goals exact K.engine.exec_group s rfl

/-- A predicate that the changes of every command keep is kept by every step. -/
theorem Steady.step_keeps (K : Steady P Q V W) {t : State} (h : P s.core) (hstep : step s = .next t) : P t.core := by
  unfold step at hstep
  split at hstep
  · obtain rfl := Host.Outcome.next.inj hstep
    exact h
  · next c rest _ => exact K.exec_keepsCore c { s with pending := rest } h t hstep

end

end Sys2Proof.Machine
end

section
/-! PROOFS. The marker in hand stays sound (R124, R125, R136). -/
namespace Sys2Proof.Machine

/-- What the invariant on the marker in hand says of what it reads. -/
def Core.markerSound (c : Core) : Prop :=
  (c.held ≠ none ∨ c.localMark ≠ none ∨ c.verdictDue = true → c.phase = some .heldMarker) ∧
  (c.verdictDue = true → c.held = none ∧ c.localMark = none)

theorem phase_eq_some {s : State} {p : Phase} : s.core.phase = some p ↔ ∃ a, s.hbi.access = some a ∧ a.phase = p :=
  Option.map_eq_some_iff

theorem core_markerSound (s : State) : s.core.markerSound ↔ s.markerSound := by
  unfold Core.markerSound State.markerSound
  rw [phase_eq_some]
  exact Iff.rfl

section
variable {c : Core}

/-- Where the access is no held marker, no marker is in hand. -/
theorem marker_none (hs : c.markerSound) (hm : c.phase ≠ some .heldMarker) :
    c.held = none ∧ c.localMark = none ∧ c.verdictDue ≠ true :=
  ⟨by_contra fun hh => hm (hs.1 (.inl hh)), by_contra fun hl => hm (hs.1 (.inr (.inl hl))), fun hd => hm (hs.1 (.inr (.inr hd)))⟩

theorem markerSound_of_none (hh : c.held = none) (hl : c.localMark = none) (hd : c.verdictDue ≠ true) : c.markerSound :=
  ⟨fun h => by simp [hh, hl, hd] at h, fun h => absurd h hd⟩

/-- The invariant reads the access, the marker and the verdict alone. -/
theorem markerSound_of_same {d : Core} (hs : c.markerSound) (hp : d.phase = c.phase := by rfl) (hh : d.held = c.held := by rfl)
    (hl : d.localMark = c.localMark := by rfl) (hd : d.verdictDue = c.verdictDue := by rfl) : d.markerSound := by
  rwa [Core.markerSound, hp, hh, hl, hd]

theorem reinitialise_markerSound (t : State) : t.reinitialise.core.markerSound := markerSound_of_none rfl rfl nofun

theorem marker_common : Common Core.markerSound (fun _ => True) where
  stock := fun _ h => markerSound_of_same h
  sheet := fun _ h => markerSound_of_same h
  enter := fun hm _ h => have ⟨hh, hl, hd⟩ := marker_none h hm.1; markerSound_of_none hh hl hd
  leave := fun hm h => have ⟨hh, hl, hd⟩ := marker_none h hm; markerSound_of_none hh hl hd
  marker := fun hm h => have ⟨_, _, hd⟩ := marker_none h hm.1; ⟨fun _ => rfl, fun hdue => absurd hdue hd⟩
  unscrub := fun h => markerSound_of_same h
  dirty := fun _ _ _ _ _ h => markerSound_of_same h

theorem marker_engine : Engine Core.markerSound Core.markerSound (fun _ => True) where
  sound := marker_common
  loose := marker_common
  loosen := id
  works := fun _ _ => trivial
  activate := fun _ h => markerSound_of_same h
  passTakes := fun _ _ h => markerSound_of_same h
  passEnds := fun h => markerSound_of_same h
  selected := fun _ _ _ h => markerSound_of_same h
  idles := fun _ h => markerSound_of_same h
  line := fun _ h => markerSound_of_same h
  moveOffset := fun h => markerSound_of_same h
  retireOffset := fun _ h => markerSound_of_same h
  dropped := fun h => markerSound_of_same h
  broken := fun _ h => markerSound_of_same h
  passBroken := fun _ h => markerSound_of_same h
  moved := fun _ h => markerSound_of_same h
  unretired := fun h => markerSound_of_same h
  remapped := fun _ h => markerSound_of_same h
  scrubSlot := fun _ h => markerSound_of_same h
  readSlot := fun _ h => markerSound_of_same h
  clearSlot := fun _ _ h => markerSound_of_same h
  startDone := fun _ _ h => markerSound_of_same h
  verdictWritten := fun _ hdue h => have ⟨hh, hl⟩ := h.2 hdue; markerSound_of_none hh hl nofun

theorem marker_steady : Steady Core.markerSound Core.markerSound (fun _ => Core.markerSound) (fun _ => True) where
  engine := marker_engine
  priority := fun _ _ _ h => markerSound_of_same h
  scrubRequested := fun _ h => markerSound_of_same h
  readRequested := fun _ h => markerSound_of_same h
  retireRequested := fun _ _ _ h => markerSound_of_same h
  fixes := fun hh _ h => ⟨fun _ => h.1 (.inl hh), fun hd => absurd (h.2 hd).1 hh⟩
  opens := fun _ hm h => ⟨fun _ => h.1 (hm.imp And.left .inl), fun _ => ⟨rfl, rfl⟩⟩
  startsCopy := fun _ h => markerSound_of_same h
  startsRestore := fun _ _ _ h => markerSound_of_same h
  startsStock := fun _ h => markerSound_of_same h
  closes := id
  passAsked := fun _ _ h => markerSound_of_same h
  rx := fun _ h => markerSound_of_same h
  discards := fun h => markerSound_of_same h
  loads := fun _ _ h => markerSound_of_same h
  restages := fun _ _ h => markerSound_of_same h
  installsConfig := fun _ _ _ _ h => markerSound_of_same h
  installsHold := fun _ _ _ _ _ _ h => markerSound_of_same h
  clearRequested := fun _ _ h => markerSound_of_same h
  setsParam := fun _ _ h => markerSound_of_same h
  loadsRemap := fun _ _ h => markerSound_of_same h
  starts := fun _ _ h => markerSound_of_same h
  holds := fun _ h => markerSound_of_same h
  releases := fun _ h => markerSound_of_same h
  reinits := fun _ _ _ _ => reinitialise_markerSound _
  resets := (core_markerSound State.reset).mpr reset_markerSound

end

/-- R124, R125, R136: every step keeps the marker in hand sound. -/
theorem step_keeps_markerSound {s t : State} (hs : s.markerSound) (hstep : step s = .next t) : t.markerSound :=
  (core_markerSound t).mp (marker_steady.step_keeps ((core_markerSound s).mpr hs) hstep)

end Sys2Proof.Machine
end

section
/-! PROOFS. What the engine's slot operations leave alone, and what a REINIT finds after a group carried through (R58, R66, R80). -/
namespace Sys2Proof.Machine

/-! ### The slots that a pass or a block move leaves alone -/

/-- The FIFO, the target spare of a retire copy, and whether a clear is that of START. -/
def Txe.beyondMoves (x : Txe) : (List FifoEntry × FifoMode) × Option Nat × Option Bool :=
  (x.line, x.retire.map (·.spare), x.clear.map (·.atStart))

theorem activate_beyondMoves (x : Txe) (k : EngineKind) : (x.activate k).beyondMoves = x.beyondMoves := by
  cases k with
  | clear => unfold Txe.activate Txe.beyondMoves; cases x.clear <;> rfl
  | retire => unfold Txe.activate Txe.beyondMoves; cases x.retire <;> rfl
  | priorityBlock | readWord | restorePass | checkpointPass | scrubBurst => rfl

theorem setPass_beyondMoves (x : Txe) (m : Move) (o : Option PassOp) : (x.setPass m o).beyondMoves = x.beyondMoves := by
  cases m <;> rfl

theorem setMoveOffset_beyondMoves (x : Txe) (n : Nat) : (x.setMoveOffset n).beyondMoves = x.beyondMoves := by
  unfold Txe.setMoveOffset
  split <;> rfl

theorem dropPriority_beyondMoves (x : Txe) : x.dropPriority.beyondMoves = x.beyondMoves := by
  unfold Txe.dropPriority
  split <;> rfl

theorem staled_beyondMoves (x : Txe) (xs : BlockSet) (m : Move) : (x.staled xs m).beyondMoves = x.beyondMoves := by
  unfold Txe.staled
  split
  · split
    · split
      · rfl
      · exact setPass_beyondMoves x m _
    · rfl
  · rfl

theorem recalled_beyondMoves (x : Txe) (xs : BlockSet) (m : Move) : (x.recalled xs m).beyondMoves = x.beyondMoves := by
  unfold Txe.recalled
  split
  · split <;> rfl
  · rfl

theorem line_of_beyondMoves {x y : Txe} (h : y.beyondMoves = x.beyondMoves) : y.line = x.line := congrArg Prod.fst h

theorem spare_of_beyondMoves {x y : Txe} (h : y.beyondMoves = x.beyondMoves) :
    y.retire.map (·.spare) = x.retire.map (·.spare) := congrArg (·.2.1) h

theorem atStart_of_beyondMoves {x y : Txe} (h : y.beyondMoves = x.beyondMoves) :
    y.clear.map (·.atStart) = x.clear.map (·.atStart) := congrArg (·.2.2) h

/-! ### The group carried through -/

theorem isGroup_of_group {a : Access} {g : Instr} (h : a.group = some g) : isGroup g = true ∧ reportsToLink g = false := by
  obtain ⟨op, w, r, phase, gone⟩ := a
  cases phase with
  | atPort =>
    cases op with
    | wordRead | fetch | byteRead _ | byteWrite _ _ =>
      obtain rfl := Option.some.inj h
      exact ⟨rfl, rfl⟩
    | wordWrite d =>
      obtain rfl := Option.some.inj h
      dsimp only
      cases r.attrs.agreed <;> exact ⟨rfl, rfl⟩
    | locked half =>
      cases half <;>
      · obtain rfl := Option.some.inj h
        exact ⟨rfl, rfl⟩
  | heldMarker =>
    obtain rfl := Option.some.inj h
    exact ⟨rfl, rfl⟩
  | _ => cases h

theorem isGroup_of_engineCommand {s : State} {g : Instr} (h : s.engineCommand = some g) : isGroup g = true := by
  have hmove (m : Move) : isGroup (if s.txe.fifoMode = .draining then writeOf m else readOf m) = true := by
    cases m <;> split <;> rfl
  unfold State.engineCommand at h
  dsimp only at h
  split at h
  · cases h; rfl
  · obtain ⟨o, -, rfl⟩ := Option.map_eq_some_iff.mp h
    exact hmove o.move
  · cases h; rfl
  · cases h; exact hmove .restore
  · cases h; exact hmove .copy
  · cases h; split <;> rfl
  · cases h; rfl
  · cases h

section
variable {P Q : Core → Prop} {W : Control → Prop} {s t : State}

/-- The faults and the remap table of the state a REINIT finds are those of `s`, or of a state that meets the predicate, which the
group in hand made of `s`. -/
theorem Engine.carriedTo (E : Engine P Q W) (hphase : ∀ {c : Core} (p : Option Phase), P c → P { c with phase := p })
    (hst : s.carriedTo t) (hs : P s.core) :
    ∃ v : State, P v.core ∧ (t.fau = s.fau ∨ t.fau = v.fau) ∧
      (t.sru.remap = s.sru.remap ∨ t.sru.remap = v.sru.remap ∧ v.mli = s.mli) := by
  obtain ⟨u, hu, hfau, hremap, -, -⟩ := hst
  rw [← hfau, ← hremap]
  rcases hu with rfl | hu
  · exact ⟨u, hs, .inl rfl, .inl rfl⟩
  · unfold State.carried at hu
    split at hu
    · exact hu.elim
    · obtain ⟨a, g, -, hg, hexec⟩ := hu
      obtain ⟨hgroup, hlink⟩ := isGroup_of_group hg
      exact ⟨u, E.exec_group (s.withdrawing a) hgroup (hphase _ hs) u hexec, .inr rfl,
        .inr ⟨rfl, exec_group_keepsMli (s.withdrawing a) hgroup hlink u hexec⟩⟩
    · obtain ⟨a, g, -, hg, hexec⟩ := hu
      obtain ⟨hgroup, hlink⟩ := isGroup_of_group hg
      exact ⟨u, E.exec_group (s.withdrawing a) hgroup (hphase _ hs) u hexec, .inr rfl,
        .inr ⟨rfl, exec_group_keepsMli (s.withdrawing a) hgroup hlink u hexec⟩⟩
    · obtain ⟨g, v, hg, hexec, -, -, hreport⟩ := hu
      have hgroup := isGroup_of_engineCommand hg
      refine ⟨v, E.exec_group s.noAccess hgroup (hphase none hs) v hexec, ?_, ?_⟩
      · split at hreport
        · exact .inr hreport.1
        · exact .inr hreport.1
        · split at hreport
          · exact .inl hreport.1
          · exact .inr hreport.1
        · split at hreport
          · exact .inl hreport.1
          · exact .inr hreport.1
        · split at hreport
          · exact .inl hreport.1
          · exact .inr hreport.1
        · exact .inl hreport.1
      · split at hreport
        · exact .inr ⟨hreport.2, exec_group_keepsMli (c := .scrubWordCheck) s.noAccess rfl rfl v hexec⟩
        · exact .inr ⟨hreport.2, exec_group_keepsMli (c := .retireWordWrite) s.noAccess rfl rfl v hexec⟩
        all_goals exact .inl hreport.2

end

end Sys2Proof.Machine
end

section
/-! PROOFS. The queues, lists, counters and the FIFO stay within their sizes (R69, R147, R149, R161, R163, R184). -/
namespace Sys2Proof.Machine

/-- What the invariant on the sizes says of what it reads. -/
structure Core.WithinCapacity (c : Core) : Prop where
  stock : stockFits c.queue c.counters
  sheet : sheetFits c.history c.retireQueue
  line : lineFits c.txe.fifo c.txe.fifoMode
  frame : openFits c.rx

theorem core_withinCapacity (s : State) : s.core.WithinCapacity ↔ s.withinCapacity := by
  constructor
  · rintro ⟨⟨hq, hcs⟩, ⟨hh, hwords, hrq, hblocks⟩, ⟨hfifo, hroom⟩, hrx⟩
    exact ⟨hq, hcs, hh, hwords, hrq, hblocks, hfifo, hroom, hrx⟩
  · rintro ⟨hq, hcs, hh, hwords, hrq, hblocks, hfifo, hroom, hrx⟩
    exact ⟨⟨hq, hcs⟩, ⟨hh, hwords, hrq, hblocks⟩, ⟨hfifo, hroom⟩, hrx⟩

section
variable {c : Core}

/-- The invariant reads the queues, the counters, the history, the FIFO and the open frame alone. -/
theorem withinCapacity_of_same {d : Core} (h : c.WithinCapacity) (hline : d.txe.line = c.txe.line := by rfl)
    (hq : d.queue = c.queue := by rfl) (hcs : d.counters = c.counters := by rfl) (hh : d.history = c.history := by rfl)
    (hrq : d.retireQueue = c.retireQueue := by rfl) (hrx : d.rx = c.rx := by rfl) : d.WithinCapacity where
  stock := hq ▸ hcs ▸ h.stock
  sheet := hh ▸ hrq ▸ h.sheet
  line := by
    rw [fifo_of_line hline, fifoMode_of_line hline]
    exact h.line
  frame := hrx ▸ h.frame

theorem capacity_common : Common Core.WithinCapacity (fun _ => True) where
  stock := fun hfit h => { h with stock := hfit h.stock }
  sheet := fun hfit h => { h with sheet := hfit h.sheet }
  enter := fun _ _ h => withinCapacity_of_same h
  leave := fun _ h => withinCapacity_of_same h
  marker := fun _ h => withinCapacity_of_same h
  unscrub := fun h => withinCapacity_of_same h
  dirty := fun _ _ _ _ _ h => withinCapacity_of_same h

theorem capacity_engine : Engine Core.WithinCapacity Core.WithinCapacity (fun _ => True) where
  sound := capacity_common
  loose := capacity_common
  loosen := id
  works := fun _ _ => trivial
  activate := fun _ h => withinCapacity_of_same h (line_of_beyondMoves (activate_beyondMoves _ _))
  passTakes := fun _ _ h => withinCapacity_of_same h (setPass_line _ _ _)
  passEnds := fun h => withinCapacity_of_same h (setPass_line _ _ _)
  selected := fun _ _ _ h => h
  idles := fun _ h => withinCapacity_of_same h
  line := fun hfit h => { h with line := hfit h.line }
  moveOffset := fun h => withinCapacity_of_same h (setMoveOffset_line _ _)
  retireOffset := fun _ h => withinCapacity_of_same h
  dropped := fun h => withinCapacity_of_same h (dropPriority_line _)
  broken := fun _ h => withinCapacity_of_same h
  passBroken := fun _ h => withinCapacity_of_same h
    (line_of_beyondMoves ((recalled_beyondMoves _ _ _).trans (staled_beyondMoves _ _ _)))
  moved := fun _ h => withinCapacity_of_same h
    (line_of_beyondMoves ((staled_beyondMoves _ _ _).trans (dropPriority_beyondMoves _)))
  unretired := fun h => withinCapacity_of_same h
  remapped := fun _ h => withinCapacity_of_same h
  scrubSlot := fun _ h => withinCapacity_of_same h
  readSlot := fun _ h => withinCapacity_of_same h
  clearSlot := fun _ _ h => withinCapacity_of_same h
  startDone := fun _ _ h => withinCapacity_of_same h
  verdictWritten := fun _ _ h => withinCapacity_of_same h

/-- After a REINIT the queues it empties fit, and the fault queue and the counters are those of the group carried through. -/
theorem reinitialise_withinCapacity {s t : State} (hst : s.carriedTo t) (hout : t.outside = s.outside)
    (h : s.core.WithinCapacity) : t.reinitialise.core.WithinCapacity := by
  have hrx : t.twl.rx = s.twl.rx := congrArg (·.2.1.rx) hout
  obtain ⟨v, hv, hfau, -⟩ := capacity_engine.carriedTo (fun _ hc => withinCapacity_of_same hc) hst h
  refine ⟨?_, ⟨Nat.zero_le _, List.nodup_nil, Nat.zero_le _, List.nodup_nil⟩, ⟨Nat.zero_le _, fun _ => Nat.succ_pos 31⟩, ?_⟩
  · show stockFits t.fau.queue t.fau.counters
    rcases hfau with he | he <;> rw [he]
    · exact h.stock
    · exact hv.stock
  · show openFits t.twl.rx
    rw [hrx]
    exact h.frame

theorem capacity_steady : Steady Core.WithinCapacity Core.WithinCapacity (fun _ => Core.WithinCapacity) (fun _ => True) where
  engine := capacity_engine
  priority := fun _ _ _ h => withinCapacity_of_same h
  scrubRequested := fun _ h => withinCapacity_of_same h
  readRequested := fun _ h => withinCapacity_of_same h
  retireRequested := fun _ _ _ h => withinCapacity_of_same h
  fixes := fun _ _ h => withinCapacity_of_same h
  opens := fun _ _ h => withinCapacity_of_same h
  startsCopy := fun _ h => withinCapacity_of_same h
  startsRestore := fun _ _ _ h => withinCapacity_of_same h
  startsStock := fun hfit h => capacity_common.stock hfit h
  closes := id
  passAsked := fun _ _ h => withinCapacity_of_same h (setPass_line _ _ _)
  rx := fun hfit h => { h with frame := hfit h.frame }
  discards := fun h => withinCapacity_of_same h
  loads := fun _ _ h => withinCapacity_of_same h
  restages := fun _ _ h => withinCapacity_of_same h
  installsConfig := fun _ _ _ _ h => withinCapacity_of_same h
  installsHold := fun _ _ _ _ _ _ h => withinCapacity_of_same h
  clearRequested := fun _ _ h => withinCapacity_of_same h
  setsParam := fun _ _ h => withinCapacity_of_same h
  loadsRemap := fun _ _ h => withinCapacity_of_same h
  starts := fun _ _ h => withinCapacity_of_same h
  holds := fun _ h => withinCapacity_of_same h
  releases := fun _ h => withinCapacity_of_same h
  reinits := fun hst hout _ h => reinitialise_withinCapacity hst hout h
  resets := (core_withinCapacity State.reset).mpr reset_withinCapacity

end

/-- R69, R147, R149, R161, R163, R184: every step keeps the sizes. -/
theorem step_keeps_withinCapacity {s t : State} (hs : s.withinCapacity) (hstep : step s = .next t) : t.withinCapacity :=
  (core_withinCapacity t).mp (capacity_steady.step_keeps ((core_withinCapacity s).mpr hs) hstep)

end Sys2Proof.Machine
end

section
/-! PROOFS. The remap table and the target of a retire copy stay sound (R151, R152, R155). -/
namespace Sys2Proof.Machine

/-! ### The parameters a SET_PARAM leaves (R174) -/

/-- The one parameter that a selector sets, held to its range. -/
theorem set_cases {p q : Params} {sel v : Nat} (h : p.set sel v = some q) :
    (16 ≤ v ∧ v ≤ 22 ∧ q = { p with exponent := v }) ∨ (v ≤ 32767 ∧ q = { p with spareBase := v }) ∨
    (v ≤ 8 ∧ q = { p with spareCount := v }) ∨ (v ≤ 8388607 ∧ q = { p with marker := v }) ∨
    (∃ m, q = { p with twinMode := m }) ∨ q = { p with burst := clampBurst v } ∨
    (v ≤ 65535 ∧ q = { p with scrubInterval := v }) ∨
    (v ≤ 255 ∧ q = { p with agreementTimeout := clampTimeout v }) ∨ (v ≤ 255 ∧ q = { p with deadline := v }) := by
  have hif {c : Prop} [Decidable c] {x y : Params} (hx : (if c then some x else none) = some y) : c ∧ y = x := by
    split at hx
    · next hc => exact ⟨hc, (Option.some.inj hx).symm⟩
    · cases hx
  unfold Params.set at h
  split at h
  · obtain ⟨⟨hlo, hhi⟩, rfl⟩ := hif h
    exact .inl ⟨hlo, hhi, rfl⟩
  · exact .inr (.inl (hif h))
  · exact .inr (.inr (.inl (hif h)))
  · exact .inr (.inr (.inr (.inl (hif h))))
  · refine .inr (.inr (.inr (.inr (.inl ?_))))
    split at h
    · exact ⟨_, (Option.some.inj h).symm⟩
    · exact ⟨_, (Option.some.inj h).symm⟩
    · cases h
  · exact .inr (.inr (.inr (.inr (.inr (.inl (hif h).2)))))
  · exact .inr (.inr (.inr (.inr (.inr (.inr (.inl (hif h)))))))
  · exact .inr (.inr (.inr (.inr (.inr (.inr (.inr (.inl (hif h))))))))
  · exact .inr (.inr (.inr (.inr (.inr (.inr (.inr (.inr (hif h))))))))
  · cases h

theorem set_spareCount {p q : Params} {sel v : Nat} (h : p.set sel v = some q) (hp : p.spareCount ≤ 8) : q.spareCount ≤ 8 := by
  rcases set_cases h with ⟨-, -, rfl⟩ | ⟨-, rfl⟩ | ⟨hv, rfl⟩ | ⟨-, rfl⟩ | ⟨m, rfl⟩ | rfl | ⟨-, rfl⟩ | ⟨-, rfl⟩ | ⟨-, rfl⟩
  case inr.inr.inl => exact hv
  all_goals exact hp

/-! ### The table (R151) -/

/-- At most 8 entries, one LIVE entry a block, and the spares distinct and below NS. -/
def remapFits (l : List RemapEntry) (p : Params) : Prop :=
  l.length ≤ 8 ∧ ((l.filter (·.live)).map (·.block)).Nodup ∧ (l.map (·.spare)).Nodup ∧ p.spareCount ≤ 8 ∧
  ∀ e ∈ l, e.spare < p.spareCount

/-- A retire copy's target is a spare that no entry names (R152). -/
def targetFree (x : Option Nat) (l : List RemapEntry) (p : Params) : Prop :=
  ∀ i ∈ x, i < p.spareCount ∧ ∀ e ∈ l, e.spare ≠ i

theorem remapFits_nil {p : Params} (hp : p.spareCount ≤ 8) : remapFits [] p :=
  ⟨Nat.zero_le _, List.nodup_nil, List.nodup_nil, hp, nofun⟩

/-- A table that LOAD_REMAP accepts. -/
theorem remapFits_of_remapOf {p : Params} {es : List RemapOperand} {l : List RemapEntry} (hp : p.spareCount ≤ 8)
    (h : remapOf p es = some l) : remapFits l p := by
  unfold remapOf at h
  split at h
  · split at h
    · next ha =>
      obtain rfl := Option.some.inj h
      simp only [remapAccepted, Bool.and_eq_true, decide_eq_true_eq, List.all_eq_true] at ha
      obtain ⟨⟨⟨⟨hlen, hspares⟩, -⟩, hlive⟩, hdistinct⟩ := ha
      exact ⟨hlen, List.pairwise_map.mpr hlive, List.pairwise_map.mpr hdistinct, hp, hspares⟩
    · cases h
  · cases h

theorem remapAfter_fits {p q : Params} {sel v : Nat} {l : List RemapEntry} (h : p.set sel v = some q) (hl : remapFits l p) :
    remapFits (remapAfter p q l) q := by
  obtain ⟨hlen, hlive, hspares, hp, hrange⟩ := hl
  have hq := set_spareCount h hp
  unfold remapAfter
  split
  · exact remapFits_nil hq
  · next hsame =>
    have hcount : p.spareCount = q.spareCount := by
      by_contra hne
      exact hsame (.inr hne)
    exact ⟨hlen, hlive, hspares, hq, fun e he => hcount ▸ hrange e he⟩

/-- Distinct spares below NS leave room for no more entries than spares. -/
theorem remap_length_le {l : List RemapEntry} {n : Nat} (hnodup : (l.map (·.spare)).Nodup) (hrange : ∀ e ∈ l, e.spare < n) :
    l.length ≤ n := by
  have hsub : l.map (·.spare) ⊆ List.range n := fun i hi => by
    obtain ⟨e, he, rfl⟩ := List.mem_map.mp hi
    exact List.mem_range.mpr (hrange e he)
  simpa using (hnodup.subperm hsub).length_le

theorem remapInstall_spares (l : List RemapEntry) (b i : Nat) :
    (remapInstall l b i).map (·.spare) = l.map (·.spare) ++ [i] := by
  rw [remapInstall_eq, List.map_append, List.map_map]
  refine congrArg (· ++ [i]) (List.map_congr_left fun e _ => ?_)
  show (if _ then _ else _ : RemapEntry).spare = e.spare
  split <;> rfl

/-- An entry of another block stays as it is, and a LIVE one of this block becomes DEAD. -/
theorem remapInstall_liveBlocks (l : List RemapEntry) (b i : Nat) :
    ((remapInstall l b i).filter (·.live)).map (·.block) =
      ((l.filter (·.live)).map (·.block)).filter (fun c => decide (c ≠ b)) ++ [b] := by
  rw [remapInstall_eq, List.filter_append, List.map_append]
  refine congrArg (· ++ [b]) ?_
  induction l with
  | nil => rfl
  | cons e l ih =>
    by_cases hlive : e.live = true
    · by_cases hb : e.block = b
      · simpa [hlive, hb] using ih
      · simpa [hlive, hb] using ih
    · simpa [hlive] using ih

/-- The table a completed retire copy leaves (R155). -/
theorem remapInstall_fits {l : List RemapEntry} {p : Params} {b i : Nat} (hl : remapFits l p) (hi : i < p.spareCount)
    (hfree : ∀ e ∈ l, e.spare ≠ i) : remapFits (remapInstall l b i) p := by
  obtain ⟨-, hlive, hspares, hp, hrange⟩ := hl
  have hdistinct : ((remapInstall l b i).map (·.spare)).Nodup := by
    rw [remapInstall_spares, ← List.concat_eq_append]
    refine List.Nodup.concat (fun hmem => ?_) hspares
    obtain ⟨e, he, rfl⟩ := List.mem_map.mp hmem
    exact hfree e he rfl
  have hbelow : ∀ e ∈ remapInstall l b i, e.spare < p.spareCount := fun e he => by
    have hmem : e.spare ∈ l.map (·.spare) ++ [i] := remapInstall_spares l b i ▸ List.mem_map_of_mem he
    rcases List.mem_append.mp hmem with hold | hnew
    · obtain ⟨e', he', hsame⟩ := List.mem_map.mp hold
      exact hsame ▸ hrange e' he'
    · exact List.mem_singleton.mp hnew ▸ hi
  refine ⟨(remap_length_le hdistinct hbelow).trans hp, ?_, hdistinct, hp, hbelow⟩
  rw [remapInstall_liveBlocks, ← List.concat_eq_append]
  exact List.Nodup.concat (fun hmem => by simpa using List.of_mem_filter hmem) (hlive.filter _)

/-! ### The invariant -/

/-- What the invariant on the remap table says of what it reads. -/
def Core.remapSound (c : Core) : Prop :=
  remapFits c.remap c.params ∧ targetFree (c.txe.retire.map (·.spare)) c.remap c.params ∧
  (c.control = .config → c.txe.retire.map (·.spare) = none)

theorem core_remapSound (s : State) : s.core.remapSound ↔ s.remapSound := by
  have htarget : targetFree (s.txe.retire.map (·.spare)) s.sru.remap s.mli.params ↔
      ∀ o ∈ s.txe.retire, o.spare < s.mli.params.spareCount ∧ ∀ e ∈ s.sru.remap, e.spare ≠ o.spare := by
    simp only [targetFree, Option.mem_def, Option.map_eq_some_iff, forall_exists_index, and_imp, forall_apply_eq_imp_iff₂]
  unfold Core.remapSound State.remapSound remapFits
  simp only [and_assoc]
  rw [← htarget, ← Option.map_eq_none_iff (f := fun o : RetireOp => o.spare)]
  exact Iff.rfl

section
variable {c : Core}

/-- The invariant reads the remap table, the retire copy's target, the parameters and the control state alone. -/
theorem remapSound_of_same {d : Core} (h : c.remapSound)
    (ht : d.txe.retire.map (·.spare) = c.txe.retire.map (·.spare) := by rfl) (hr : d.remap = c.remap := by rfl)
    (hp : d.params = c.params := by rfl) (hc : d.control = c.control := by rfl) : d.remapSound := by
  rwa [Core.remapSound, hr, hp, hc, ht]

/-- Without a retire copy the table alone has to fit. -/
theorem remapSound_of_noRetire (h : remapFits c.remap c.params) (ht : c.txe.retire = none) : c.remapSound := by
  rw [Core.remapSound, ht]
  exact ⟨h, nofun, fun _ => rfl⟩

/-- The control state may change in any way that does not enter CONFIG. -/
theorem remapSound_outsideConfig {d : Core} (h : c.remapSound) (hd : d.control ≠ .config)
    (ht : d.txe.retire.map (·.spare) = c.txe.retire.map (·.spare) := by rfl) (hr : d.remap = c.remap := by rfl)
    (hp : d.params = c.params := by rfl) : d.remapSound := by
  rw [Core.remapSound, hr, hp, ht]
  exact ⟨h.1, h.2.1, fun hc => absurd hc hd⟩

theorem retire_none_of_config (h : c.remapSound) (hc : c.control = .config) : c.txe.retire = none :=
  Option.map_eq_none_iff.mp (h.2.2 hc)

theorem remap_common : Common Core.remapSound (fun _ => True) where
  stock := fun _ h => remapSound_of_same h
  sheet := fun _ h => remapSound_of_same h
  enter := fun _ _ h => remapSound_of_same h
  leave := fun _ h => remapSound_of_same h
  marker := fun _ h => remapSound_of_same h
  unscrub := fun h => remapSound_of_same h
  dirty := fun _ _ _ _ _ h => remapSound_of_same h

/-- A retire copy complete: its target, free until then, is named. -/
theorem remapSound_remapped {o : RetireOp} (ho : c.txe.retire = some o) (h : c.remapSound) :
    ({ c with txe := c.txe.unretired, remap := remapInstall c.remap o.block o.spare } : Core).remapSound := by
  obtain ⟨hfit, htarget, -⟩ := h
  obtain ⟨hlt, hfree⟩ := htarget o.spare (by rw [ho]; rfl)
  exact remapSound_of_noRetire (remapInstall_fits hfit hlt hfree) rfl

theorem remap_engine : Engine Core.remapSound Core.remapSound (fun _ => True) where
  sound := remap_common
  loose := remap_common
  loosen := id
  works := fun _ _ => trivial
  activate := fun _ h => remapSound_of_same h (spare_of_beyondMoves (activate_beyondMoves _ _))
  passTakes := fun _ _ h => remapSound_of_same h (spare_of_beyondMoves (setPass_beyondMoves _ _ _))
  passEnds := fun h => remapSound_of_same h (spare_of_beyondMoves (setPass_beyondMoves _ _ _))
  selected := fun _ _ _ h => h
  idles := fun _ h => remapSound_of_same h
  line := fun _ h => remapSound_of_same h
  moveOffset := fun h => remapSound_of_same h (spare_of_beyondMoves (setMoveOffset_beyondMoves _ _))
  retireOffset := fun ho h => remapSound_of_same h (by rw [ho]; rfl)
  dropped := fun h => remapSound_of_same h (spare_of_beyondMoves (dropPriority_beyondMoves _))
  broken := fun _ h => remapSound_of_same h
  passBroken := fun _ h => remapSound_of_same h
    (spare_of_beyondMoves ((recalled_beyondMoves _ _ _).trans (staled_beyondMoves _ _ _)))
  moved := fun _ h => remapSound_of_same h
    (spare_of_beyondMoves ((staled_beyondMoves _ _ _).trans (dropPriority_beyondMoves _)))
  unretired := fun h => remapSound_of_noRetire h.1 rfl
  remapped := fun ho h => remapSound_remapped ho h
  scrubSlot := fun _ h => remapSound_of_same h
  readSlot := fun _ h => remapSound_of_same h
  clearSlot := fun _ _ h => remapSound_of_same h
  startDone := fun _ _ h => remapSound_outsideConfig h nofun
  verdictWritten := fun _ _ h => remapSound_of_same h

theorem remapSound_retireRequested {o : RetireOp} (hservice : c.inService) (hlt : o.spare < c.params.spareCount)
    (hfree : ∀ e ∈ c.remap, e.spare ≠ o.spare) (h : c.remapSound) :
    ({ c with txe := { c.txe with retire := some o } } : Core).remapSound := by
  refine ⟨h.1, fun i hi => ?_, fun (hc : c.control = .config) => ?_⟩
  · obtain rfl : o.spare = i := Option.some.inj hi
    exact ⟨hlt, hfree⟩
  · rcases hservice with hs | hs <;> rw [hs] at hc <;> cases hc

/-- A REINIT leaves the remap table of the group carried through, and no retire copy. -/
theorem reinitialise_remapSound {s t : State} (hst : s.carriedTo t) (hmli : t.mli = s.mli) (h : s.core.remapSound) :
    t.reinitialise.core.remapSound := by
  refine remapSound_of_noRetire ?_ rfl
  obtain ⟨v, hv, -, hremap⟩ := remap_engine.carriedTo (fun _ hc => remapSound_of_same hc) hst h
  show remapFits t.sru.remap t.mli.params
  rcases hremap with he | ⟨he, hsame⟩ <;> rw [he, hmli]
  · exact h.1
  · exact hsame ▸ hv.1

theorem remap_steady : Steady Core.remapSound Core.remapSound (fun _ => Core.remapSound) (fun _ => True) where
  engine := remap_engine
  priority := fun _ _ _ h => remapSound_of_same h
  scrubRequested := fun _ h => remapSound_of_same h
  readRequested := fun _ h => remapSound_of_same h
  retireRequested := fun hservice hlt hfree h => remapSound_retireRequested hservice hlt hfree h
  fixes := fun _ _ h => remapSound_of_same h
  opens := fun _ _ h => remapSound_of_same h
  startsCopy := fun _ h => remapSound_of_same h
  startsRestore := fun _ _ _ h => remapSound_of_same h
  startsStock := fun _ h => remapSound_of_same h
  closes := id
  passAsked := fun _ _ h => remapSound_of_same h (spare_of_beyondMoves (setPass_beyondMoves _ _ _))
  rx := fun _ h => remapSound_of_same h
  discards := fun h => remapSound_of_same h
  loads := fun _ _ h => remapSound_of_same h
  restages := fun _ _ h => remapSound_of_same h
  installsConfig := fun _ _ _ _ h => remapSound_of_same h
  installsHold := fun _ _ _ _ _ _ h => remapSound_of_same h
  clearRequested := fun _ _ h => remapSound_of_same h
  setsParam := fun hc hp h =>
    have hnone := retire_none_of_config h hc
    remapSound_of_noRetire (remapAfter_fits hp h.1) hnone
  loadsRemap := fun hc hl h =>
    have hnone := retire_none_of_config h hc
    have ⟨_, _, _, hcount, _⟩ := h.1
    remapSound_of_noRetire (remapFits_of_remapOf hcount hl) hnone
  starts := fun _ _ h => remapSound_outsideConfig h nofun
  holds := fun _ h => remapSound_outsideConfig h nofun
  releases := fun _ h => remapSound_outsideConfig h nofun
  reinits := fun hst _ hmli h => reinitialise_remapSound hst hmli h
  resets := (core_remapSound State.reset).mpr reset_remapSound

end

/-- R151, R152: every step keeps the remap table and a retire copy's target sound. -/
theorem step_keeps_remapSound {s t : State} (hs : s.remapSound) (hstep : step s = .next t) : t.remapSound :=
  (core_remapSound t).mp (remap_steady.step_keeps ((core_remapSound s).mpr hs) hstep)

end Sys2Proof.Machine
end

section
/-! PROOFS. The region table, the staged fields and the parameters stay in range, and the table valid outside CONFIG (R21, R25, R34, R36,
R174, R177). -/
namespace Sys2Proof.Machine

/-! ### The parameters (R174) -/

theorem clampBurst_range (v : Nat) : 1 ≤ clampBurst v ∧ clampBurst v ≤ 32 := by
  rw [clampBurst_eq]
  omega

theorem clampTimeout_range {v : Nat} (h : v ≤ 255) : 1 ≤ clampTimeout v ∧ clampTimeout v ≤ 255 := by
  rw [clampTimeout_eq]
  omega

theorem set_inRange {p q : Params} {sel v : Nat} (h : p.set sel v = some q) (hp : p.inRange) : q.inRange := by
  obtain ⟨he1, he2, hbase, hcount, hmarker, hb1, hb2, hscrub, ht1, ht2, hdeadline⟩ := hp
  rcases set_cases h with ⟨hlo, hhi, rfl⟩ | ⟨hv, rfl⟩ | ⟨hv, rfl⟩ | ⟨hv, rfl⟩ | ⟨m, rfl⟩ | rfl | ⟨hv, rfl⟩ | ⟨hv, rfl⟩ | ⟨hv, rfl⟩
  · exact ⟨hlo, hhi, hbase, hcount, hmarker, hb1, hb2, hscrub, ht1, ht2, hdeadline⟩
  · exact ⟨he1, he2, hv, hcount, hmarker, hb1, hb2, hscrub, ht1, ht2, hdeadline⟩
  · exact ⟨he1, he2, hbase, hv, hmarker, hb1, hb2, hscrub, ht1, ht2, hdeadline⟩
  · exact ⟨he1, he2, hbase, hcount, hv, hb1, hb2, hscrub, ht1, ht2, hdeadline⟩
  · exact ⟨he1, he2, hbase, hcount, hmarker, hb1, hb2, hscrub, ht1, ht2, hdeadline⟩
  · obtain ⟨hlo, hhi⟩ := clampBurst_range v
    exact ⟨he1, he2, hbase, hcount, hmarker, hlo, hhi, hscrub, ht1, ht2, hdeadline⟩
  · exact ⟨he1, he2, hbase, hcount, hmarker, hb1, hb2, hv, ht1, ht2, hdeadline⟩
  · obtain ⟨hlo, hhi⟩ := clampTimeout_range hv
    exact ⟨he1, he2, hbase, hcount, hmarker, hb1, hb2, hscrub, hlo, hhi, hdeadline⟩
  · exact ⟨he1, he2, hbase, hcount, hmarker, hb1, hb2, hscrub, ht1, ht2, hv⟩

/-! ### The staged fields and the descriptors (R21, R25, R28) -/

/-- The fields staged before field n are in the ranges of R21. -/
def stagedFits (n : Nat) (g : Staging) : Prop :=
  (1 < n → g.base ≤ 32767) ∧ (2 < n → 1 ≤ g.span ∧ g.span ≤ 4096) ∧ (3 < n → 1 ≤ g.len ∧ g.len ≤ g.span) ∧
  (5 < n → g.key ≤ 65520)

theorem loadField_shadow {g g' : Staging} {v : Unit16} (h : loadField g 7 v = some g') :
    v.toNat ≤ 32767 ∧ g' = { g with shadow := v.toNat } := by
  unfold loadField at h
  dsimp only at h
  split at h
  · next hv => exact ⟨hv, (Option.some.inj h).symm⟩
  · cases h

theorem stagedFits_loadField {g g' : Staging} {p : Fin 8} {v : Unit16} (h : loadField g p v = some g') (hp : p ≠ 7)
    (hs : stagedFits p.val g) : stagedFits (p + 1).val g' := by
  have hif {c : Prop} [Decidable c] {x y : Staging} (hx : (if c then some x else none) = some y) : c ∧ y = x := by
    split at hx
    · next hc => exact ⟨hc, (Option.some.inj hx).symm⟩
    · cases hx
  obtain ⟨hbase, hspan, hlen, hkey⟩ := hs
  match p with
  | 0 => exact ⟨nofun, nofun, nofun, nofun⟩
  | 1 =>
    obtain ⟨hv, rfl⟩ := hif h
    exact ⟨fun _ => hv, nofun, nofun, nofun⟩
  | 2 =>
    obtain ⟨hv, rfl⟩ := hif h
    exact ⟨fun _ => hbase (by decide), fun _ => hv, nofun, nofun⟩
  | 3 =>
    obtain ⟨hv, rfl⟩ := hif h
    exact ⟨fun _ => hbase (by decide), fun _ => hspan (by decide), fun _ => hv, nofun⟩
  | 4 =>
    obtain ⟨c, -, rfl⟩ := Option.map_eq_some_iff.mp h
    exact ⟨fun _ => hbase (by decide), fun _ => hspan (by decide), fun _ => hlen (by decide), nofun⟩
  | 5 =>
    obtain ⟨hv, rfl⟩ := hif h
    exact ⟨fun _ => hbase (by decide), fun _ => hspan (by decide), fun _ => hlen (by decide), fun _ => hv⟩
  | 6 =>
    obtain ⟨a, -, rfl⟩ := Option.map_eq_some_iff.mp h
    exact ⟨fun _ => hbase (by decide), fun _ => hspan (by decide), fun _ => hlen (by decide), fun _ => hkey (by decide)⟩
  | 7 => exact absurd rfl hp

theorem clampAttrs_idem (c : RegionClass) (a : Attrs) : clampAttrs c (clampAttrs c a) = clampAttrs c a := by
  simp [clampAttrs]

theorem toDescriptor_inRange {g : Staging} (hs : stagedFits 7 g) (hshadow : g.shadow ≤ 32767) : g.toDescriptor.inRange := by
  obtain ⟨hbase, hspan, hlen, hkey⟩ := hs
  obtain ⟨hspan1, hspan2⟩ := hspan (by omega)
  obtain ⟨hlen1, hlen2⟩ := hlen (by omega)
  refine ⟨hbase (by omega), hspan1, hspan2, hlen1, hlen2, hkey (by omega), clampAttrs_idem g.cls g.attrs, ?_, ?_⟩
  · show (if _ then _ else _ : Option Nat).isSome = (clampAttrs g.cls g.attrs).checkpoint
    cases (clampAttrs g.cls g.attrs).checkpoint <;> rfl
  · intro sb hsb
    have hsome : (if (clampAttrs g.cls g.attrs).checkpoint = true then some g.shadow else none) = some sb := hsb
    split at hsome
    · exact Option.some.inj hsome ▸ hshadow
    · cases hsome

/-- Every descriptor of a table is in range. -/
def Table.inRange (t : Table) : Prop := ∀ r : Region, ∀ d ∈ t.get r, Descriptor.inRange d

theorem put_inRange {t : Table} {new : Option Descriptor} (ht : t.inRange) (hnew : ∀ d ∈ new, d.inRange) (r : Region) :
    (t.put r new).inRange := by
  intro r' d hd
  by_cases hr : r' = r
  · subst hr
    exact hnew d (put_get_same t r' new ▸ hd)
  · exact ht r' d (put_get_other hr t new ▸ hd)

/-! ### The invariant -/

/-- What the invariant on the region table says of what it reads. -/
def Core.tableSound (c : Core) : Prop :=
  c.table.inRange ∧ stagedFits c.field.val c.staging ∧ c.params.inRange ∧ c.tag = layoutTagOf c.table ∧
  (c.control ≠ .config → validateTable c.table c.params = none) ∧
  (c.txe.clear.map (·.atStart) = some true → c.control = .init)

/-- A START clear is made in INIT alone. -/
theorem startClear_iff {x : Option ClearOp} {p : Prop} :
    (x.map (·.atStart) = some true → p) ↔ ∀ o ∈ x, o.atStart = true → p := by
  cases x with
  | none => exact ⟨fun _ => nofun, fun _ => nofun⟩
  | some o =>
    simp only [Option.map_some, Option.some.injEq, Option.mem_def]
    exact ⟨fun h o' he ha => h (he ▸ ha), fun h ha => h o rfl ha⟩

theorem core_tableSound (s : State) : s.core.tableSound ↔ s.tableSound := by
  unfold Core.tableSound State.tableSound
  rw [startClear_iff]
  exact Iff.rfl

theorem stagedFits_empty : stagedFits (0 : Fin 8).val Staging.empty := ⟨nofun, nofun, nofun, nofun⟩

section
variable {c : Core}

/-- The invariant reads the region table and its staging, the parameters, the clear and the control state alone. -/
theorem tableSound_of_same {d : Core} (h : c.tableSound)
    (hx : d.txe.clear.map (·.atStart) = c.txe.clear.map (·.atStart) := by rfl) (ht : d.table = c.table := by rfl)
    (hf : d.field = c.field := by rfl) (hg : d.staging = c.staging := by rfl) (hp : d.params = c.params := by rfl)
    (htag : d.tag = c.tag := by rfl) (hc : d.control = c.control := by rfl) : d.tableSound := by
  rwa [Core.tableSound, hx, ht, hf, hg, hp, htag, hc]

theorem init_of_startClear (h : c.tableSound) (hx : c.txe.clear.map (·.atStart) = some true) : c.control = .init :=
  have ⟨_, _, _, _, _, hstart⟩ := h
  hstart hx

/-- In RUN or HOLD there is no START clear. -/
theorem noStartClear (h : c.tableSound) (hc : c.control ≠ .init) : c.txe.clear.map (·.atStart) ≠ some true :=
  fun hs => hc (init_of_startClear h hs)

/-- The clear may become one that is not START's. -/
theorem tableSound_of_clear {x : Txe} (h : c.tableSound) (hx : x.clear.map (·.atStart) = some true → c.control = .init) :
    ({ c with txe := x } : Core).tableSound :=
  have ⟨ht, hs, hp, htag, hv, _⟩ := h
  ⟨ht, hs, hp, htag, hv, hx⟩

/-- The control state may change outside CONFIG, where no START clear is left behind. -/
theorem tableSound_of_control {x : Txe} {k : Ckc} {y : Control} (h : c.tableSound) (hc : c.control ≠ .config)
    (hx : x.clear.map (·.atStart) ≠ some true) : ({ c with txe := x, control := y, ckc := k } : Core).tableSound :=
  have ⟨ht, hs, hp, htag, hv, _⟩ := h
  ⟨ht, hs, hp, htag, fun _ => hv hc, fun hx' => absurd hx' hx⟩

theorem table_common : Common Core.tableSound (fun _ => True) where
  stock := fun _ h => tableSound_of_same h
  sheet := fun _ h => tableSound_of_same h
  enter := fun _ _ h => tableSound_of_same h
  leave := fun _ h => tableSound_of_same h
  marker := fun _ h => tableSound_of_same h
  unscrub := fun h => tableSound_of_same h
  dirty := fun _ _ _ _ _ h => tableSound_of_same h

theorem tableSound_clearSlot {o : ClearOp} {x : Option ClearOp} (ho : c.txe.clear = some o)
    (hx : ∀ o' ∈ x, o'.atStart = o.atStart) (h : c.tableSound) :
    ({ c with txe := { c.txe with clear := x } } : Core).tableSound := by
  refine tableSound_of_clear h fun hs => init_of_startClear h ?_
  obtain ⟨o', ho', hat⟩ := Option.map_eq_some_iff.mp hs
  rw [ho, Option.map_some, ← hx o' ho', hat]

/-- The START clear ends in INIT, and leaves none. -/
theorem tableSound_startDone {o : ClearOp} (ho : c.txe.clear = some o) (hat : o.atStart = true) (h : c.tableSound)
    (k : Ckc) : ({ c with txe := { c.txe with clear := none }, control := .run, ckc := k } : Core).tableSound := by
  have hinit : c.control = .init := init_of_startClear h (by rw [ho, Option.map_some, hat])
  exact tableSound_of_control h (by rw [hinit]; nofun) nofun

theorem table_engine : Engine Core.tableSound Core.tableSound (fun _ => True) where
  sound := table_common
  loose := table_common
  loosen := id
  works := fun _ _ => trivial
  activate := fun _ h => tableSound_of_same h (atStart_of_beyondMoves (activate_beyondMoves _ _))
  passTakes := fun _ _ h => tableSound_of_same h (atStart_of_beyondMoves (setPass_beyondMoves _ _ _))
  passEnds := fun h => tableSound_of_same h (atStart_of_beyondMoves (setPass_beyondMoves _ _ _))
  selected := fun _ _ _ h => h
  idles := fun _ h => tableSound_of_same h
  line := fun _ h => tableSound_of_same h
  moveOffset := fun h => tableSound_of_same h (atStart_of_beyondMoves (setMoveOffset_beyondMoves _ _))
  retireOffset := fun _ h => tableSound_of_same h
  dropped := fun h => tableSound_of_same h (atStart_of_beyondMoves (dropPriority_beyondMoves _))
  broken := fun _ h => tableSound_of_same h
  passBroken := fun _ h => tableSound_of_same h
    (atStart_of_beyondMoves ((recalled_beyondMoves _ _ _).trans (staled_beyondMoves _ _ _)))
  moved := fun _ h => tableSound_of_same h
    (atStart_of_beyondMoves ((staled_beyondMoves _ _ _).trans (dropPriority_beyondMoves _)))
  unretired := fun h => tableSound_of_same h
  remapped := fun _ h => tableSound_of_same h
  scrubSlot := fun _ h => tableSound_of_same h
  readSlot := fun _ h => tableSound_of_same h
  clearSlot := fun ho hx h => tableSound_clearSlot ho hx h
  startDone := fun ho hat h => tableSound_startDone ho hat h _
  verdictWritten := fun _ _ h => tableSound_of_same h

/-- What an installation puts into the table is in range. -/
theorem installs_inRange {new : Option Descriptor} (hs : stagedFits c.field.val c.staging) (h : c.installs new) :
    ∀ d ∈ new, d.inRange := by
  rcases h with rfl | ⟨v, g, h7, hg, rfl⟩
  · nofun
  · intro d hd
    obtain rfl := Option.some.inj hd
    obtain ⟨hv, rfl⟩ := loadField_shadow hg
    rw [h7] at hs
    exact toDescriptor_inRange hs hv

theorem tableSound_installs {new : Option Descriptor} {k : Ckc} (r : Region) (hnew : c.installs new) (h : c.tableSound)
    (hv : c.control ≠ .config → validateTable (c.table.put r new) c.params = none) :
    ({ c with
      table := c.table.put r new, tag := layoutTagOf (c.table.put r new), field := 0, staging := Staging.empty
      ckc := k } : Core).tableSound :=
  have ⟨ht, hs, hp, _, _, hx⟩ := h
  ⟨put_inRange ht (installs_inRange hs hnew) r, stagedFits_empty, hp, rfl, hv, hx⟩

theorem tableSound_staged {n : Fin 8} {g : Staging} (hg : stagedFits n.val g) (h : c.tableSound) :
    ({ c with staging := g, field := n } : Core).tableSound :=
  have ⟨ht, _, hp, htag, hv, hx⟩ := h
  ⟨ht, hg, hp, htag, hv, hx⟩

theorem tableSound_restaged {v : Unit16} {g : Staging} (hg : loadField c.staging c.field v = some g) (h7 : c.field = 7)
    (h : c.tableSound) : ({ c with staging := g } : Core).tableSound := by
  obtain ⟨-, rfl⟩ := loadField_shadow (h7 ▸ hg)
  exact tableSound_staged (n := c.field) h.2.1 h

theorem tableSound_setsParam {sel v : Nat} {p : Params} {l : List RemapEntry} (hc : c.control = .config)
    (hp : c.params.set sel v = some p) (h : c.tableSound) : ({ c with params := p, remap := l } : Core).tableSound :=
  have ⟨ht, hs, hparams, htag, _, hx⟩ := h
  ⟨ht, hs, set_inRange hp hparams, htag, fun hc' => absurd hc hc', hx⟩

theorem tableSound_starts {o : Option Nat} {x : Option ClearOp} (hvalid : validateTable c.table c.params = none)
    (h : c.tableSound) :
    ({ c with
      tag := layoutTagOf c.table, scrubTimer := o, txe := { c.txe with clear := x }, control := .init } : Core).tableSound :=
  have ⟨ht, hs, hp, _, _, _⟩ := h
  ⟨ht, hs, hp, rfl, fun _ => hvalid, fun _ => rfl⟩

/-- A REINIT keeps the table and the parameters, and empties the staging descriptor and the engine. -/
theorem reinitialise_tableSound {s t : State} (hout : t.outside = s.outside) (hmli : t.mli = s.mli)
    (h : s.core.tableSound) : t.reinitialise.core.tableSound := by
  have hrgd : t.rgd = s.rgd := congrArg Prod.fst hout
  obtain ⟨ht, -, hp, htag, -, -⟩ := h
  refine ⟨?_, stagedFits_empty, ?_, ?_, fun hc => absurd rfl hc, nofun⟩
  · show t.rgd.table.inRange
    rw [hrgd]
    exact ht
  · show t.mli.params.inRange
    rw [hmli]
    exact hp
  · show t.rgd.layoutTag = layoutTagOf t.rgd.table
    rw [hrgd]
    exact htag

theorem table_steady : Steady Core.tableSound Core.tableSound (fun _ => Core.tableSound) (fun _ => True) where
  engine := table_engine
  priority := fun _ _ _ h => tableSound_of_same h
  scrubRequested := fun _ h => tableSound_of_same h
  readRequested := fun _ h => tableSound_of_same h
  retireRequested := fun _ _ _ h => tableSound_of_same h
  fixes := fun _ _ h => tableSound_of_same h
  opens := fun _ _ h => tableSound_of_same h
  startsCopy := fun _ h => tableSound_of_same h
  startsRestore := fun _ _ _ h => tableSound_of_same h
  startsStock := fun _ h => tableSound_of_same h
  closes := id
  passAsked := fun _ _ h => tableSound_of_same h (atStart_of_beyondMoves (setPass_beyondMoves _ _ _))
  rx := fun _ h => tableSound_of_same h
  discards := fun h => tableSound_staged stagedFits_empty h
  loads := fun hg h7 h => tableSound_staged (stagedFits_loadField hg h7 h.2.1) h
  restages := fun hg h7 h => tableSound_restaged hg h7 h
  installsConfig := fun r _ hc hnew h => tableSound_installs r hnew h fun hc' => absurd hc hc'
  installsHold := fun r _ _ _ hnew hv h => tableSound_installs r hnew h fun _ => hv
  clearRequested := fun _ hat h => tableSound_of_clear h fun hx => nomatch hat.symm.trans (Option.some.inj hx)
  setsParam := fun hc hp h => tableSound_setsParam hc hp h
  loadsRemap := fun _ _ h => tableSound_of_same h
  starts := fun _ hv h => tableSound_starts hv h
  holds := fun hc h => tableSound_of_control h (by rw [hc]; nofun) (noStartClear h (by rw [hc]; nofun))
  releases := fun hc h => tableSound_of_control h (by rw [hc]; nofun) (noStartClear h (by rw [hc]; nofun))
  reinits := fun _ hout hmli h => reinitialise_tableSound hout hmli h
  resets := (core_tableSound State.reset).mpr reset_tableSound

end

/-- R21, R25, R34, R36, R174, R177: every step keeps the region table, the staged fields and the parameters sound. -/
theorem step_keeps_tableSound {s t : State} (hs : s.tableSound) (hstep : step s = .next t) : t.tableSound :=
  (core_tableSound t).mp (table_steady.step_keeps ((core_tableSound s).mpr hs) hstep)

end Sys2Proof.Machine
end

section
/-! PROOFS. The sets D, S and R bound to the checkpoint states, and what keeps them bound (R81, R82, R86, R89, R93, R101, R106, R111). -/
namespace Sys2Proof.Machine

/-! ### Ascending sets -/

theorem add_pairwise {b : Nat} {xs : BlockSet} (h : xs.Pairwise (· < ·)) : (BlockSet.add b xs).Pairwise (· < ·) := by
  induction xs with
  | nil => exact List.pairwise_singleton _ _
  | cons y t ih =>
    obtain ⟨hy, ht⟩ := List.pairwise_cons.mp h
    unfold BlockSet.add
    split
    · next hlt =>
      exact List.pairwise_cons.mpr ⟨fun x hx => (List.mem_cons.mp hx).elim (· ▸ hlt) fun hx => hlt.trans (hy x hx), h⟩
    · next hge =>
      split
      · exact h
      · next hne =>
        refine List.pairwise_cons.mpr ⟨fun x hx => ?_, ih ht⟩
        rcases mem_add.mp hx with rfl | hx
        · omega
        · exact hy x hx

theorem addAll_pairwise {bs : List Nat} {xs : BlockSet} (h : xs.Pairwise (· < ·)) :
    (BlockSet.addAll bs xs).Pairwise (· < ·) := by
  induction bs generalizing xs with
  | nil => exact h
  | cons b bs ih => exact ih (add_pairwise h)

/-! ### The binding (R81, R82) -/

/-- The block is an authorised block of a present region that carries CHECKPOINT and is in such a checkpoint state. -/
def placedIn (v : Vector CkState 16) (t : Table) (b : Nat) (p : CkState → Bool) : Prop :=
  ∃ r : Region, ∃ d ∈ t.get r, d.attrs.checkpoint = true ∧ d.authorised b = true ∧ p (v.get r) = true

/-- No pass of this move is in flight (R96). -/
def Ckc.idleOf (k : Ckc) (m : Move) : Prop := ∀ r : Region, k.ckState.get r ≠ m.inFlight

/-- The binding of the sets to the checkpoint states. -/
structure Ckc.Bound (k : Ckc) (t : Table) : Prop where
  dirtyOrdered : k.dirty.Pairwise (· < ·)
  passOrdered : k.pass.Pairwise (· < ·)
  restoreOrdered : k.restore.Pairwise (· < ·)
  dirtyPlaced : ∀ b ∈ k.dirty, placedIn k.ckState t b (· != .none)
  passPlaced : ∀ b ∈ k.pass, placedIn k.ckState t b (· == .copying)
  restorePlaced : ∀ b ∈ k.restore, b ∈ k.dirty ∧ placedIn k.ckState t b (· == .restoring)
  hasState : ∀ r : Region, hasAttr (·.checkpoint) t r = true → k.ckState.get r ≠ .none
  oneMove : k.idleOf .copy ∨ k.idleOf .restore

theorem quiet_iff {k : Ckc} : k.quiet ↔ k.idleOf .copy ∧ k.idleOf .restore :=
  ⟨fun h => ⟨fun r => h r .copy, fun r => h r .restore⟩, fun h r m => by cases m; exact h.1 r; exact h.2 r⟩

/-- After one entry's state is set, a property of all states has to be known of the new one alone. -/
theorem setState_forall {k : Ckc} {r : Region} {x : CkState} {p : Region → CkState → Prop} (hx : p r x)
    (h : ∀ r' ≠ r, p r' (k.ckState.get r')) (r' : Region) : p r' ((k.setState r x).ckState.get r') := by
  by_cases hr : r' = r
  · subst hr
    rwa [setState_get_same]
  · rw [setState_get_other hr]
    exact h r' hr

theorem hasState_setState {k : Ckc} {t : Table} {r : Region} {x : CkState} (hx : x ≠ .none)
    (h : ∀ r : Region, hasAttr (·.checkpoint) t r = true → k.ckState.get r ≠ .none) :
    ∀ r' : Region, hasAttr (·.checkpoint) t r' = true → (k.setState r x).ckState.get r' ≠ .none :=
  setState_forall (p := fun r' y => hasAttr (·.checkpoint) t r' = true → y ≠ .none) (fun _ => hx) fun r' _ => h r'

/-- A block stays placed where the state set is of the kind, or the entry does not place it. -/
theorem placedIn_set {v : Vector CkState 16} {t : Table} {b : Nat} {p p' : CkState → Bool} {r : Region} {x : CkState}
    (h : placedIn v t b p) (hp : ∀ y, p y = true → p' y = true)
    (hx : ∀ d, t.get r = some d → d.authorised b = true → p (v.get r) = true → p' x = true) :
    placedIn (v.set r x) t b p' := by
  obtain ⟨r', d, hd, hck, hauth, hr'⟩ := h
  refine ⟨r', d, hd, hck, hauth, ?_⟩
  by_cases hr : r' = r
  · subst hr
    rw [show (v.set r' x).get r' = x from Vector.getElem_set_self _]
    exact hx d hd hauth hr'
  · rw [show (v.set r x).get r' = v.get r' from Vector.getElem_set_ne _ _ fun hc => hr (Fin.ext hc.symm)]
    exact hp _ hr'

theorem setState_idleOf {k : Ckc} {r : Region} {x : CkState} {m : Move} (hx : x ≠ m.inFlight) (h : k.idleOf m) :
    (k.setState r x).idleOf m :=
  setState_forall (p := fun _ y => y ≠ m.inFlight) hx fun r' _ => h r'

section
variable {k : Ckc} {t : Table}

theorem Ckc.Bound.inFlight_of_mem (h : k.Bound t) {m : Move} {b : Nat} (hb : b ∈ k.setOf m) :
    ∃ r : Region, k.ckState.get r = m.inFlight := by
  cases m with
  | copy =>
    obtain ⟨r, -, -, -, -, hr⟩ := h.passPlaced b hb
    exact ⟨r, eq_of_beq hr⟩
  | restore =>
    obtain ⟨r, -, -, -, -, hr⟩ := (h.restorePlaced b hb).2
    exact ⟨r, eq_of_beq hr⟩

/-- Without a pass in flight its set is empty. -/
theorem Ckc.Bound.setOf_nil (h : k.Bound t) {m : Move} (hm : k.idleOf m) : k.setOf m = [] :=
  List.eq_nil_iff_forall_not_mem.mpr fun _ hb => (h.inFlight_of_mem hb).elim hm

/-- Empty sets are bound to states in which no pass is in flight. -/
theorem bound_of_empty (hd : k.dirty = []) (hp : k.pass = []) (hr : k.restore = [])
    (hstate : ∀ r : Region, hasAttr (·.checkpoint) t r = true → k.ckState.get r ≠ .none) (hq : k.quiet) : k.Bound t where
  dirtyOrdered := hd ▸ .nil
  passOrdered := hp ▸ .nil
  restoreOrdered := hr ▸ .nil
  dirtyPlaced := by simp [hd]
  passPlaced := by simp [hp]
  restorePlaced := by simp [hr]
  hasState := hstate
  oneMove := .inl (quiet_iff.mp hq).1

/-- A block joins D (R81). -/
theorem Ckc.Bound.addDirty (h : k.Bound t) {r : Region} {d : Descriptor} {b : Nat} (hd : t.get r = some d)
    (hck : d.attrs.checkpoint = true) (hb : d.authorised b = true) (hr : k.ckState.get r ≠ .none) :
    ({ k with dirty := BlockSet.add b k.dirty } : Ckc).Bound t where
  dirtyOrdered := add_pairwise h.dirtyOrdered
  passOrdered := h.passOrdered
  restoreOrdered := h.restoreOrdered
  dirtyPlaced := fun x hx => by
    rcases mem_add.mp hx with rfl | hx
    · exact ⟨r, d, hd, hck, hb, bne_iff_ne.mpr hr⟩
    · exact h.dirtyPlaced x hx
  passPlaced := h.passPlaced
  restorePlaced := fun x hx => ⟨mem_add.mpr (.inr (h.restorePlaced x hx).1), (h.restorePlaced x hx).2⟩
  hasState := h.hasState
  oneMove := h.oneMove

theorem ne_none_of_eq {x : CkState} (hx : x ≠ .none) : ∀ y : CkState, (y == x) = true → (y != .none) = true :=
  fun _ hy => bne_iff_ne.mpr (eq_of_beq hy ▸ hx)

/-- A VALID region becomes BROKEN (R113). -/
theorem Ckc.Bound.setBroken (h : k.Bound t) {r : Region} (hr : k.ckState.get r = .valid) :
    (k.setState r .broken).Bound t where
  dirtyOrdered := h.dirtyOrdered
  passOrdered := h.passOrdered
  restoreOrdered := h.restoreOrdered
  dirtyPlaced := fun b hb => placedIn_set (h.dirtyPlaced b hb) (fun _ => id) fun _ _ _ _ => rfl
  passPlaced := fun b hb => placedIn_set (h.passPlaced b hb) (fun _ => id) fun _ _ _ hc => by rw [hr] at hc; cases hc
  restorePlaced := fun b hb => ⟨(h.restorePlaced b hb).1,
    placedIn_set (h.restorePlaced b hb).2 (fun _ => id) fun _ _ _ hc => by rw [hr] at hc; cases hc⟩
  hasState := hasState_setState nofun h.hasState
  oneMove := h.oneMove.imp (setState_idleOf nofun) (setState_idleOf nofun)

theorem mem_of_outside {r : Region} {x : Nat} {xs : BlockSet} (h : x ∈ BlockSet.outside t r xs) :
    x ∈ xs ∧ ∀ d, t.get r = some d → d.authorised x = false := by
  cases hd : t.get r with
  | none =>
    rw [BlockSet.outside, hd] at h
    exact ⟨h, nofun⟩
  | some d =>
    obtain ⟨hx, hout⟩ := (mem_outside hd).mp h
    exact ⟨hx, fun d' hd' => Option.some.inj hd' ▸ hout⟩

theorem mem_of_ofRegion {r : Region} {x : Nat} {xs : BlockSet} (h : x ∈ BlockSet.ofRegion t r xs) : x ∈ xs := by
  unfold BlockSet.ofRegion at h
  split at h
  · exact List.mem_of_mem_filter h
  · cases h

/-- A region leaves its pass unfinished, and is BROKEN (R93, R111). -/
theorem Ckc.Bound.breakPass (h : k.Bound t) {m : Move} {r : Region} (hr : k.ckState.get r = m.inFlight) :
    (k.breakPass t m r).Bound t := by
  have hidle : (k.setState r .broken).idleOf .copy ∨ (k.setState r .broken).idleOf .restore :=
    h.oneMove.imp (setState_idleOf nofun) (setState_idleOf nofun)
  cases m with
  | copy => exact {
      dirtyOrdered := addAll_pairwise h.dirtyOrdered
      passOrdered := outside_pairwise h.passOrdered
      restoreOrdered := h.restoreOrdered
      dirtyPlaced := fun b hb => by
        rcases mem_addAll.mp hb with hb | hb
        · exact placedIn_set (h.passPlaced b (mem_of_ofRegion hb)) (ne_none_of_eq nofun) fun _ _ _ _ => rfl
        · exact placedIn_set (h.dirtyPlaced b hb) (fun _ => id) fun _ _ _ _ => rfl
      passPlaced := fun b hb => by
        obtain ⟨hpass, hout⟩ := mem_of_outside hb
        refine placedIn_set (h.passPlaced b hpass) (fun _ => id) fun d hd hauth _ => ?_
        rw [hout d hd] at hauth
        cases hauth
      restorePlaced := fun b hb => by
        refine ⟨mem_addAll.mpr (.inr (h.restorePlaced b hb).1), ?_⟩
        refine placedIn_set (h.restorePlaced b hb).2 (fun _ => id) fun _ _ _ hc => ?_
        rw [hr] at hc
        cases hc
      hasState := hasState_setState nofun h.hasState
      oneMove := hidle }
  | restore => exact {
      dirtyOrdered := h.dirtyOrdered
      passOrdered := h.passOrdered
      restoreOrdered := outside_pairwise h.restoreOrdered
      dirtyPlaced := fun b hb => placedIn_set (h.dirtyPlaced b hb) (fun _ => id) fun _ _ _ _ => rfl
      passPlaced := fun b hb => by
        refine placedIn_set (h.passPlaced b hb) (fun _ => id) fun _ _ _ hc => ?_
        rw [hr] at hc
        cases hc
      restorePlaced := fun b hb => by
        obtain ⟨hrestore, hout⟩ := mem_of_outside hb
        refine ⟨(h.restorePlaced b hrestore).1, ?_⟩
        refine placedIn_set (h.restorePlaced b hrestore).2 (fun _ => id) fun d hd hauth _ => ?_
        rw [hout d hd] at hauth
        cases hauth
      hasState := hasState_setState nofun h.hasState
      oneMove := hidle }

/-- A block leaves its set, and from R also D (R89, R106). -/
theorem Ckc.Bound.moved (h : k.Bound t) (m : Move) (b : Nat) : (k.moved m b).Bound t := by
  cases m with
  | copy => exact { h with
      passOrdered := h.passOrdered.filter _
      passPlaced := fun x hx => h.passPlaced x (mem_remove.mp hx).1 }
  | restore =>
    unfold Ckc.moved
    dsimp only
    split
    · exact { h with
        dirtyOrdered := h.dirtyOrdered.filter _
        restoreOrdered := h.restoreOrdered.filter _
        dirtyPlaced := fun x hx => h.dirtyPlaced x (mem_remove.mp hx).1
        restorePlaced := fun x hx => by
          obtain ⟨hrestore, hne⟩ := mem_remove.mp hx
          exact ⟨mem_remove.mpr ⟨(h.restorePlaced x hrestore).1, hne⟩, (h.restorePlaced x hrestore).2⟩ }
    · exact h

/-- A region in flight with no block left in the set becomes VALID (R89, R106). -/
theorem Ckc.Bound.setValid (h : k.Bound t) {m : Move} {r : Region} (hr : k.ckState.get r = m.inFlight)
    (hnone : BlockSet.ofRegion t r (k.setOf m) = []) : (k.setState r .valid).Bound t := by
  have hleft {b : Nat} {d : Descriptor} (hb : b ∈ k.setOf m) (hd : t.get r = some d) : d.authorised b = false := by
    by_contra hauth
    have hmem := (mem_ofRegion hd).mpr ⟨hb, Bool.not_eq_false _ ▸ hauth⟩
    rw [hnone] at hmem
    cases hmem
  exact {
    dirtyOrdered := h.dirtyOrdered
    passOrdered := h.passOrdered
    restoreOrdered := h.restoreOrdered
    dirtyPlaced := fun b hb => placedIn_set (h.dirtyPlaced b hb) (fun _ => id) fun _ _ _ _ => rfl
    passPlaced := fun b hb => by
      refine placedIn_set (h.passPlaced b hb) (fun _ => id) fun d hd hauth hc => ?_
      cases m with
      | copy => rw [hleft hb hd] at hauth; cases hauth
      | restore => rw [hr] at hc; cases hc
    restorePlaced := fun b hb => by
      refine ⟨(h.restorePlaced b hb).1, placedIn_set (h.restorePlaced b hb).2 (fun _ => id) fun d hd hauth hc => ?_⟩
      cases m with
      | copy => rw [hr] at hc; cases hc
      | restore => rw [hleft hb hd] at hauth; cases hauth
    hasState := hasState_setState nofun h.hasState
    oneMove := h.oneMove.imp (setState_idleOf nofun) (setState_idleOf nofun) }

theorem Ckc.Bound.blockMoved (h : k.Bound t) (m : Move) (r : Region) (b : Nat) : (k.blockMoved t m r b).Bound t := by
  unfold Ckc.blockMoved
  split
  · next hc =>
    simp only [Bool.and_eq_true, decide_eq_true_eq, beq_iff_eq] at hc
    exact (h.moved m b).setValid hc.2 hc.1.2
  · exact h.moved m b

/-! ### Passes started, and descriptors installed (R37 to R39, R86, R101) -/

/-- Blocks of a region enter S from D, and the region is COPYING. -/
theorem Ckc.Bound.entersCopy (h : k.Bound t) (hi : k.idleOf .restore) {r : Region} {d : Descriptor} (hd : t.get r = some d)
    (hck : d.attrs.checkpoint = true) {ys : List Nat} (hys : ∀ b ∈ ys, d.authorised b = true) (p : Nat → Bool) :
    (Ckc.setState { k with pass := BlockSet.addAll ys k.pass, dirty := k.dirty.filter p } r .copying).Bound t where
  dirtyOrdered := h.dirtyOrdered.filter _
  passOrdered := addAll_pairwise h.passOrdered
  restoreOrdered := h.restoreOrdered
  dirtyPlaced := fun b hb =>
    placedIn_set (h.dirtyPlaced b (List.mem_of_mem_filter hb)) (fun _ => id) fun _ _ _ _ => rfl
  passPlaced := fun b hb => by
    rcases mem_addAll.mp hb with hb | hb
    · exact ⟨r, d, hd, hck, hys b hb, beq_iff_eq.mpr (setState_get_same k r .copying)⟩
    · exact placedIn_set (h.passPlaced b hb) (fun _ => id) fun _ _ _ _ => rfl
  restorePlaced := fun b hb => by
    have hnil : k.restore = [] := h.setOf_nil (m := .restore) hi
    have hmem : b ∈ k.restore := hb
    rw [hnil] at hmem
    cases hmem
  hasState := hasState_setState nofun h.hasState
  oneMove := .inr (setState_idleOf nofun hi)

theorem Ckc.Bound.startCopy (h : k.Bound t) (hi : k.idleOf .restore) (r : Region) :
    (k.startCopy t r).Bound t ∧ (k.startCopy t r).idleOf .restore := by
  unfold Ckc.startCopy
  split
  · next d hd =>
    split
    · next hck =>
      split
      · split
        · exact ⟨h, hi⟩
        · exact ⟨h.entersCopy hi hd hck (fun b hb => List.of_mem_filter hb) _, setState_idleOf nofun hi⟩
      · exact ⟨h.entersCopy hi hd hck (fun b hb => mem_authorised_range.mp hb) _, setState_idleOf nofun hi⟩
      · exact ⟨h, hi⟩
    · exact ⟨h, hi⟩
  · exact ⟨h, hi⟩

/-- Blocks of D in a region enter R, and the region is RESTORING. -/
theorem Ckc.Bound.startRestore (h : k.Bound t) (hi : k.idleOf .copy) {r : Region} {d : Descriptor} (hd : t.get r = some d)
    (hck : d.attrs.checkpoint = true) :
    (Ckc.setState { k with
      restore := BlockSet.addAll (k.dirty.filter d.authorised) k.restore } r .restoring).Bound t where
  dirtyOrdered := h.dirtyOrdered
  passOrdered := h.passOrdered
  restoreOrdered := addAll_pairwise h.restoreOrdered
  dirtyPlaced := fun b hb => placedIn_set (h.dirtyPlaced b hb) (fun _ => id) fun _ _ _ _ => rfl
  passPlaced := fun b hb => by
    have hnil : k.pass = [] := h.setOf_nil (m := .copy) hi
    have hmem : b ∈ k.pass := hb
    rw [hnil] at hmem
    cases hmem
  restorePlaced := fun b hb => by
    rcases mem_addAll.mp hb with hb | hb
    · obtain ⟨hdirty, hauth⟩ := List.mem_filter.mp hb
      exact ⟨hdirty, r, d, hd, hck, hauth, beq_iff_eq.mpr (setState_get_same k r .restoring)⟩
    · exact ⟨(h.restorePlaced b hb).1, placedIn_set (h.restorePlaced b hb).2 (fun _ => id) fun _ _ _ _ => rfl⟩
  hasState := hasState_setState nofun h.hasState
  oneMove := .inl (setState_idleOf nofun hi)

theorem hasAttr_iff {f : Attrs → Bool} {r : Region} : hasAttr f t r = true ↔ ∃ d, t.get r = some d ∧ f d.attrs = true := by
  unfold hasAttr
  split
  · next d hd => exact ⟨fun h => ⟨d, hd, h⟩, fun ⟨d', hd', h⟩ => Option.some.inj (hd.symm.trans hd') ▸ h⟩
  · next hd => exact ⟨nofun, fun ⟨d', hd', _⟩ => nomatch hd.symm.trans hd'⟩

theorem installedState_ne_none {d : Descriptor} (h : d.attrs.checkpoint = true) : installedState (some d) ≠ .none := by
  rw [installedState, if_pos h]
  nofun

theorem installedState_idle (new : Option Descriptor) (m : Move) : installedState new ≠ m.inFlight := by
  unfold installedState
  cases m <;>
  · split
    · split <;> nofun
    · nofun

/-- After an installation every entry with CHECKPOINT has a state (R37). -/
theorem hasState_installed (h : ∀ r : Region, hasAttr (·.checkpoint) t r = true → k.ckState.get r ≠ .none) (r : Region)
    (new : Option Descriptor) (r' : Region) (hat : hasAttr (·.checkpoint) (t.put r new) r' = true) :
    (k.setState r (installedState new)).ckState.get r' ≠ .none := by
  by_cases hr : r' = r
  · subst hr
    obtain ⟨d, hd, hck⟩ := hasAttr_iff.mp hat
    rw [put_get_same] at hd
    rw [setState_get_same, hd]
    exact installedState_ne_none hck
  · rw [setState_get_other hr]
    refine h r' ?_
    rwa [hasAttr, put_get_other hr] at hat

/-- A descriptor installed with no pass in flight, D trimmed to the blocks the table still checkpoints (R37 to R39). -/
theorem Ckc.Bound.installed (h : k.Bound t) (hq : k.quiet) (r : Region) (new : Option Descriptor) :
    (Ckc.setState { k with dirty := k.dirty.filter (checkpointed (t.put r new)) } r (installedState new)).Bound
      (t.put r new) where
  dirtyOrdered := h.dirtyOrdered.filter _
  passOrdered := h.passOrdered
  restoreOrdered := h.restoreOrdered
  dirtyPlaced := fun b hb => by
    obtain ⟨⟨r', d⟩, hfirst⟩ := Option.isSome_iff_exists.mp (List.of_mem_filter (p := checkpointed (t.put r new)) hb)
    obtain ⟨hd, hmeets⟩ := firstRegion_meets hfirst
    obtain ⟨hck, hauth⟩ := Bool.and_eq_true_iff.mp hmeets
    exact ⟨r', d, hd, hck, hauth, bne_iff_ne.mpr (hasState_installed h.hasState r new r' (hasAttr_iff.mpr ⟨d, hd, hck⟩))⟩
  passPlaced := fun b hb => by
    have hmem : b ∈ k.setOf .copy := hb
    rw [h.setOf_nil (quiet_iff.mp hq).1] at hmem
    cases hmem
  restorePlaced := fun b hb => by
    have hmem : b ∈ k.setOf .restore := hb
    rw [h.setOf_nil (quiet_iff.mp hq).2] at hmem
    cases hmem
  hasState := hasState_installed h.hasState r new
  oneMove := .inl (setState_idleOf (installedState_idle new .copy) (quiet_iff.mp hq).1)

end

end Sys2Proof.Machine
end

section
/-! PROOFS. Where the engine's work on the sets stands, and what keeps a PRIORITY_BLOCK and a pass's kept place in their set (R72, R91,
R92, R95, R109). -/
namespace Sys2Proof.Machine

/-! ### Slots -/

theorem highest_none_iff {x : Txe} : x.highest = none ↔ x.clear = none ∧ x.priority = none ∧ x.readWord = none ∧
    x.restorePass = none ∧ x.checkpointPass = none ∧ x.retire = none ∧ x.scrub = none := by
  simp [Txe.highest, ite_eq_iff]

/-- Every slot is EMPTY and no operation ACTIVE. -/
def Txe.still (x : Txe) : Prop := x.active = none ∧ x.highest = none

/-- A PRIORITY_BLOCK and a pass's kept place name blocks of their set (R72, R91, R109). -/
def Txe.placed (x : Txe) (k : Ckc) : Prop :=
  (∀ o ∈ x.priority, o.block ∈ k.setOf o.move) ∧
  ∀ m, ∀ o ∈ x.passSlot m, ∀ p ∈ o.pos, o.stale = false → p.block ∈ k.setOf m

/-- The ACTIVE pass is not on a PRIORITY_BLOCK's block nor on a place it must discard. -/
def Txe.settled (x : Txe) : Prop :=
  ∀ m : Move, x.active = some m.passKind → ∀ o ∈ x.passSlot m,
    o.stale = false ∧ ∀ p ∈ o.pos, ∀ q ∈ x.priority, q.move = m → p.block ≠ q.block

/-- A PRIORITY_BLOCK's block stands in the other slot already. -/
def priorityUnder (y x : Option PriorityOp) : Prop := ∀ o ∈ y, ∃ o' ∈ x, o'.move = o.move ∧ o'.block = o.block

/-- A pass's kept place stands in the other slot already. -/
def passUnder (y x : Option PassOp) : Prop :=
  ∀ o ∈ y, ∃ o' ∈ x, o'.stale = o.stale ∧ ∀ p ∈ o.pos, ∃ p' ∈ o'.pos, p'.block = p.block

/-- Every PRIORITY_BLOCK and every place in `y` stands in `x` already. -/
def Txe.under (y x : Txe) : Prop := priorityUnder y.priority x.priority ∧ ∀ m, passUnder (y.passSlot m) (x.passSlot m)

theorem priorityUnder_refl (x : Option PriorityOp) : priorityUnder x x := fun o ho => ⟨o, ho, rfl, rfl⟩

theorem passUnder_refl (x : Option PassOp) : passUnder x x := fun o ho => ⟨o, ho, rfl, fun p hp => ⟨p, hp, rfl⟩⟩

theorem priorityUnder_begun (x : Option PriorityOp) : priorityUnder (x.map fun o => { o with begun := true }) x :=
  fun o ho => by
    obtain ⟨o', ho', rfl⟩ := Option.map_eq_some_iff.mp ho
    exact ⟨o', ho', rfl, rfl⟩

theorem priorityUnder_offset (x : Option PriorityOp) (n : Nat) : priorityUnder (x.map fun o => { o with offset := n }) x :=
  fun o ho => by
    obtain ⟨o', ho', rfl⟩ := Option.map_eq_some_iff.mp ho
    exact ⟨o', ho', rfl, rfl⟩

theorem passUnder_begun (x : Option PassOp) : passUnder (x.map fun o => { o with begun := true }) x := fun o ho => by
  obtain ⟨o', ho', rfl⟩ := Option.map_eq_some_iff.mp ho
  exact ⟨o', ho', rfl, fun p hp => ⟨p, hp, rfl⟩⟩

theorem passUnder_offset (x : Option PassOp) (n : Nat) :
    passUnder (x.map fun o => { o with pos := o.pos.map fun p => { p with offset := n } }) x := fun o ho => by
  obtain ⟨o', ho', rfl⟩ := Option.map_eq_some_iff.mp ho
  refine ⟨o', ho', rfl, fun p hp => ?_⟩
  obtain ⟨p', hp', rfl⟩ := Option.map_eq_some_iff.mp hp
  exact ⟨p', hp', rfl⟩

section
variable {x y : Txe} {k k' : Ckc} {m : Move}

theorem under_of_slots (hp : priorityUnder y.priority x.priority := by exact priorityUnder_refl _)
    (hc : passUnder y.checkpointPass x.checkpointPass := by exact passUnder_refl _)
    (hr : passUnder y.restorePass x.restorePass := by exact passUnder_refl _) : y.under x :=
  ⟨hp, fun m => by cases m; exact hc; exact hr⟩

theorem Txe.placed.under (h : x.placed k) (hyx : y.under x) : y.placed k := by
  obtain ⟨hpriority, hpass⟩ := h
  refine ⟨fun o ho => ?_, fun m o ho p hp hstale => ?_⟩
  · obtain ⟨o', ho', hm, hb⟩ := hyx.1 o ho
    exact hm ▸ hb ▸ hpriority o' ho'
  · obtain ⟨o', ho', hsame, hplaces⟩ := hyx.2 m o ho
    obtain ⟨p', hp', hb⟩ := hplaces p hp
    exact hb ▸ hpass m o' ho' p' hp' (hsame.trans hstale)

theorem Txe.settled.under (h : x.settled) (hyx : y.under x) (ha : ∀ m : Move, y.active = some m.passKind → x.active = y.active) :
    y.settled := by
  intro m hm o ho
  obtain ⟨o', ho', hsame, hplaces⟩ := hyx.2 m o ho
  obtain ⟨hstale, hoff⟩ := h m ((ha m hm).trans hm) o' ho'
  refine ⟨hsame ▸ hstale, fun p hp q hq hqm => ?_⟩
  obtain ⟨p', hp', hb⟩ := hplaces p hp
  obtain ⟨q', hq', hqm', hqb⟩ := hyx.1 q hq
  rw [← hb, ← hqb]
  exact hoff p' hp' q' hq' (hqm'.trans hqm)

/-- Where the sets grow the places stay in them. -/
theorem Txe.placed.mono (h : x.placed k) (hk : ∀ m, ∀ b ∈ k.setOf m, b ∈ k'.setOf m) : x.placed k' :=
  ⟨fun o ho => hk _ _ (h.1 o ho), fun m o ho p hp hs => hk _ _ (h.2 m o ho p hp hs)⟩

/-! ### The slot operations -/

theorem activate_under (x : Txe) (k : EngineKind) : (x.activate k).under x := by
  cases k with
  | priorityBlock => exact under_of_slots (hp := priorityUnder_begun x.priority)
  | restorePass => exact under_of_slots (hr := passUnder_begun x.restorePass)
  | checkpointPass => exact under_of_slots (hc := passUnder_begun x.checkpointPass)
  | clear | readWord | retire | scrubBurst => exact under_of_slots

theorem setMoveOffset_under (x : Txe) (n : Nat) : (x.setMoveOffset n).under x := by
  unfold Txe.setMoveOffset
  split
  · exact under_of_slots (hp := priorityUnder_offset x.priority n)
  · exact under_of_slots (hc := passUnder_offset x.checkpointPass n)
  · exact under_of_slots (hr := passUnder_offset x.restorePass n)
  · exact under_of_slots

theorem setMoveOffset_active (x : Txe) (n : Nat) : (x.setMoveOffset n).active = x.active := by
  unfold Txe.setMoveOffset
  split <;> rfl

theorem dropPriority_under (x : Txe) : x.dropPriority.under x := by
  unfold Txe.dropPriority
  split
  · exact under_of_slots (hp := nofun)
  · exact under_of_slots

theorem setPass_none_under (x : Txe) (m : Move) : (x.setPass m none).under x := by
  cases m with
  | copy => exact under_of_slots (hc := nofun)
  | restore => exact under_of_slots (hr := nofun)

/-! ### A still engine -/

theorem setPass_none_still (h : x.still) (m : Move) : (x.setPass m none).still := by
  obtain ⟨ha, hh⟩ := h
  refine ⟨(setPass_active x m none).trans ha, ?_⟩
  rw [highest_none_iff] at hh ⊢
  obtain ⟨hclear, hpriority, hread, hrestore, hcopy, hretire, hscrub⟩ := hh
  cases m with
  | copy => exact ⟨hclear, hpriority, hread, hrestore, rfl, hretire, hscrub⟩
  | restore => exact ⟨hclear, hpriority, hread, rfl, hcopy, hretire, hscrub⟩

theorem setMoveOffset_still (h : x.still) (n : Nat) : (x.setMoveOffset n).still := by
  have he : x.setMoveOffset n = x := by
    unfold Txe.setMoveOffset
    rw [h.1]
  rwa [he]

theorem dropPriority_still (h : x.still) : x.dropPriority.still := by
  have he : x.dropPriority = x := if_neg (by rw [h.1]; nofun)
  rwa [he]

theorem unscrubbed_still (h : x.still) : x.unscrubbed.still := by
  obtain ⟨ha, hh⟩ := h
  refine ⟨by simp [Txe.unscrubbed, ha], ?_⟩
  rw [highest_none_iff] at hh ⊢
  obtain ⟨hclear, hpriority, hread, hrestore, hcopy, hretire, -⟩ := hh
  exact ⟨hclear, hpriority, hread, hrestore, hcopy, hretire, rfl⟩

theorem unretired_still (h : x.still) : x.unretired.still := by
  obtain ⟨ha, hh⟩ := h
  refine ⟨by simp [Txe.unretired, ha], ?_⟩
  rw [highest_none_iff] at hh ⊢
  obtain ⟨hclear, hpriority, hread, hrestore, hcopy, -, hscrub⟩ := hh
  exact ⟨hclear, hpriority, hread, hrestore, hcopy, rfl, hscrub⟩

/-! ### Sets that lose blocks (R72, R89, R92, R93) -/

theorem staled_priority (x : Txe) (xs : BlockSet) (m : Move) : (x.staled xs m).priority = x.priority := by
  unfold Txe.staled
  split
  · split
    · split
      · rfl
      · exact setPass_priority x m _
    · rfl
  · rfl

/-- A place that is not to be discarded was kept before, and the pass of the move keeps it in the set. -/
theorem staled_passSlot {xs : BlockSet} {m' : Move} {o : PassOp} (h : o ∈ (x.staled xs m).passSlot m')
    (hs : o.stale = false) : o ∈ x.passSlot m' ∧ (m' = m → ∀ p ∈ o.pos, p.block ∈ xs) := by
  unfold Txe.staled at h
  split at h
  · next o' ho' =>
    split at h
    · next p' hp' =>
      split at h
      · next hin =>
        refine ⟨h, fun hm p hp => ?_⟩
        subst hm
        obtain rfl := Option.some.inj (ho'.symm.trans h)
        obtain rfl := Option.some.inj (hp'.symm.trans hp)
        exact hin
      · by_cases hm : m' = m
        · subst hm
          rw [setPass_passSlot_same] at h
          obtain rfl := Option.some.inj h
          cases hs
        · rw [setPass_passSlot_other hm] at h
          exact ⟨h, fun he => absurd he hm⟩
    · next hp' =>
      refine ⟨h, fun hm p hp => ?_⟩
      subst hm
      obtain rfl := Option.some.inj (ho'.symm.trans h)
      cases hp'.symm.trans hp
  · next ho' => exact ⟨h, fun hm => by subst hm; cases ho'.symm.trans h⟩

/-- The places are of the sets after, where only the move's own set lost blocks and a PRIORITY_BLOCK is not of them. -/
theorem staled_placed (hp : ∀ o ∈ x.priority, o.block ∈ k'.setOf o.move)
    (hpass : ∀ m, ∀ o ∈ x.passSlot m, ∀ p ∈ o.pos, o.stale = false → p.block ∈ k.setOf m)
    (hother : ∀ m' ≠ m, ∀ b ∈ k.setOf m', b ∈ k'.setOf m') : (x.staled (k'.setOf m) m).placed k' := by
  refine ⟨fun o ho => hp o (staled_priority x _ m ▸ ho), fun m' o ho p hpos hs => ?_⟩
  obtain ⟨hold, hin⟩ := staled_passSlot ho hs
  by_cases hm : m' = m
  · exact hm ▸ hin hm p hpos
  · exact hother m' hm _ (hpass m' o hold p hpos hs)

theorem recalled_passSlot (x : Txe) (xs : BlockSet) (m m' : Move) : (x.recalled xs m).passSlot m' = x.passSlot m' := by
  unfold Txe.recalled
  split
  · split
    · cases m' <;> rfl
    · rfl
  · rfl

theorem recalled_priority {xs : BlockSet} {o : PriorityOp} (h : o ∈ (x.recalled xs m).priority) :
    o ∈ x.priority ∧ (o.move = m → o.block ∈ xs) := by
  unfold Txe.recalled at h
  split at h
  · next o' ho' =>
    split at h
    · cases h
    · next hstays =>
      obtain rfl := Option.some.inj (ho'.symm.trans h)
      exact ⟨ho', fun hm => by_contra fun hb => hstays ⟨hm, hb⟩⟩
  · next hnone => cases hnone.symm.trans h

end

end Sys2Proof.Machine
end

section
/-! PROOFS. The sets D, S and R, and the work on them, stay sound through every group at the port (R64, R72, R81, R82, R91, R125). -/
namespace Sys2Proof.Machine

/-! ### The invariant -/

/-- Neither CONFIG nor INIT. -/
def Core.awake (c : Core) : Prop := c.control ≠ .config ∧ c.control ≠ .init

/-- What the invariant on the sets says but for where the ACTIVE pass stands, which the next selection point sees to. -/
structure Core.SetsLoose (c : Core) : Prop where
  bound : c.ckc.Bound c.table
  placed : c.txe.placed c.ckc
  markQuiet : c.localMark ≠ none → c.ckc.quiet
  resting : c.control = .config ∨ c.control = .init → c.phase = none ∧ c.held = none ∧ c.localMark = none ∧ c.ckc.quiet
  configStill : c.control = .config → c.ckc.dirty = [] ∧ c.txe.still ∧ c.scrubTimer = none
  startClear : c.txe.clear.map (·.atStart) = some true → c.control = .init

/-- What the invariant on the sets says of what it reads. -/
def Core.setsSound (c : Core) : Prop := c.SetsLoose ∧ c.txe.settled

theorem idleOf_copy_iff {s : State} : s.copyPassInFlight = false ↔ s.ckc.idleOf .copy := noneIn_iff

theorem idleOf_restore_iff {s : State} : s.restorePassInFlight = false ↔ s.ckc.idleOf .restore := noneIn_iff

theorem phase_eq_none {s : State} : s.core.phase = none ↔ s.hbi.access = none := Option.map_eq_none_iff

theorem core_setsBound (s : State) : s.ckc.Bound s.rgd.table ↔ s.setsBound := by
  unfold State.setsBound
  rw [idleOf_copy_iff, idleOf_restore_iff]
  exact ⟨fun ⟨h1, h2, h3, h4, h5, h6, h7, h8⟩ => ⟨h1, h2, h3, h4, h5, h6, h7, h8⟩,
    fun ⟨h1, h2, h3, h4, h5, h6, h7, h8⟩ => ⟨h1, h2, h3, h4, h5, h6, h7, h8⟩⟩

theorem core_placesBound (s : State) : s.txe.placed s.ckc ∧ s.txe.settled ↔ s.placesBound := and_assoc

theorem core_setsSound (s : State) : s.core.setsSound ↔ s.setsSound := by
  have hquiet : (s.core.localMark ≠ none → s.core.ckc.quiet) ∧
      (s.core.control = .config ∨ s.core.control = .init →
        s.core.phase = none ∧ s.core.held = none ∧ s.core.localMark = none ∧ s.core.ckc.quiet) ∧
      (s.core.control = .config → s.core.ckc.dirty = [] ∧ s.core.txe.still ∧ s.core.scrubTimer = none) ∧
      (s.core.txe.clear.map (·.atStart) = some true → s.core.control = .init) ↔ s.setsQuiet := by
    unfold State.setsQuiet Txe.still
    rw [startClear_iff, passInFlight_eq_false, phase_eq_none]
    simp only [and_assoc]
    exact Iff.rfl
  unfold State.setsSound
  rw [← core_setsBound, ← core_placesBound, ← hquiet]
  constructor
  · rintro ⟨⟨hbound, hplaced, hmark, hrest, hconfig, hstart⟩, hsettled⟩
    exact ⟨hbound, ⟨hplaced, hsettled⟩, hmark, hrest, hconfig, hstart⟩
  · rintro ⟨hbound, ⟨hplaced, hsettled⟩, hmark, hrest, hconfig, hstart⟩
    exact ⟨⟨hbound, hplaced, hmark, hrest, hconfig, hstart⟩, hsettled⟩

section
variable {c d : Core}

/-! ### What it keeps of other changes -/

/-- The invariant reads the access, the table, the engine, the sets, the marker, the scrub timer and the control state alone. -/
theorem setsLoose_of_same (h : c.SetsLoose) (ht : d.table = c.table := by rfl) (hx : d.txe = c.txe := by rfl)
    (hk : d.ckc = c.ckc := by rfl) (hp : d.phase = c.phase := by rfl) (hh : d.held = c.held := by rfl)
    (hl : d.localMark = c.localMark := by rfl) (hs : d.scrubTimer = c.scrubTimer := by rfl)
    (hc : d.control = c.control := by rfl) : d.SetsLoose where
  bound := hk ▸ ht ▸ h.bound
  placed := hx ▸ hk ▸ h.placed
  markQuiet := hl ▸ hk ▸ h.markQuiet
  resting := hc ▸ hp ▸ hh ▸ hl ▸ hk ▸ h.resting
  configStill := hc ▸ hk ▸ hx ▸ hs ▸ h.configStill
  startClear := hx ▸ hc ▸ h.startClear

theorem setsSound_of_same (h : c.setsSound) (ht : d.table = c.table := by rfl) (hx : d.txe = c.txe := by rfl)
    (hk : d.ckc = c.ckc := by rfl) (hp : d.phase = c.phase := by rfl) (hh : d.held = c.held := by rfl)
    (hl : d.localMark = c.localMark := by rfl) (hs : d.scrubTimer = c.scrubTimer := by rfl)
    (hc : d.control = c.control := by rfl) : d.setsSound :=
  ⟨setsLoose_of_same h.1 ht hx hk hp hh hl hs hc, hx ▸ h.2⟩

/-- The engine alone changes. -/
theorem setsLoose_of_txe {x : Txe} (h : c.SetsLoose) (hp : x.placed c.ckc) (hs : c.txe.still → c.control = .config → x.still)
    (hx : x.clear.map (·.atStart) = c.txe.clear.map (·.atStart) := by rfl) : ({ c with txe := x } : Core).SetsLoose where
  bound := h.bound
  placed := hp
  markQuiet := h.markQuiet
  resting := h.resting
  configStill := fun hc => have ⟨hd, hstill, ht⟩ := h.configStill hc; ⟨hd, hs hstill hc, ht⟩
  startClear := fun hx' => h.startClear (hx.symm.trans hx')

/-- Outside CONFIG and INIT the binding and the places are all there is to keep, where no MARK is fixed. -/
theorem setsLoose_of_awake (ha : d.awake) (hm : d.localMark ≠ none → d.ckc.quiet) (hb : d.ckc.Bound d.table)
    (hp : d.txe.placed d.ckc) (hx : d.txe.clear.map (·.atStart) ≠ some true) : d.SetsLoose where
  bound := hb
  placed := hp
  markQuiet := hm
  resting := fun hc => hc.elim (absurd · ha.1) (absurd · ha.2)
  configStill := fun hc => absurd hc ha.1
  startClear := fun hx' => absurd hx' hx

theorem Core.SetsLoose.still (h : c.SetsLoose) (hc : c.control = .config) : c.txe.still :=
  have ⟨_, hstill, _⟩ := h.configStill hc
  hstill

theorem Core.SetsLoose.noStartClear (h : c.SetsLoose) (hc : c.awake) : c.txe.clear.map (·.atStart) ≠ some true :=
  fun hx => hc.2 (h.startClear hx)

theorem Core.SetsLoose.awake_of_mayEnter (h : c.SetsLoose) (hm : c.mayEnter) : c.awake := by
  have hrun (hc : c.control = .config ∨ c.control = .init) : c.control = .run := hm.2 (h.resting hc).1
  exact ⟨fun hc => by simp [hrun (.inl hc)] at hc, fun hc => by simp [hrun (.inr hc)] at hc⟩

theorem Core.SetsLoose.quiet_of_resting (h : c.SetsLoose) (hc : c.control = .config ∨ c.control = .init) : c.ckc.quiet :=
  have ⟨_, _, _, hquiet⟩ := h.resting hc
  hquiet

/-- A pass in flight has no MARK beside it, and is in neither CONFIG nor INIT. -/
theorem Core.SetsLoose.of_inFlight (h : c.SetsLoose) {m : Move} {r : Region} (hr : c.ckc.ckState.get r = m.inFlight) :
    c.localMark = none ∧ c.awake :=
  ⟨by_contra fun hl => h.markQuiet hl r m hr, fun hc => h.quiet_of_resting (.inl hc) r m hr,
    fun hc => h.quiet_of_resting (.inr hc) r m hr⟩

theorem still_passSlot {x : Txe} (h : x.still) (m : Move) : x.passSlot m = none := by
  obtain ⟨-, -, -, hrestore, hcopy, -, -⟩ := highest_none_iff.mp h.2
  cases m with
  | copy => exact hcopy
  | restore => exact hrestore

theorem quiet_setState {k : Ckc} (h : k.quiet) {r : Region} {x : CkState} (hx : ∀ m : Move, x ≠ m.inFlight) :
    (k.setState r x).quiet :=
  quiet_iff.mpr ⟨setState_idleOf (hx .copy) (quiet_iff.mp h).1, setState_idleOf (hx .restore) (quiet_iff.mp h).2⟩

/-! ### The shared changes -/

theorem sets_loose : Common Core.SetsLoose (· ≠ .config) where
  stock := fun _ h => setsLoose_of_same h
  sheet := fun _ h => setsLoose_of_same h
  enter := fun hm _ h =>
    have ha := h.awake_of_mayEnter hm
    setsLoose_of_awake ha h.markQuiet h.bound h.placed (h.noStartClear ha)
  leave := fun _ h => { h with resting := fun hc => ⟨rfl, (h.resting hc).2⟩ }
  marker := fun hm h =>
    have ha := h.awake_of_mayEnter hm
    setsLoose_of_awake ha h.markQuiet h.bound h.placed (h.noStartClear ha)
  unscrub := fun h => setsLoose_of_txe h (h.placed.under under_of_slots) fun hs _ => unscrubbed_still hs
  dirty := fun hw hd hck hauth hr h => { h with
    bound := h.bound.addDirty hd hck hauth hr
    placed := h.placed.mono fun m _ hb => by cases m <;> exact hb
    configStill := fun hc => absurd hc hw }

theorem active_of_unscrubbed {x : Txe} (m : Move) (h : x.unscrubbed.active = some m.passKind) :
    x.active = x.unscrubbed.active := by
  by_cases ha : x.active = some .scrubBurst
  · rw [Txe.unscrubbed, if_pos ha] at h
    cases h
  · exact (if_neg ha).symm

theorem active_of_unretired {x : Txe} (m : Move) (h : x.unretired.active = some m.passKind) :
    x.active = x.unretired.active := by
  by_cases ha : x.active = some .retire
  · rw [Txe.unretired, if_pos ha] at h
    cases h
  · exact (if_neg ha).symm

theorem sets_common : Common Core.setsSound (· ≠ .config) where
  stock := fun hf h => ⟨sets_loose.stock hf h.1, h.2⟩
  sheet := fun hf h => ⟨sets_loose.sheet hf h.1, h.2⟩
  enter := fun hm hp h => ⟨sets_loose.enter hm hp h.1, h.2⟩
  leave := fun hm h => ⟨sets_loose.leave hm h.1, h.2⟩
  marker := fun hm h => ⟨sets_loose.marker hm h.1, h.2⟩
  unscrub := fun h => ⟨sets_loose.unscrub h.1, h.2.under under_of_slots active_of_unscrubbed⟩
  dirty := fun hw hd hck hauth hr h => ⟨sets_loose.dirty hw hd hck hauth hr h.1, h.2⟩

end

end Sys2Proof.Machine
end

section
/-! PROOFS. The engine's changes keep the sets D, S and R, and the work on them, sound (R68 to R79, R89, R93, R106, R111). -/
namespace Sys2Proof.Machine

section
variable {c : Core}

/-! ### Selection points (R68) -/

/-- A pass is the highest request only beside no PRIORITY_BLOCK. -/
theorem priority_none_of_highest {x : Txe} {m : Move} (h : x.highest = some m.passKind) : x.priority = none := by
  unfold Txe.highest at h
  split at h
  · cases m <;> cases h
  · split at h
    · cases m <;> cases h
    · next hp => exact Option.not_isSome_iff_eq_none.mp hp

/-- The operation just selected stands where it may go on. -/
theorem settled_of_highest {x : Txe} {k : EngineKind} (hh : x.highest = some k) (ha : x.active = some k)
    (hn : ∀ m : Move, k = m.passKind → x.needsBlock m = false) : x.settled := by
  intro m hm o ho
  obtain rfl : k = m.passKind := Option.some.inj (ha.symm.trans hm)
  have hneeds := hn m rfl
  rw [needsBlock_of_passSlot ho, Bool.or_eq_false_iff] at hneeds
  refine ⟨hneeds.2, fun p _ q hq => ?_⟩
  rw [priority_none_of_highest hh] at hq
  cases hq

theorem placed_passTakes {x : Txe} {k : Ckc} {m : Move} {o : PassOp} {p : PassPos} (h : x.placed k)
    (hp : p.block ∈ k.setOf m) : (x.setPass m (some { o with pos := some p, stale := false })).placed k := by
  refine ⟨fun q hq => h.1 q (setPass_priority x m _ ▸ hq), fun m' o' ho' p' hp' hs => ?_⟩
  by_cases hm : m' = m
  · subst hm
    rw [setPass_passSlot_same] at ho'
    obtain rfl := Option.some.inj ho'
    obtain rfl := Option.some.inj hp'
    exact hp
  · rw [setPass_passSlot_other hm] at ho'
    exact h.2 m' o' ho' p' hp' hs

theorem sets_passTakes {m : Move} {o : PassOp} {p : PassPos} (ho : c.txe.passSlot m = some o) (hp : p.block ∈ c.ckc.setOf m)
    (h : c.SetsLoose) :
    ({ c with txe := c.txe.setPass m (some { o with pos := some p, stale := false }) } : Core).SetsLoose :=
  setsLoose_of_txe h (placed_passTakes h.placed hp) (fun hs _ => nomatch (still_passSlot hs m).symm.trans ho)
    (atStart_of_beyondMoves (setPass_beyondMoves _ _ _))

theorem sets_idles (hh : c.txe.highest = none) (h : c.SetsLoose) :
    ({ c with txe := { c.txe with active := none } } : Core).setsSound :=
  ⟨setsLoose_of_txe h (h.placed.under under_of_slots) fun _ _ => ⟨rfl, hh⟩, nofun⟩

/-! ### Passes that break off, and blocks moved (R89, R93, R106, R111) -/

theorem sets_broken {r : Region} (hr : c.ckc.ckState.get r = .valid) (h : c.SetsLoose) :
    ({ c with ckc := c.ckc.setState r .broken } : Core).SetsLoose where
  bound := h.bound.setBroken hr
  placed := h.placed.mono fun _ _ hb => (setState_setOf _ _ _ _).symm ▸ hb
  markQuiet := fun hl => quiet_setState (h.markQuiet hl) fun m => by cases m <;> nofun
  resting := fun hc =>
    have ⟨hp, hh, hl, hq⟩ := h.resting hc
    ⟨hp, hh, hl, quiet_setState hq fun m => by cases m <;> nofun⟩
  configStill := h.configStill
  startClear := h.startClear

theorem breakPass_setOf_other {k : Ckc} {t : Table} {m m' : Move} {r : Region} (hm : m' ≠ m) :
    (k.breakPass t m r).setOf m' = k.setOf m' := by
  revert hm
  cases m <;> cases m' <;> intro hm
  · exact absurd rfl hm
  · rfl
  · rfl
  · exact absurd rfl hm

theorem sets_passBroken {m : Move} {r : Region} (hr : c.ckc.ckState.get r = m.inFlight) (h : c.SetsLoose) :
    ({ c with
      ckc := c.ckc.breakPass c.table m r
      txe := (c.txe.staled ((c.ckc.breakPass c.table m r).setOf m) m).recalled
        ((c.ckc.breakPass c.table m r).setOf m) m } : Core).SetsLoose := by
  obtain ⟨hlocal, hawake⟩ := h.of_inFlight hr
  generalize hk : c.ckc.breakPass c.table m r = k
  have hother : ∀ m' ≠ m, ∀ b ∈ c.ckc.setOf m', b ∈ k.setOf m' := fun m' hm b hb => by
    rw [← hk, breakPass_setOf_other hm]
    exact hb
  refine setsLoose_of_awake hawake (fun hl => absurd hlocal hl) (hk ▸ h.bound.breakPass hr) ⟨fun o ho => ?_, ?_⟩ ?_
  · obtain ⟨hold, hin⟩ := recalled_priority ho
    rw [staled_priority] at hold
    by_cases hm : o.move = m
    · exact hm ▸ hin hm
    · exact hother _ hm _ (h.placed.1 o hold)
  · intro m' o ho p hp hs
    rw [recalled_passSlot] at ho
    obtain ⟨hold, hin⟩ := staled_passSlot ho hs
    by_cases hm : m' = m
    · exact hm ▸ hin hm p hp
    · exact hother m' hm _ (h.placed.2 m' o hold p hp hs)
  · show ((c.txe.staled (k.setOf m) m).recalled (k.setOf m) m).clear.map (·.atStart) ≠ some true
    rw [atStart_of_beyondMoves ((recalled_beyondMoves _ _ _).trans (staled_beyondMoves _ _ _))]
    exact h.noStartClear hawake

/-- The block of the move in hand is of its set. -/
theorem mem_of_movesBlock {x : Txe} {k : Ckc} {m : Move} {b : Nat} (hp : x.placed k) (hs : x.settled)
    (hb : x.movesBlock m b) : b ∈ k.setOf m := by
  rcases hb with ⟨-, o, ho, rfl, rfl⟩ | ⟨ha, o, p, ho, hpos, rfl⟩
  · exact hp.1 o ho
  · exact hp.2 m o ho p hpos (hs m ha o ho).1

/-- A PRIORITY_BLOCK that outlasts the block moved is for another block, or of the other move. -/
theorem priority_of_moved {x : Txe} {m : Move} {b : Nat} (hs : x.settled) (hb : x.movesBlock m b) {o : PriorityOp}
    (ho : o ∈ x.dropPriority.priority) : o ∈ x.priority ∧ (o.move = m → o.block ≠ b) := by
  rcases hb with ⟨ha, -⟩ | ⟨ha, o', p, ho', hpos, rfl⟩
  · rw [dropPriority_of_priority ha] at ho
    cases ho
  · rw [dropPriority_of_pass ha] at ho
    exact ⟨ho, fun hm hsame => (hs m ha o' ho').2 p hpos o ho hm hsame.symm⟩

theorem blockMoved_setOf_other {k : Ckc} {t : Table} {m m' : Move} {r : Region} {b : Nat} (hm : m' ≠ m) :
    (k.blockMoved t m r b).setOf m' = k.setOf m' := by
  have hmoved : (k.moved m b).setOf m' = k.setOf m' := by
    revert hm
    cases m <;> cases m' <;> intro hm
    · exact absurd rfl hm
    · rfl
    · unfold Ckc.moved
      dsimp only
      split <;> rfl
    · exact absurd rfl hm
  unfold Ckc.blockMoved
  split
  · rw [setState_setOf, hmoved]
  · exact hmoved

theorem sets_moved {m : Move} {r : Region} {b : Nat} (hb : c.txe.movesBlock m b) (h : c.setsSound) :
    ({ c with
      ckc := c.ckc.blockMoved c.table m r b
      txe := c.txe.dropPriority.staled ((c.ckc.blockMoved c.table m r b).setOf m) m } : Core).SetsLoose := by
  obtain ⟨hloose, hsettled⟩ := h
  have hmem := mem_of_movesBlock hloose.placed hsettled hb
  obtain ⟨r', hr'⟩ := hloose.bound.inFlight_of_mem hmem
  obtain ⟨hlocal, hawake⟩ := hloose.of_inFlight hr'
  have hset : (c.ckc.blockMoved c.table m r b).setOf m = BlockSet.remove b (c.ckc.setOf m) := by
    rw [setOf_blockMoved, setOf_moved hmem]
  have hother : ∀ m' ≠ m, ∀ x ∈ c.ckc.setOf m', x ∈ (c.ckc.blockMoved c.table m r b).setOf m' := fun m' hm x hx => by
    rw [blockMoved_setOf_other hm]
    exact hx
  refine setsLoose_of_awake hawake (fun hl => absurd hlocal hl) (hloose.bound.blockMoved m r b)
    (staled_placed (fun o ho => ?_) (hloose.placed.under (dropPriority_under c.txe)).2 hother) ?_
  · obtain ⟨hold, hne⟩ := priority_of_moved hsettled hb ho
    by_cases hm : o.move = m
    · rw [hm, hset]
      exact mem_remove.mpr ⟨hm ▸ hloose.placed.1 o hold, hne hm⟩
    · exact hother _ hm _ (hloose.placed.1 o hold)
  · show (c.txe.dropPriority.staled _ m).clear.map (·.atStart) ≠ some true
    rw [atStart_of_beyondMoves ((staled_beyondMoves _ _ _).trans (dropPriority_beyondMoves _))]
    exact hloose.noStartClear hawake

/-! ### The other slots (R74 to R79, R177) -/

theorem still_scrub {x : Txe} {o : Option ScrubOp} (h : x.still) (ho : x.scrub = none → o = none) :
    ({ x with scrub := o } : Txe).still := by
  obtain ⟨ha, hh⟩ := h
  obtain ⟨hclear, hpriority, hread, hrestore, hcopy, hretire, hscrub⟩ := highest_none_iff.mp hh
  exact ⟨ha, highest_none_iff.mpr ⟨hclear, hpriority, hread, hrestore, hcopy, hretire, ho hscrub⟩⟩

theorem still_read {x : Txe} {o : Option ReadWordOp} (h : x.still) (ho : x.readWord = none → o = none) :
    ({ x with readWord := o } : Txe).still := by
  obtain ⟨ha, hh⟩ := h
  obtain ⟨hclear, hpriority, hread, hrestore, hcopy, hretire, hscrub⟩ := highest_none_iff.mp hh
  exact ⟨ha, highest_none_iff.mpr ⟨hclear, hpriority, ho hread, hrestore, hcopy, hretire, hscrub⟩⟩

theorem still_clear {x : Txe} (h : x.still) : x.clear = none := (highest_none_iff.mp h.2).1

theorem still_retire {x : Txe} (h : x.still) : x.retire = none :=
  have ⟨_, _, _, _, _, hretire, _⟩ := highest_none_iff.mp h.2
  hretire

theorem sets_unretired (h : c.setsSound) : ({ c with txe := c.txe.unretired } : Core).setsSound :=
  ⟨setsLoose_of_txe h.1 (h.1.placed.under under_of_slots) fun hs _ => unretired_still hs,
    h.2.under under_of_slots active_of_unretired⟩

theorem sets_clearSlot {o : ClearOp} {x : Option ClearOp} (ho : c.txe.clear = some o)
    (hx : ∀ o' ∈ x, o'.atStart = o.atStart) (h : c.setsSound) :
    ({ c with txe := { c.txe with clear := x } } : Core).setsSound := by
  refine ⟨{ h.1 with
    placed := h.1.placed.under under_of_slots
    configStill := fun hc => ?_
    startClear := fun hat => h.1.startClear ?_ }, h.2.under under_of_slots fun _ _ => rfl⟩
  · cases (still_clear (h.1.still hc)).symm.trans ho
  · obtain ⟨o', ho', ha⟩ := Option.map_eq_some_iff.mp hat
    rw [ho, Option.map_some, ← hx o' ho', ha]

theorem get_map_startState (t : Table) (r : Region) :
    (t.map startState).get r = if hasAttr (·.checkpoint) t r then .valid else .none := by
  rw [Vector.get_map]
  unfold startState installedState hasAttr
  cases t.get r with
  | none => rfl
  | some d => cases hck : d.attrs.checkpoint <;> simp [hck]

/-- No block is in a set, and no place in a pass, with no pass in flight. -/
theorem placed_of_quiet {x : Txe} {k k' : Ckc} {t : Table} (h : x.placed k) (hb : k.Bound t) (hq : k.quiet) : x.placed k' :=
  h.mono fun m b hmem => by
    rw [hb.setOf_nil fun r => hq r m] at hmem
    cases hmem

theorem sets_startDone {o : ClearOp} (ho : c.txe.clear = some o) (hat : o.atStart = true) (h : c.setsSound) :
    ({ c with
      txe := { c.txe with clear := none }
      control := .run
      ckc := { dirty := [], pass := [], restore := []
               ckState := c.table.map startState } } : Core).setsSound := by
  have hinit : c.control = .init := h.1.startClear (by rw [ho, Option.map_some, hat])
  obtain ⟨-, -, hlocal, hquiet⟩ := h.1.resting (.inr hinit)
  refine ⟨setsLoose_of_awake ⟨nofun, nofun⟩ (fun hl => absurd hlocal hl) (bound_of_empty rfl rfl rfl ?_ ?_)
    ((placed_of_quiet h.1.placed h.1.bound hquiet).under under_of_slots) nofun, h.2.under under_of_slots fun _ _ => rfl⟩
  · intro r hr
    rw [get_map_startState, if_pos hr]
    nofun
  · intro r m
    rw [get_map_startState]
    cases m <;> split <;> nofun

/-- Every group at the port keeps the sets and the work on them sound. -/
theorem sets_engine : Engine Core.setsSound Core.SetsLoose (· ≠ .config) where
  sound := sets_common
  loose := sets_loose
  loosen := And.left
  works := fun hw h hc => hw.elim (absurd (h.1.resting (.inl hc)).1 ·) (absurd (h.1.still hc).1 ·)
  activate := fun hk h => setsLoose_of_txe h (h.placed.under (activate_under _ _))
    (fun hs _ => nomatch hs.2.symm.trans hk) (atStart_of_beyondMoves (activate_beyondMoves _ _))
  passTakes := sets_passTakes
  passEnds := fun h => setsLoose_of_txe h (h.placed.under (setPass_none_under _ _)) (fun hs _ => setPass_none_still hs _)
    (atStart_of_beyondMoves (setPass_beyondMoves _ _ _))
  selected := fun hh ha hn h => ⟨h, settled_of_highest hh ha hn⟩
  idles := sets_idles
  line := fun _ h => ⟨setsLoose_of_txe h.1 (h.1.placed.under under_of_slots) fun hs _ => hs,
    h.2.under under_of_slots fun _ _ => rfl⟩
  moveOffset := fun h => ⟨setsLoose_of_txe h.1 (h.1.placed.under (setMoveOffset_under _ _))
      (fun hs _ => setMoveOffset_still hs _) (atStart_of_beyondMoves (setMoveOffset_beyondMoves _ _)),
    h.2.under (setMoveOffset_under _ _) fun _ _ => (setMoveOffset_active _ _).symm⟩
  retireOffset := fun ho h => ⟨setsLoose_of_txe h.1 (h.1.placed.under under_of_slots)
      (fun hs _ => nomatch (still_retire hs).symm.trans ho),
    h.2.under under_of_slots fun _ _ => rfl⟩
  dropped := fun h => setsLoose_of_txe h.1 (h.1.placed.under (dropPriority_under _)) (fun hs _ => dropPriority_still hs)
    (atStart_of_beyondMoves (dropPriority_beyondMoves _))
  broken := sets_broken
  passBroken := sets_passBroken
  moved := sets_moved
  unretired := sets_unretired
  remapped := fun _ h => setsSound_of_same (sets_unretired h)
  scrubSlot := fun ho h => setsLoose_of_txe h (h.placed.under under_of_slots) fun hs _ => still_scrub hs ho
  readSlot := fun ho h => ⟨setsLoose_of_txe h.1 (h.1.placed.under under_of_slots) fun hs _ => still_read hs ho,
    h.2.under under_of_slots fun _ _ => rfl⟩
  clearSlot := sets_clearSlot
  startDone := sets_startDone
  verdictWritten := fun _ _ h => ⟨{ h.1 with resting := fun hc => ⟨rfl, (h.1.resting hc).2⟩ }, h.2⟩

end

end Sys2Proof.Machine
end

section
/-! PROOFS. Every event and command keeps the sets D, S and R sound (R81, R82, R86, R101, R125); and every step keeps the capacities, the
remap table, the region table, the sets and the marker in hand sound. -/
namespace Sys2Proof.Machine

/-- A verdict starts the passes of a move: no pass of the other move is in flight, and no MARK is kept. -/
def Core.starting (m : Move) (c : Core) : Prop :=
  c.setsSound ∧ (∀ m' ≠ m, c.ckc.idleOf m') ∧ c.awake ∧ c.localMark = none

section
variable {c : Core}

/-! ### Requests (R91, R109, R142, R152, R173) -/

/-- A request to the engine outside CONFIG, where the slots of the block moves stay as they are. -/
theorem sets_requested {x : Txe} (hc : c.control ≠ .config) (h : c.setsSound) (hu : x.under c.txe)
    (ha : x.active = c.txe.active := by rfl)
    (hx : x.clear.map (·.atStart) = c.txe.clear.map (·.atStart) := by rfl) : ({ c with txe := x } : Core).setsSound :=
  ⟨setsLoose_of_txe h.1 (h.1.placed.under hu) (fun _ hc' => absurd hc' hc) hx, h.2.under hu fun _ _ => ha.symm⟩

theorem ne_config_of_inService (h : c.inService) : c.control ≠ .config := by
  rcases h with h | h <;> rw [h] <;> nofun

/-- A PRIORITY_BLOCK is requested for a block of its set that the ACTIVE pass is not on. -/
theorem sets_priority {m : Move} {r : Region} {b : Nat} (hp : c.phase ≠ none) (hb : b ∈ c.ckc.setOf m)
    (hoff : c.txe.active = some m.passKind → ∀ o p, c.txe.passSlot m = some o → o.pos = some p → o.stale = false →
      p.block ≠ b)
    (h : c.setsSound) : ({ c with txe := { c.txe with priority := some ⟨m, r, b, 0, false⟩ } } : Core).setsSound := by
  obtain ⟨hloose, hsettled⟩ := h
  have hplaced : ({ c.txe with priority := some ⟨m, r, b, 0, false⟩ } : Txe).placed c.ckc :=
    ⟨fun o ho => Option.some.inj ho ▸ hb, hloose.placed.2⟩
  refine ⟨setsLoose_of_txe hloose hplaced fun _ hc => absurd (hloose.resting (.inl hc)).1 hp, fun m' ha o ho => ?_⟩
  obtain ⟨hstale, -⟩ := hsettled m' ha o ho
  refine ⟨hstale, fun p hpos q hq hm => ?_⟩
  obtain rfl := Option.some.inj hq
  obtain rfl : m = m' := hm
  exact hoff ha o p ho hpos hstale

/-! ### The verdict and the passes it starts (R86, R101, R125, R134) -/

theorem sets_fixes {k : Mark} (hh : c.held ≠ none) (hq : c.ckc.quiet) (h : c.setsSound) :
    ({ c with localMark := some k } : Core).setsSound :=
  ⟨{ h.1 with
    markQuiet := fun _ => hq
    resting := fun hc => absurd (h.1.resting hc).2.1 hh }, h.2⟩

theorem sets_opens (m : Move) (hm : c.held ≠ none ∧ c.ckc.quiet ∨ c.localMark ≠ none) (h : c.setsSound) :
    ({ c with held := none, localMark := none, verdictDue := true } : Core).starting m := by
  have hquiet : c.ckc.quiet := hm.elim And.right h.1.markQuiet
  have hbusy (hc : c.control = .config ∨ c.control = .init) : False := by
    obtain ⟨-, hheld, hlocal, -⟩ := h.1.resting hc
    exact hm.elim (fun hh => hh.1 hheld) fun hl => hl hlocal
  have hawake : c.awake := ⟨fun hc => hbusy (.inl hc), fun hc => hbusy (.inr hc)⟩
  exact ⟨⟨setsLoose_of_awake hawake (fun hl => absurd rfl hl) h.1.bound h.1.placed (h.1.noStartClear hawake), h.2⟩,
    fun m' _ r => hquiet r m', hawake, rfl⟩

theorem startCopy_setOf (k : Ckc) (t : Table) (r : Region) (m : Move) {b : Nat} (hb : b ∈ k.setOf m) :
    b ∈ (k.startCopy t r).setOf m := by
  unfold Ckc.startCopy
  split
  · split
    · split
      · split
        · exact hb
        · cases m with
          | copy => exact mem_addAll.mpr (.inr hb)
          | restore => exact hb
      · cases m with
        | copy => exact mem_addAll.mpr (.inr hb)
        | restore => exact hb
      · exact hb
    · exact hb
  · exact hb

theorem sets_startsCopy (r : Region) (h : c.starting .copy) :
    ({ c with ckc := c.ckc.startCopy c.table r } : Core).starting .copy := by
  obtain ⟨⟨hloose, hsettled⟩, hidle, hawake, hlocal⟩ := h
  obtain ⟨hbound, hrestore⟩ := hloose.bound.startCopy (hidle .restore nofun) r
  refine ⟨⟨setsLoose_of_awake hawake (fun hl => absurd hlocal hl) hbound
    (hloose.placed.mono fun m _ hb => startCopy_setOf _ _ _ m hb) (hloose.noStartClear hawake), hsettled⟩, ?_, hawake, hlocal⟩
  intro m' hm
  cases m' with
  | copy => exact absurd rfl hm
  | restore => exact hrestore

theorem sets_startsRestore {r : Region} {d : Descriptor} (hd : c.table.get r = some d) (hck : d.attrs.checkpoint = true)
    (h : c.starting .restore) :
    ({ c with ckc := Ckc.setState { c.ckc with
      restore := BlockSet.addAll (c.ckc.dirty.filter d.authorised) c.ckc.restore } r .restoring } : Core).starting .restore := by
  obtain ⟨⟨hloose, hsettled⟩, hidle, hawake, hlocal⟩ := h
  have hcopy := hidle .copy nofun
  refine ⟨⟨setsLoose_of_awake hawake (fun hl => absurd hlocal hl) (hloose.bound.startRestore hcopy hd hck)
    (hloose.placed.mono fun m b hb => ?_) (hloose.noStartClear hawake), hsettled⟩, fun m' hm => ?_, hawake, hlocal⟩
  · cases m with
    | copy => exact hb
    | restore => exact mem_addAll.mpr (.inr hb)
  · cases m' with
    | copy => exact setState_idleOf nofun hcopy
    | restore => exact absurd rfl hm

/-- A pass is requested that has named no block yet (R87, R103). -/
theorem sets_passAsked {m : Move} (hf : ∃ r : Region, c.ckc.ckState.get r = m.inFlight) (h : c.setsSound) :
    ({ c with txe := c.txe.setPass m (some ⟨none, false, false⟩) } : Core).setsSound := by
  obtain ⟨r, hr⟩ := hf
  obtain ⟨hloose, hsettled⟩ := h
  have hawake := (hloose.of_inFlight hr).2
  have hslot {m' : Move} {o : PassOp} (ho : o ∈ (c.txe.setPass m (some ⟨none, false, false⟩)).passSlot m') :
      o = ⟨none, false, false⟩ ∨ o ∈ c.txe.passSlot m' := by
    by_cases hm : m' = m
    · subst hm
      rw [setPass_passSlot_same] at ho
      exact .inl (Option.some.inj ho).symm
    · rw [setPass_passSlot_other hm] at ho
      exact .inr ho
  have hpriority : (c.txe.setPass m (some ⟨none, false, false⟩)).priority = c.txe.priority := setPass_priority _ _ _
  refine ⟨setsLoose_of_txe hloose ⟨fun o ho => hloose.placed.1 o (hpriority ▸ ho), fun m' o ho p hp hs => ?_⟩
    (fun _ hc => absurd hc hawake.1) (atStart_of_beyondMoves (setPass_beyondMoves _ _ _)), fun m' ha o ho => ?_⟩
  · rcases hslot ho with rfl | hold
    · cases hp
    · exact hloose.placed.2 m' o hold p hp hs
  · rcases hslot ho with rfl | hold
    · exact ⟨rfl, nofun⟩
    · obtain ⟨hstale, hoff⟩ := hsettled m' (setPass_active c.txe m _ ▸ ha) o hold
      exact ⟨hstale, fun p hp q hq => hoff p hp q (hpriority ▸ hq)⟩

/-! ### The maintenance commands (R36 to R38, R176 to R180) -/

theorem sets_installsConfig (r : Region) {new : Option Descriptor} (hc : c.control = .config) (h : c.setsSound) :
    ({ c with
      table := c.table.put r new, tag := layoutTagOf (c.table.put r new), field := 0, staging := Staging.empty
      ckc := c.ckc.setState r (installedState new) } : Core).setsSound := by
  obtain ⟨hloose, hsettled⟩ := h
  obtain ⟨hphase, hheld, hlocal, hquiet⟩ := hloose.resting (.inl hc)
  obtain ⟨hdirty, hstill⟩ := hloose.configStill hc
  have htrim : ({ c.ckc with dirty := c.ckc.dirty.filter (checkpointed (c.table.put r new)) } : Ckc) = c.ckc := by
    rw [hdirty, List.filter_nil, ← hdirty]
  have hbound := hloose.bound.installed hquiet r new
  rw [htrim] at hbound
  have hquiet' := quiet_setState (r := r) hquiet (installedState_idle new)
  exact ⟨{
    bound := hbound
    placed := placed_of_quiet hloose.placed hloose.bound hquiet
    markQuiet := fun _ => hquiet'
    resting := fun _ => ⟨hphase, hheld, hlocal, hquiet'⟩
    configStill := fun _ => ⟨hdirty, hstill⟩
    startClear := hloose.startClear }, hsettled⟩

theorem sets_installsHold (r : Region) {new : Option Descriptor} (hc : c.control = .hold) (hq : c.ckc.quiet)
    (h : c.setsSound) :
    ({ c with
      table := c.table.put r new, tag := layoutTagOf (c.table.put r new), field := 0, staging := Staging.empty
      ckc := Ckc.setState { c.ckc with dirty := c.ckc.dirty.filter (checkpointed (c.table.put r new)) } r
        (installedState new) } : Core).setsSound := by
  obtain ⟨hloose, hsettled⟩ := h
  have hawake : c.awake := ⟨by rw [hc]; nofun, by rw [hc]; nofun⟩
  exact ⟨setsLoose_of_awake hawake (fun _ => quiet_setState hq (installedState_idle new)) (hloose.bound.installed hq r new)
    (placed_of_quiet hloose.placed hloose.bound hq) (hloose.noStartClear hawake), hsettled⟩

theorem sets_clearRequested {o : ClearOp} (hc : c.control = .hold) (ho : o.atStart = false) (h : c.setsSound) :
    ({ c with txe := { c.txe with clear := some o } } : Core).setsSound := by
  have hawake : c.awake := ⟨by rw [hc]; nofun, by rw [hc]; nofun⟩
  exact ⟨setsLoose_of_awake hawake h.1.markQuiet h.1.bound (h.1.placed.under under_of_slots)
    (fun hx => nomatch ho.symm.trans (Option.some.inj hx)), h.2.under under_of_slots fun _ _ => rfl⟩

theorem sets_starts {x : Option Nat} {o : ClearOp} (hc : c.control = .config) (h : c.setsSound) :
    ({ c with
      tag := layoutTagOf c.table, scrubTimer := x, txe := { c.txe with clear := some o }, control := .init } : Core).setsSound := by
  obtain ⟨⟨hbound, hplaced, hmark, hrest, -, -⟩, hsettled⟩ := h
  exact ⟨⟨hbound, hplaced.under under_of_slots, hmark, fun _ => hrest (.inl hc), nofun, fun _ => rfl⟩,
    hsettled.under under_of_slots fun _ _ => rfl⟩

/-- RUN and HOLD ask the same of the sets. -/
theorem sets_inService {x : Control} (hc : c.awake) (hx : x ≠ .config ∧ x ≠ .init) (h : c.setsSound) :
    ({ c with control := x } : Core).setsSound :=
  ⟨setsLoose_of_awake hx h.1.markQuiet h.1.bound h.1.placed (h.1.noStartClear hc), h.2⟩

theorem reinitialise_setsSound (t : State) : t.reinitialise.core.setsSound := by
  have hquiet : t.reinitialise.ckc.quiet := fun r m => by
    show (t.rgd.table.map installedState).get r ≠ m.inFlight
    rw [Vector.get_map]
    exact installedState_idle _ m
  refine ⟨{
    bound := bound_of_empty rfl rfl rfl (fun r hr => ?_) hquiet
    placed := ⟨nofun, fun m => by cases m <;> nofun⟩
    markQuiet := fun _ => hquiet
    resting := fun _ => ⟨rfl, rfl, rfl, hquiet⟩
    configStill := fun _ => ⟨rfl, ⟨rfl, rfl⟩, rfl⟩
    startClear := nofun }, nofun⟩
  show (t.rgd.table.map installedState).get r ≠ .none
  rw [get_map_installedState, if_pos (show hasAttr (·.checkpoint) t.rgd.table r = true from hr)]
  nofun

theorem sets_steady : Steady Core.setsSound Core.SetsLoose Core.starting (· ≠ .config) where
  engine := sets_engine
  priority := sets_priority
  scrubRequested := fun ht h => sets_requested (fun hc => ht (h.1.configStill hc).2.2) h under_of_slots
  readRequested := fun hs h => sets_requested (ne_config_of_inService hs) h under_of_slots
  retireRequested := fun hs _ _ h => sets_requested (ne_config_of_inService hs) h under_of_slots
  fixes := sets_fixes
  opens := sets_opens
  startsCopy := sets_startsCopy
  startsRestore := fun hd hck _ h => sets_startsRestore hd hck h
  startsStock := fun _ h => ⟨setsSound_of_same h.1, h.2⟩
  closes := And.left
  passAsked := fun hf _ h => sets_passAsked hf h
  rx := fun _ h => setsSound_of_same h
  discards := fun h => setsSound_of_same h
  loads := fun _ _ h => setsSound_of_same h
  restages := fun _ _ h => setsSound_of_same h
  installsConfig := fun r _ hc _ h => sets_installsConfig r hc h
  installsHold := fun r _ hc hq _ _ h => sets_installsHold r hc hq h
  clearRequested := sets_clearRequested
  setsParam := fun _ _ h => setsSound_of_same h
  loadsRemap := fun _ _ h => setsSound_of_same h
  starts := fun hc _ h => sets_starts hc h
  holds := fun hc h => sets_inService ⟨by rw [hc]; nofun, by rw [hc]; nofun⟩ ⟨nofun, nofun⟩ h
  releases := fun hc h => sets_inService ⟨by rw [hc]; nofun, by rw [hc]; nofun⟩ ⟨nofun, nofun⟩ h
  reinits := fun {_ t} _ _ _ _ => reinitialise_setsSound t
  resets := (core_setsSound State.reset).mpr reset_setsSound

end

/-- R64, R72, R81, R82, R91, R109, R125: every step keeps the sets and the work on them sound. -/
theorem step_keeps_setsSound {s t : State} (hs : s.setsSound) (hstep : step s = .next t) : t.setsSound :=
  (core_setsSound t).mp (sets_steady.step_keeps ((core_setsSound s).mpr hs) hstep)

/-! ### The statement -/

/-- Settles O10: each invariant is a predicate on the core of the state that the changes of every command keep. -/
theorem capacitiesKept : Obligations.CapacitiesKept :=
  ⟨fun _ _ => step_keeps_withinCapacity, fun _ _ => step_keeps_remapSound, fun _ _ => step_keeps_tableSound,
    fun _ _ => step_keeps_setsSound, fun _ _ => step_keeps_markerSound⟩

end Sys2Proof.Machine
end
